-- ==== Sys2Proof/Word.lean ====
section
/-! DEFINITION. The plainest data: bytes, the two positions (section 4.1), pairs indexed by a position, and vectors
with a bounded index. Nothing here depends on a rule that a test could show wrong. -/

namespace Sys2Proof

abbrev Byte := BitVec 8

/-- A card id, 0 to 2^56 − 1 (R71). -/
abbrev CardId := BitVec 56

/-- Characters, one byte each. -/
abbrev Text := List Byte

/-- The two selling positions (section 4.1). -/
inductive Position where
  | A
  | B
deriving DecidableEq, Repr

/-- The opposite position. -/
def Position.other : Position → Position
  | .A => .B
  | .B => .A

/-- One value for each position. -/
structure Pair (α : Type) where
  a : α
  b : α
deriving DecidableEq, Repr

def Pair.get {α : Type} (x : Pair α) : Position → α
  | .A => x.a
  | .B => x.b

def Pair.set {α : Type} (x : Pair α) (p : Position) (v : α) : Pair α :=
  match p with
  | .A => ⟨v, x.b⟩
  | .B => ⟨x.a, v⟩

def Pair.modify {α : Type} (x : Pair α) (p : Position) (f : α → α) : Pair α :=
  x.set p (f (x.get p))

def Pair.map {α β : Type} (f : α → β) (x : Pair α) : Pair β := ⟨f x.a, f x.b⟩

/-- The same value for both positions. -/
def Pair.both {α : Type} (v : α) : Pair α := ⟨v, v⟩

def vget {α : Type} {n : Nat} (v : Vector α n) (i : Fin n) : α := v.get i

def vset {α : Type} {n : Nat} (v : Vector α n) (i : Fin n) (x : α) : Vector α n := v.set i.val x i.isLt

def vmodify {α : Type} {n : Nat} (v : Vector α n) (i : Fin n) (f : α → α) : Vector α n := vset v i (f (vget v i))

def vmap {α β : Type} {n : Nat} (f : α → β) (v : Vector α n) : Vector β n :=
  ⟨⟨v.toList.map f⟩, by simp⟩

def vfill {α : Type} (n : Nat) (x : α) : Vector α n :=
  ⟨⟨List.replicate n x⟩, by simp⟩

/-- The vector whose entry i is f i. -/
def vtab {α : Type} {n : Nat} (f : Fin n → α) : Vector α n :=
  ⟨⟨(List.finRange n).map f⟩, by simp⟩

/-- The six tubes, in order (R42). -/
def sixes : List (Fin 6) := [0, 1, 2, 3, 4, 5]

/-- The eight coin types, print slots, products' classes or bands, in order. -/
def eights : List (Fin 8) := [0, 1, 2, 3, 4, 5, 6, 7]

/-- The four pending-write entries, in order (R88). -/
def fours : List (Fin 4) := [0, 1, 2, 3]

/-- A number as an index below n, where it is one. -/
def toFin? (n : Nat) (k : Nat) : Option (Fin n) := if h : k < n then some ⟨k, h⟩ else none

/-- A 16-bit counter one higher, wrapping. -/
def bump16 (c : BitVec 16) : BitVec 16 := c + 1

/-- A 32-bit counter higher by n, wrapping modulo 2^32. -/
def add32 (c : BitVec 32) (n : Nat) : BitVec 32 := c + BitVec.ofNat 32 n

end Sys2Proof
end

