-- ==== Sys2Proof/Syntax.lean ====
section
/-! DEFINITION. The data of the commands the block takes (cards, money, device events, fare banks, journal records) and
the commands themselves: `Instr`, one constructor per row of spec/opcode_table.json. Constructors of a fixed set of
names carry the names of the spec. -/

namespace Sys2Proof

/-! ### Peripherals (section 4.1, R167) -/

inductive PeriphKind where
  | validator
  | cardModule
  | changer
  | printer
deriving DecidableEq, Repr

/-- The six device link addresses, 1 to 6 (section 4.1). -/
inductive Addr where
  | valA
  | valB
  | cardA
  | cardB
  | changer
  | printer
deriving DecidableEq, Repr

/-! ### Results and modes -/

/-- The result codes of section 4.6, in the order of its table (R206 numbers them from 0). -/
inductive Result where
  | ok | state | busy | unknownRequest | badLength
  | zoneRange | noRoute | productUnknown | classNotAllowed | timeNotSet
  | noCard | cardDenied | cardBlocked | cardSlotsFull | passTooEarly | insufficientValue | topupNotAllowed
  | cardWritesBlocked
  | printerUnavailable | noCoins | journalFull | outOfService | linkLent | tooLate
  | tableFull | unsorted | activationPending | checkMismatch | badTable | tableConflict | protectedReq | range
  | peripheralMissing | refusedByTable
deriving DecidableEq, Repr

/-- The machine mode (R196). -/
inductive Mode where
  | inService
  | outOfService
  | serviceOpen
deriving DecidableEq, Repr

/-! ### Sales -/

inductive Medium where
  | paper
  | card
deriving DecidableEq, Repr

inductive Payment where
  | coins
  | storedValue
deriving DecidableEq, Repr

/-- Product kinds (R7). NONE marks an unused product. -/
inductive ProductKind where
  | unused
  | single
  | returnTrip
  | period
  | topup
deriving DecidableEq, Repr

/-- The fields of a quote request (R99). Numbers outside their ranges are refused by R11's checks. -/
structure QuoteReq where
  product : Nat
  origin : Nat
  dest : Nat
  cls : Nat
  medium : Medium
  payment : Payment
  receipt : Bool
  amount : Nat
deriving DecidableEq, Repr

/-- The seven session states (R100). -/
inductive SessState where
  | idle
  | reading
  | quoted
  | collecting
  | issuing
  | payingOut
  | refunding
deriving DecidableEq, Repr

/-- The end reasons of a session (R100). -/
inductive EndReason where
  | sold | writeFailed | writeForeign | writeUnresolved | ticketFailed | cancelled | lever | inactive
  | quoteExpired | doorOpened | refused | noCard
deriving DecidableEq, Repr

/-- The reasons a SESSION notice carries (R100). -/
inductive ChangeReason where
  | quote | priced | pay | paidInFull | issued
  | ended (r : EndReason)
deriving DecidableEq, Repr

/-- Reasons of a WRITE_FAILED (R75). -/
inductive WriteFault where
  | absent
  | counter
  | error
deriving DecidableEq, Repr

/-- The write outcome of a session record (R99, R114). -/
inductive WriteOutcome where
  | none
  | done
  | notDone (r : WriteFault)
  | foreign
  | torn
deriving DecidableEq, Repr

inductive TicketOutcome where
  | none
  | queued
  | printed
  | failed
deriving DecidableEq, Repr

/-! ### Cards (R71) -/

inductive CardKind where
  | standard
  | concession
deriving DecidableEq, Repr

inductive CardStatus where
  | active
  | blocked
deriving DecidableEq, Repr

/-- A pass in a slot of a card (R71). -/
structure Pass where
  product : Nat
  low : Nat
  high : Nat
  first : Nat
  last : Nat
deriving DecidableEq, Repr

/-- The card image (R71). -/
structure CardImage where
  id : CardId
  kind : CardKind
  cls : Nat
  status : CardStatus
  balance : Nat
  counter : BitVec 16
  topDay : Nat
  dayTotal : Nat
  slot0 : Option Pass
  slot1 : Option Pass
deriving DecidableEq, Repr

/-- The top-up part of a delta (R84, R88): the day of the pricing instant, absent while the time was not valid, and
the amount. -/
structure TopUpDelta where
  day : Option Nat
  amount : Nat
deriving DecidableEq, Repr

/-- What a write changes on its card (R88). -/
structure Delta where
  value : Int
  topUp : Option TopUpDelta
  pass : Option (Fin 2 × Pass)
  block : Bool
deriving DecidableEq, Repr

/-! ### Coins (R22, R27, R28) -/

/-- Where an accepted coin goes: a tube, or the cash box. -/
inductive Dest where
  | tube (t : Fin 6)
  | box
deriving DecidableEq, Repr

inductive RejectReason where
  | unknown | ambiguous | noise | state | busy | inhibited | boxFull | paid | change
deriving DecidableEq, Repr

inductive ReturnReason where
  | late
  | failed
deriving DecidableEq, Repr

inductive Verdict where
  | accept (d : Dest)
  | reject (r : RejectReason)
deriving DecidableEq, Repr

/-- Three samples of one property (section 2.2). -/
structure Samples where
  x : Nat
  y : Nat
  z : Nat
deriving DecidableEq, Repr

/-- The nine readings of a coin at the gate (section 2.2). -/
structure GateReading where
  diameter : Samples
  thickness : Samples
  material : Samples
deriving DecidableEq, Repr

/-- A coin type of the coin table (R22). A routing preference of none is BOX. -/
structure CoinType where
  value : Nat
  diaLo : Nat
  diaHi : Nat
  thickLo : Nat
  thickHi : Nat
  matLo : Nat
  matHi : Nat
  noise : Nat
  strict : Bool
  route : Option (Fin 6)
deriving DecidableEq, Repr

/-! ### Device link events and answers (R175–R178) -/

/-- The printer's status (R138). -/
inductive PrinterStatus where
  | ready
  | paperLow
  | paperOut
  | jammed
deriving DecidableEq, Repr

inductive ValidatorEvent where
  | coinAtGate (seq : Byte) (r : GateReading)
  | coinRouted (seq : Byte) (ctype : Fin 8) (d : Dest)
  | coinReturned (seq : Byte) (r : ReturnReason)
  | returnLever
  | unknown (code : Byte) (data : List Byte)
deriving DecidableEq, Repr

inductive ModuleEvent where
  | fieldFault
  | unknown (code : Byte) (data : List Byte)
deriving DecidableEq, Repr

inductive ChangerEvent where
  | payoutDone (tube : Fin 6) (paid : Nat)
  | payoutJam (tube : Fin 6) (paid : Nat)
  | gauge (tube : Fin 6) (gray : BitVec 6) (parity : Bool)
  | boxState (present : Bool)
  | unknown (code : Byte) (data : List Byte)
deriving DecidableEq, Repr

inductive PrinterEvent where
  | cutDone
  | unknown (code : Byte) (data : List Byte)
deriving DecidableEq, Repr

/-- What a poll answer carries beside its report number, by the kind of the peripheral that gives it
(R175–R178): status, then events, oldest first. -/
inductive PollBody where
  | validator (p : Position) (events : List ValidatorEvent)
  | cardModule (p : Position) (fault : Bool) (events : List ModuleEvent)
  | changer (busy : Option (Fin 6)) (events : List ChangerEvent)
  | printer (st : PrinterStatus) (events : List PrinterEvent)
deriving DecidableEq, Repr

/-- What an ANNOUNCE answer says the peripheral is (R168), with the contents of that kind. -/
inductive Announced where
  | validator
  | cardModule
  | changer (present : Bool)
  | printer (st : PrinterStatus)
  | unknown (kind : Byte)
deriving DecidableEq, Repr

/-- Why a READ failed (R74). -/
inductive ReadFault where
  | absent
  | error
deriving DecidableEq, Repr

/-- An answer of a peripheral, as a PASS answer hands it on (R180): its kind and its content. `other` is one of a kind, or with a
body, that has no form of its own here. -/
inductive DeviceReply where
  | poll (report : Byte) (body : PollBody)
  | announce (k : Announced) (revision : Byte)
  | ack (set : Option (BitVec 8))
  | present (id : CardId)
  | noCard
  | collision
  | image (body : List Byte)
  | readFailed (r : ReadFault)
  | writeOk (id : CardId)
  | writeFailed (id : CardId) (r : WriteFault)
  | writeUncertain (id : CardId)
  | status (st : PrinterStatus)
  | other (kind : Byte) (body : List Byte)
deriving DecidableEq, Repr

/-! ### Fare banks (R5–R10, R131, section 8.6, R181) -/

structure Product where
  kind : ProductKind
  name : Text
  mult : Nat
  classes : BitVec 8
  flat : Nat
  days : Nat
  bandExempt : Bool
  receiptRequired : Bool
deriving DecidableEq, Repr

structure FareClass where
  factor : Nat
  name : Text
deriving DecidableEq, Repr

structure Band where
  days : BitVec 8
  start : Nat
  stop : Nat
  factor : Nat
deriving DecidableEq, Repr

structure CardParams where
  ceiling : Nat
  topMin : Nat
  topMax : Nat
  topStep : Nat
  daily : Nat
deriving DecidableEq, Repr

/-- The template fields, in the order of R132's table (numbered from 1). -/
inductive TField where
  | seq | date | time | position | productName | zones | className | price | paid | change | owed | balance
  | validFrom | validTo | cardTail
deriving DecidableEq, Repr

inductive TItem where
  | text (t : Text)
  | mark (f : TField)
deriving DecidableEq, Repr

structure Template where
  money : Nat
  lines : List (List TItem)
deriving DecidableEq, Repr

inductive PassVerdict where
  | pass
  | drop
  | merge
  | queue
deriving DecidableEq, Repr

structure PassRule where
  kind : PeriphKind
  code : Byte
  verdict : PassVerdict
deriving DecidableEq, Repr

inductive Disposition where
  | forward
  | consume
  | both
deriving DecidableEq, Repr

structure EventRule where
  kind : PeriphKind
  code : Byte
  disp : Disposition
  cls : Nat
deriving DecidableEq, Repr

/-- One fare bank (section 1.2). -/
structure Bank where
  matrix : Vector Nat 256
  ceiling : Nat
  products : Vector Product 32
  classes : Vector FareClass 8
  bands : Vector Band 8
  params : CardParams
  templates : Vector Template 8
  pass : List PassRule
  events : List EventRule
deriving DecidableEq, Repr

/-! ### Sticky faults (R182) -/

inductive Flag where
  | jam | paperLow | paperOut | boxFull | lostCoin | gaugeParity | contention | missing | moduleError
deriving DecidableEq, Repr

/-- One sticky flag set of a peripheral. -/
structure Flags where
  jam : Bool
  paperLow : Bool
  paperOut : Bool
  boxFull : Bool
  lostCoin : Bool
  gaugeParity : Bool
  contention : Bool
  missing : Bool
  moduleError : Bool
deriving DecidableEq, Repr

/-! ### Journal records (R148) -/

/-- The 48 totals (R154). -/
structure Totals where
  coinsIn : Vector (BitVec 32) 8
  valueIn : BitVec 32
  changePaid : BitVec 32
  refundsPaid : BitVec 32
  owed : BitVec 32
  loaded : BitVec 32
  debited : BitVec 32
  sales : Vector (BitVec 32) 32
  freeIssues : BitVec 32
  unresolved : BitVec 32
deriving DecidableEq, Repr

/-- A day, minute and second of the depot clock. -/
structure Stamp where
  day : Nat
  minute : Nat
  second : Nat
deriving DecidableEq, Repr

/-- The kind-specific fields of a SALE or REFUND record (R125). -/
structure SaleRec where
  reason : EndReason
  product : Nat
  zones : Option (Nat × Nat)
  cls : Option Nat
  medium : Medium
  payment : Payment
  price : Nat
  cash : Nat
  clamped : Bool
  reduced : Bool
  free : Bool
  credit : Nat
  changePaid : Nat
  refundPaid : Nat
  priceKept : Nat
  owed : Nat
  cardOwed : Nat
  pending : Bool
  debited : Nat
  creditedBack : Nat
  card : Option CardId
  balanceAfter : Option Nat
  passDays : Option (Nat × Nat)
  payouts : List (Fin 6 × Nat)
deriving DecidableEq, Repr

/-- The kind-specific fields of an INTERRUPTED record (R130). -/
structure InterruptedRec where
  product : Nat
  payment : Payment
  due : Nat
  price : Nat
  free : Bool
  issued : Bool
  write : WriteOutcome
  topUp : Option Nat
  credit : Nat
  changePaid : Nat
  refundPaid : Nat
  debited : Nat
  creditedBack : Nat
  card : Option CardId
  payouts : List (Fin 6 × Nat)
  owed : Nat
deriving DecidableEq, Repr

inductive Resolved where
  | landed
  | completed
  | foreign
deriving DecidableEq, Repr

/-- A requested activation time: NOW, or a depot day and minute (R202). -/
inductive ActTime where
  | now
  | day (d m : Nat)
deriving DecidableEq, Repr

inductive RecordBody where
  | sale (r : SaleRec)
  | refund (r : SaleRec)
  | interrupted (r : InterruptedRec)
  | unclaimedCoin (ctype : Fin 8) (value : Nat) (d : Dest)
  | cardBlocked (card : CardId) (balance : Nat) (sent : Bool)
  | writeResolved (card : CardId) (o : Resolved) (value : Int) (balance : Nat) (owed : Nat)
  | discardedPending (card : CardId) (counter : BitVec 16) (value : Int) (customer : Nat) (created : Stamp)
  | boxRemoved (count : Nat) (values : Vector (BitVec 32) 8) (sum : Nat)
  | boxInserted
  | tubeAdjust (tube : Fin 6) (n : Int) (count : Nat)
  | tableActivated (check : BitVec 16) (time : ActTime) (late : Bool)
  | shiftClose (latch : BitVec 16) (totals : Totals)
deriving DecidableEq, Repr

/-! ### Requests of the sale link -/

/-- Which bank, or the cash tables, a READ_TABLE names (R200). -/
inductive TableSource where
  | live
  | staged
  | cash
deriving DecidableEq, Repr

/-- A pass-channel frame (section 8.6): the peripheral address, the command code and the body. The spec gives no layout
for the body of an INHIBIT or a TEXT frame, so the frame carries beside its bytes what they say when they are read as
an enable set (MERGE, R40) and as a list of text lines (QUEUE, R145). -/
structure PassFrame where
  addr : Nat
  code : Byte
  body : List Byte
  enable : BitVec 8
  lines : List Text
deriving DecidableEq, Repr

/-- The six settings of LINK_TIMING (R170), periods and timeout in ms. -/
structure LinkTiming where
  validator : Nat
  cardModule : Nat
  changer : Nat
  printer : Nat
  answer : Nat
  missing : Nat
deriving DecidableEq, Repr

/-- The four session timer periods of SET_TIMING, in s (R101). -/
structure SessTiming where
  quoteLife : Nat
  inactivity : Nat
  cardWait : Nat
  tearWindow : Nat
deriving DecidableEq, Repr

/-- The commands the block takes: one constructor per row of spec/opcode_table.json, in its order. A request carries the
tag its frame carried (R188); a position that is none, or a mode that is none, is any other value than those the spec
names. `busy` says that a peripheral's frame has begun on the line by the time the controller listens before the frame that the
command may lead it to send (R166); where it is left out of a term the line is free. -/
inductive Instr where
  | quote (tag : Byte) (pos : Option Position) (q : QuoteReq) (busy : Bool := false)
  | pay (tag : Byte) (pos : Option Position) (payment : Payment) (busy : Bool := false)
  | cancel (tag : Byte) (pos : Option Position) (busy : Bool := false)
  | touch (tag : Byte) (pos : Option Position)
  | loadTable (tag : Byte) (table : Nat) (index : Nat) (body : List Byte)
  | clearStaged (tag : Byte)
  | stagedCheck (tag : Byte)
  | readTable (tag : Byte) (src : TableSource) (table : Nat) (index : Nat)
  | activate (tag : Byte) (check : BitVec 16) (time : ActTime)
  | cancelActivation (tag : Byte)
  | cashConfig (tag : Byte) (body : List Byte) (busy : Bool := false)
  | tubeAdjust (tag : Byte) (tube : Nat) (n : Int) (busy : Bool := false)
  | tubeClear (tag : Byte) (tube : Nat) (busy : Bool := false)
  | denyAdd (tag : Byte) (card : CardId)
  | denyRemove (tag : Byte) (card : CardId)
  | denyLoad (tag : Byte) (chunk : List CardId)
  | denyClear (tag : Byte)
  | readJournal (tag : Byte) (n : Nat)
  | confirmJournal (tag : Byte) (seq : BitVec 32)
  | readTotals (tag : Byte)
  | closeShift (tag : Byte)
  | ackFaults (tag : Byte) (sets : Vector Flags 6) (overrun : Bool)
  | lendLink (tag : Byte) (addr : Nat) (limit : Nat) (busy : Bool := false)
  | returnLink (tag : Byte) (busy : Bool := false)
  | setTime (tag : Byte) (day : BitVec 16) (minute : Nat) (second : Nat)
  | setTiming (tag : Byte) (t : SessTiming)
  | linkTiming (tag : Byte) (t : LinkTiming)
  | setMode (tag : Byte) (target : Option Mode)
  | readStatus (tag : Byte)
  | restart (tag : Byte)
  | factoryClear (tag : Byte)
  | discardPending (tag : Byte) (card : CardId)
  | passFrame (tag : Byte) (f : PassFrame) (busy : Bool := false)
  | unknownRequest (channel : Byte) (tag : Byte) (kind : Byte)
  | saleFrameReceived (bytes : List Byte)
  | saleFrameSent (busy : Bool := false)
  | doorOpened (busy : Bool := false)
  | doorClosed (busy : Bool := false)
  | resetLineAsserted
  | resetLineReleased (busy : Bool := false)
  | powerUp (backupLost : Bool) (markerHolds : Bool) (busy : Bool := false)
  | powerLoss
  | clockSecond
  | quoteLifeExpiry (p : Position) (busy : Bool := false)
  | inactivityExpiry (p : Position) (busy : Bool := false)
  | cardWaitExpiry (p : Position) (busy : Bool := false)
  | tearWindowExpiry (p : Position) (busy : Bool := false)
  | settleLimitExpiry (p : Position) (seq : Byte) (busy : Bool := false)
  | cutLimitExpiry (busy : Bool := false)
  | lendLimitExpiry (busy : Bool := false)
  | reclaimGraceExpiry (busy : Bool := false)
  | pollDue (a : Addr) (busy : Bool)
  | answerTimeout (busy : Bool)
  | missingThreshold (a : Addr) (busy : Bool := false)
  | dispensePollLimit (busy : Bool := false)
  | writeAnswerTimeout (p : Position) (busy : Bool := false)
  | deviceFrameDiscarded (bytes : List Byte) (busy : Bool)
  | pollAnswer (report : Byte) (body : PollBody) (busy : Bool)
  | announceAnswer (a : Addr) (kind : Announced) (revision : Byte) (busy : Bool)
  | acknowledgement (a : Addr) (set : Option (BitVec 8)) (busy : Bool)
  | present (p : Position) (card : CardId) (busy : Bool)
  | noCard (p : Position) (busy : Bool)
  | collision (p : Position) (busy : Bool)
  | image (p : Position) (body : List Byte) (busy : Bool)
  | readFailed (p : Position) (r : ReadFault) (busy : Bool)
  | writeOk (p : Position) (card : CardId) (busy : Bool)
  | writeFailed (p : Position) (card : CardId) (r : WriteFault) (busy : Bool)
  | writeUncertain (p : Position) (card : CardId) (busy : Bool)
  | statusAnswer (st : PrinterStatus) (busy : Bool)
  | deviceFrameSent (busy : Bool)
deriving DecidableEq, Repr

end Sys2Proof
end

