-- ==== Sys2Proof/Config.lean ====
section
/-! DEFINITION. The fixed sizes and limits of the block, each with the rule that states it, and the free values: opaque
constants, with no body, for what the spec leaves unstated. -/

namespace Sys2Proof.Config

/-- Records the journal holds at most (R146). -/
def journalCapacity : Nat := 512

/-- Journal count at which a QUOTE or a CLOSE_SHIFT is refused JOURNAL_FULL (R150). -/
def journalGate : Nat := 496

/-- Journal count at which a JOURNAL_LEVEL notice is queued (R151). -/
def journalLevel : Nat := 384

/-- Answers the answer queue holds at most (R192). -/
def answerCapacity : Nat := 16

/-- Notices the notice queue holds at most (R194). -/
def noticeCapacity : Nat := 32

/-- Frames the receive buffer holds at most (R189). -/
def rxCapacity : Nat := 2

/-- Frames the pass-through queue holds at most (R180). -/
def passCapacity : Nat := 8

/-- Entries of an outstanding-verdict list at most (R30). -/
def verdictCapacity : Nat := 4

/-- Card ids the deny list holds at most (R80). -/
def denyCapacity : Nat := 2048

/-- Card ids one DENY_LOAD chunk carries at most (R82). -/
def denyChunk : Nat := 146

/-- Body bytes of a sale link frame at most (R188). -/
def saleBody : Nat := 1024

/-- Body bytes of a device link frame at most (R165). -/
def linkBody : Nat := 64

/-- Coins one DISPENSE commands at most (R57). -/
def dispenseMax : Nat := 25

/-- FREE slots a FREE_TEXT needs (R145). -/
def freeTextSlots : Nat := 3

/-- The length m of the kind-specific part of a record whose kind has fields. FREE VALUE: the spec lays out only the common part
of a record (section 9.7), so how many records fit into one READ_JOURNAL answer (R152) is not stated (log 10). -/
opaque kindPartLength : RecordBody → Nat

/-- The bytes of a READ_JOURNAL answer body beside its records. FREE VALUE: no layout is given (R152; log 10). -/
opaque readJournalHead : Nat

/-- The status that the printer's answer of a kind with no layout carries: the printer carries its status in every answer (R138).
FREE VALUE: section 9.7 lays out no such body (log 52). -/
opaque statusOf (kind : Byte) (body : List Byte) : Option PrinterStatus

/-- A body of the right size holds what a poll answer, an ANNOUNCE answer, a READ_FAILED, a WRITE_FAILED or a status answer
carries. FREE VALUE: section 9.7 lays out none of these bodies (log 52). -/
opaque answerCarries (a : Addr) (kind : Nat) (body : List Byte) : Bool

/-- The revision of the controller that READ_STATUS reports. FREE VALUE: the spec names the field and no value (R198;
log 11). -/
opaque revision : Byte

/-- The request that a frame's body spells for its channel, tag and kind; none where the body does not have the length or
structure of that request. FREE VALUE: section 9.7 lays out no request body but CASH_CONFIG's and the contents of a table
(R190; log 5). -/
opaque requestOf (channel tag kind : Byte) (body : List Byte) : Option Instr

end Sys2Proof.Config
end

