-- ==== Sys2Proof/Machine/Layouts.lean ====
section
/-! DEFINITION. The byte layouts of section 9.7 and the checks of both links: CRC-16 and CRC-8, the card image, the
cash tables, the nine table bodies and the bank serialisation with its check value. Multi-byte numbers are sent most
significant byte first. -/

namespace Sys2Proof.Machine

/-! ### Numbers in bytes -/

/-- The number that a run of bytes spells, most significant byte first (section 9.7). -/
def beNat (bs : List Byte) : Nat := bs.foldl (fun acc b => acc * 256 + b.toNat) 0

/-- n in k bytes, most significant byte first. -/
def beBytes : Nat → Nat → List Byte
  | 0, _ => []
  | k + 1, n => BitVec.ofNat 8 (n / 256 ^ k) :: beBytes k n

/-- The number in the len bytes at offset off. -/
def fieldAt (bs : List Byte) (off len : Nat) : Nat := beNat ((bs.drop off).take len)

/-- A text in n bytes, filled after its end with 00h. -/
def padText (n : Nat) (t : Text) : List Byte := (t ++ List.replicate n 0).take n

/-- A name as it prints: the characters before its first 00h, where its fill begins (log 68). -/
def nameText (t : Text) : Text := t.takeWhile (fun b => decide (b ≠ 0))

/-! ### Checks -/

/-- One bit of the CRC-16 with generator x^16 + x^12 + x^5 + 1, most significant bit first (R188). -/
def crc16Bit (c : Nat) : Nat :=
  if 32768 ≤ c then ((c * 2) % 65536) ^^^ 0x1021 else c * 2

def crc16Byte (c : Nat) (b : Byte) : Nat :=
  crc16Bit (crc16Bit (crc16Bit (crc16Bit (crc16Bit (crc16Bit (crc16Bit (crc16Bit (c ^^^ (b.toNat * 256)))))))))

/-- The CRC-16 of the sale link and of the bank check: initial value FFFFh, no final inversion (R188). -/
def crc16 (bs : List Byte) : BitVec 16 := BitVec.ofNat 16 (bs.foldl crc16Byte 0xFFFF)

/-- One bit of the CRC-8 with generator x^8 + x^2 + x + 1, most significant bit first (R165). -/
def crc8Bit (c : Nat) : Nat :=
  if 128 ≤ c then ((c * 2) % 256) ^^^ 0x07 else c * 2

def crc8Byte (c : Nat) (b : Byte) : Nat :=
  crc8Bit (crc8Bit (crc8Bit (crc8Bit (crc8Bit (crc8Bit (crc8Bit (crc8Bit (c ^^^ b.toNat))))))))

/-- The CRC-8 of the device link: initial value 0, no final inversion (R165). -/
def crc8 (bs : List Byte) : Byte := BitVec.ofNat 8 (bs.foldl crc8Byte 0)

/-! ### Link frames -/

/-- A sale link frame, from the channel to the check (R188, section 9.7). -/
def saleFrameBytes (channel tag kind : Byte) (body : List Byte) : List Byte :=
  let head := channel :: tag :: kind :: (beBytes 2 body.length ++ body)
  head ++ beBytes 2 (crc16 head).toNat

/-- The last two bytes are the CRC-16 over all before them (R188). -/
def saleCheckRight (bs : List Byte) : Bool :=
  decide (7 ≤ bs.length) && decide (fieldAt bs (bs.length - 2) 2 = (crc16 (bs.take (bs.length - 2))).toNat)

/-- A device link frame, from the address to the check (R165, section 9.7). -/
def linkFrameBytes (addr kind : Byte) (body : List Byte) : List Byte :=
  let head := addr :: kind :: (beBytes 1 body.length ++ body)
  head ++ [crc8 head]

/-- The three conditions under which the controller takes a received device link frame (R165): its check is right, its
length is 64 or less, and the body holds exactly the bytes the length gives. -/
def linkFrameTaken (bs : List Byte) : Bool :=
  decide (4 ≤ bs.length) &&
  decide (bs.getLast? = some (crc8 (bs.take (bs.length - 1)))) &&
  decide (fieldAt bs 2 1 ≤ Config.linkBody) &&
  decide (bs.length = fieldAt bs 2 1 + 4)

/-! ### The card image (R71, section 9.7) -/

def passBytes : Option Pass → List Byte
  | none => 0xFF :: List.replicate 6 0
  | some q => beBytes 1 q.product ++ beBytes 1 q.low ++ beBytes 1 q.high ++ beBytes 2 q.first ++ beBytes 2 q.last

def imageBytes (c : CardImage) : List Byte :=
  beBytes 7 c.id.toNat ++ beBytes 1 (match c.kind with | .standard => 0 | .concession => 1) ++ beBytes 1 c.cls ++
  beBytes 1 (match c.status with | .active => 0 | .blocked => 1) ++ beBytes 3 c.balance ++ beBytes 2 c.counter.toNat ++
  beBytes 2 c.topDay ++ beBytes 3 c.dayTotal ++ passBytes c.slot0 ++ passBytes c.slot1

/-- A pass slot in 7 bytes: some none is an empty slot, none is a slot out of range (R71). -/
def passOf (bs : List Byte) : Option (Option Pass) :=
  let q : Pass := ⟨fieldAt bs 0 1, fieldAt bs 1 1, fieldAt bs 2 1, fieldAt bs 3 2, fieldAt bs 5 2⟩
  if q.product = 255 then some none
  else if q.product ≤ 31 ∧ 1 ≤ q.low ∧ q.low ≤ 16 ∧ 1 ≤ q.high ∧ q.high ≤ 16 ∧ q.low ≤ q.high ∧ q.first ≤ q.last then
    some (some q)
  else none

/-- The image a READ answer carries, taken as read only when every field lies in its range (R71). -/
def imageOf (bs : List Byte) : Option CardImage :=
  if bs.length = 34 ∧ fieldAt bs 7 1 ≤ 1 ∧ fieldAt bs 8 1 ≤ 7 ∧ fieldAt bs 9 1 ≤ 1 ∧ fieldAt bs 10 3 ≤ 500000 ∧
      fieldAt bs 17 3 ≤ 500000 then
    match passOf ((bs.drop 20).take 7), passOf ((bs.drop 27).take 7) with
    | some s0, some s1 =>
      some { id := BitVec.ofNat 56 (fieldAt bs 0 7)
             kind := if fieldAt bs 7 1 = 0 then .standard else .concession
             cls := fieldAt bs 8 1
             status := if fieldAt bs 9 1 = 0 then .active else .blocked
             balance := fieldAt bs 10 3
             counter := BitVec.ofNat 16 (fieldAt bs 13 2)
             topDay := fieldAt bs 15 2
             dayTotal := fieldAt bs 17 3
             slot0 := s0
             slot1 := s1 }
    | _, _ => none
  else none

/-! ### The cash tables (R22, R42, R207, section 9.7) -/

/-- The configuration a CASH_CONFIG gives one tube (R70). -/
structure TubeConfig where
  ctype : Option (Fin 8)
  capacity : Nat
  perStep : Nat
  tolerance : Nat
deriving DecidableEq, Repr

/-- What a CASH_CONFIG carries (R207). -/
structure CashTables where
  types : Vector CoinType 8
  tubes : Vector TubeConfig 6
  unit : Nat
  limit : Nat
deriving DecidableEq, Repr

def coinTypeBytes (c : CoinType) : List Byte :=
  beBytes 2 c.value ++ beBytes 2 c.diaLo ++ beBytes 2 c.diaHi ++ beBytes 2 c.thickLo ++ beBytes 2 c.thickHi ++
  beBytes 2 c.matLo ++ beBytes 2 c.matHi ++ beBytes 1 c.noise ++ beBytes 1 (if c.strict then 1 else 0) ++
  (match c.route with | none => [0xFF] | some t => beBytes 1 t.val)

def coinTypeOf (bs : List Byte) : CoinType :=
  { value := fieldAt bs 0 2, diaLo := fieldAt bs 2 2, diaHi := fieldAt bs 4 2, thickLo := fieldAt bs 6 2,
    thickHi := fieldAt bs 8 2, matLo := fieldAt bs 10 2, matHi := fieldAt bs 12 2, noise := fieldAt bs 14 1,
    strict := decide (fieldAt bs 15 1 = 1), route := toFin? 6 (fieldAt bs 16 1) }

/-- Check 2 of R207 on the 17 bytes of one coin type. A STRICT byte other than 0 and 1 is out of range (log 79). -/
def coinTypeInRange (bs : List Byte) : Bool :=
  decide (fieldAt bs 0 2 ≤ 50000) && decide (fieldAt bs 2 2 ≤ 1023) && decide (fieldAt bs 4 2 ≤ 1023) &&
  decide (fieldAt bs 6 2 ≤ 1023) && decide (fieldAt bs 8 2 ≤ 1023) && decide (fieldAt bs 10 2 ≤ 1023) &&
  decide (fieldAt bs 12 2 ≤ 1023) && decide (fieldAt bs 15 1 ≤ 1) &&
  (decide (fieldAt bs 16 1 ≤ 5) || decide (fieldAt bs 16 1 = 255))

def tubeConfigBytes (c : TubeConfig) : List Byte :=
  (match c.ctype with | none => [0xFF] | some k => beBytes 1 k.val) ++ beBytes 1 c.capacity ++ beBytes 1 c.perStep ++
  beBytes 1 c.tolerance

def tubeConfigOf (bs : List Byte) : TubeConfig :=
  { ctype := toFin? 8 (fieldAt bs 0 1), capacity := fieldAt bs 1 1, perStep := fieldAt bs 2 1,
    tolerance := fieldAt bs 3 1 }

/-- Check 2 of R207 on the 4 bytes of one tube. -/
def tubeConfigInRange (bs : List Byte) : Bool :=
  (decide (fieldAt bs 0 1 ≤ 7) || decide (fieldAt bs 0 1 = 255)) &&
  decide (10 ≤ fieldAt bs 1 1) && decide (fieldAt bs 1 1 ≤ 250) &&
  decide (1 ≤ fieldAt bs 2 1) && decide (fieldAt bs 2 1 ≤ 8) && decide (fieldAt bs 3 1 ≤ 20)

def slice (bs : List Byte) (off len : Nat) : List Byte := (bs.drop off).take len

def cashBytes (c : CashTables) : List Byte :=
  (c.types.toList.map coinTypeBytes).flatten ++ (c.tubes.toList.map tubeConfigBytes).flatten ++ beBytes 1 c.unit ++
  beBytes 2 c.limit

def cashOf (bs : List Byte) : CashTables :=
  { types := vtab (fun i => coinTypeOf (slice bs (17 * i.val) 17))
    tubes := vtab (fun i => tubeConfigOf (slice bs (136 + 4 * i.val) 4))
    unit := fieldAt bs 160 1
    limit := fieldAt bs 161 2 }

/-- Check 2 of R207: every field lies in its range. -/
def cashInRange (bs : List Byte) : Bool :=
  eights.all (fun i => coinTypeInRange (slice bs (17 * i.val) 17)) &&
  sixes.all (fun i => tubeConfigInRange (slice bs (136 + 4 * i.val) 4)) &&
  decide (1 ≤ fieldAt bs 160 1) && decide (fieldAt bs 160 1 ≤ 100) &&
  decide (1 ≤ fieldAt bs 161 2) && decide (fieldAt bs 161 2 ≤ 2000)

/-! ### Codes of the bank tables (section 9.7) -/

def PeriphKind.code : PeriphKind → Nat
  | .validator => 1
  | .cardModule => 2
  | .changer => 3
  | .printer => 4

def periphKindOf (n : Nat) : PeriphKind :=
  match n with
  | 1 => .validator
  | 2 => .cardModule
  | 3 => .changer
  | _ => .printer

def productKindCode : ProductKind → Nat
  | .unused => 0
  | .single => 1
  | .returnTrip => 2
  | .period => 3
  | .topup => 4

def productKindOf (n : Nat) : ProductKind :=
  match n with
  | 1 => .single
  | 2 => .returnTrip
  | 3 => .period
  | 4 => .topup
  | _ => .unused

/-- The number of a template field, 1–15 in the order of R132's table. -/
def tfieldCode : TField → Nat
  | .seq => 1 | .date => 2 | .time => 3 | .position => 4 | .productName => 5 | .zones => 6 | .className => 7
  | .price => 8 | .paid => 9 | .change => 10 | .owed => 11 | .balance => 12 | .validFrom => 13 | .validTo => 14
  | .cardTail => 15

def tfieldOf (n : Nat) : Option TField :=
  match n with
  | 1 => some .seq | 2 => some .date | 3 => some .time | 4 => some .position | 5 => some .productName
  | 6 => some .zones | 7 => some .className | 8 => some .price | 9 => some .paid | 10 => some .change
  | 11 => some .owed | 12 => some .balance | 13 => some .validFrom | 14 => some .validTo | 15 => some .cardTail
  | _ => none

def passVerdictCode : PassVerdict → Nat
  | .pass => 0
  | .drop => 1
  | .merge => 2
  | .queue => 3

def passVerdictOf (n : Nat) : PassVerdict :=
  match n with
  | 0 => .pass
  | 2 => .merge
  | 3 => .queue
  | _ => .drop

def dispositionCode : Disposition → Nat
  | .forward => 0
  | .consume => 1
  | .both => 2

def dispositionOf (n : Nat) : Disposition :=
  match n with
  | 0 => .forward
  | 2 => .both
  | _ => .consume

/-! ### Table bodies (section 9.7) -/

def productBytes (p : Product) : List Byte :=
  beBytes 1 (productKindCode p.kind) ++ padText 20 p.name ++ beBytes 2 p.mult ++ [p.classes] ++ beBytes 2 p.flat ++
  beBytes 1 p.days ++ beBytes 1 ((if p.bandExempt then 1 else 0) + (if p.receiptRequired then 2 else 0))

/-- A product's flags byte is kept as its two named bits; any value is loaded, and bits 2–7 are not kept (log 71). -/
def productOf (bs : List Byte) : Product :=
  { kind := productKindOf (fieldAt bs 0 1), name := slice bs 1 20, mult := fieldAt bs 21 2,
    classes := BitVec.ofNat 8 (fieldAt bs 23 1), flat := fieldAt bs 24 2, days := fieldAt bs 26 1,
    bandExempt := (fieldAt bs 27 1).testBit 0, receiptRequired := (fieldAt bs 27 1).testBit 1 }

def classBytes (c : FareClass) : List Byte := beBytes 2 c.factor ++ padText 12 c.name

def classOf (bs : List Byte) : FareClass := { factor := fieldAt bs 0 2, name := slice bs 2 12 }

def bandBytes (b : Band) : List Byte := [b.days] ++ beBytes 2 b.start ++ beBytes 2 b.stop ++ beBytes 2 b.factor

def bandOf (bs : List Byte) : Band :=
  { days := BitVec.ofNat 8 (fieldAt bs 0 1), start := fieldAt bs 1 2, stop := fieldAt bs 3 2, factor := fieldAt bs 5 2 }

def paramBytes (c : CardParams) : List Byte :=
  beBytes 4 c.ceiling ++ beBytes 4 c.topMin ++ beBytes 4 c.topMax ++ beBytes 4 c.topStep ++ beBytes 4 c.daily

def paramsOf (bs : List Byte) : CardParams :=
  { ceiling := fieldAt bs 0 4, topMin := fieldAt bs 4 4, topMax := fieldAt bs 8 4, topStep := fieldAt bs 12 4,
    daily := fieldAt bs 16 4 }

def itemBytes : TItem → List Byte
  | .text t => 1 :: (beBytes 1 t.length ++ t)
  | .mark f => 2 :: beBytes 1 (tfieldCode f)

def lineBytes (l : List TItem) : List Byte :=
  let items := (l.map itemBytes).flatten
  beBytes 1 items.length ++ items

def templateBytes (t : Template) : List Byte :=
  beBytes 1 t.money ++ beBytes 1 t.lines.length ++ (t.lines.map lineBytes).flatten

/-- An item as its bytes give it, before its ranges are checked: a text run, or a field mark's number. -/
inductive RawItem where
  | text (t : Text)
  | mark (n : Nat)
deriving DecidableEq, Repr

/-- The items of a line's bytes; none where the bytes do not match the layout. -/
def rawItems : Nat → List Byte → Option (List RawItem)
  | _, [] => some []
  | 0, _ :: _ => none
  | _ + 1, [_] => none
  | k + 1, c :: n :: rest =>
    if c = 1 then
      if n.toNat ≤ rest.length then (rawItems k (rest.drop n.toNat)).map (RawItem.text (rest.take n.toNat) :: ·)
      else none
    else if c = 2 then (rawItems k rest).map (RawItem.mark n.toNat :: ·)
    else none

/-- The lines of a template body after its two leading bytes, each with its item byte count; none where the bytes do
not match the line count or an item byte count. -/
def rawLines : Nat → List Byte → Option (List (Nat × List RawItem))
  | 0, [] => some []
  | 0, _ :: _ => none
  | _ + 1, [] => none
  | k + 1, n :: rest =>
    if n.toNat ≤ rest.length then
      match rawItems n.toNat (rest.take n.toNat), rawLines k (rest.drop n.toNat) with
      | some items, some more => some ((n.toNat, items) :: more)
      | _, _ => none
    else none

def rawItemInRange : RawItem → Bool
  | .text t => decide (1 ≤ t.length) && decide (t.length ≤ 48)
  | .mark n => decide (1 ≤ n) && decide (n ≤ 15)

def rawItemChars : RawItem → Nat
  | .text t => t.length
  | .mark _ => 0

/-- The load ranges of a template line (R199): at most 80 item bytes, text runs of 1–48 characters and 48 in all, marks
1–15. -/
def rawLineInRange (l : Nat × List RawItem) : Bool :=
  decide (l.1 ≤ 80) && l.2.all rawItemInRange && decide ((l.2.map rawItemChars).sum ≤ 48)

def itemOf : RawItem → TItem
  | .text t => .text t
  | .mark n => .mark ((tfieldOf n).getD .seq)

def passRuleBytes (r : PassRule) : List Byte :=
  beBytes 1 (PeriphKind.code r.kind) ++ [r.code] ++ beBytes 1 (passVerdictCode r.verdict)

def passTableBytes (rs : List PassRule) : List Byte := beBytes 1 rs.length ++ (rs.map passRuleBytes).flatten

def eventRuleBytes (r : EventRule) : List Byte :=
  beBytes 1 (PeriphKind.code r.kind) ++ [r.code] ++ beBytes 1 (dispositionCode r.disp) ++ beBytes 1 r.cls

def eventTableBytes (rs : List EventRule) : List Byte := beBytes 1 rs.length ++ (rs.map eventRuleBytes).flatten

/-- The k entries of size n that follow a table's count byte. -/
def entriesOf (bs : List Byte) (n : Nat) : List (List Byte) :=
  (List.range (fieldAt bs 0 1)).map (fun i => slice bs (1 + n * i) n)

def passRuleOf (e : List Byte) : PassRule :=
  { kind := periphKindOf (fieldAt e 0 1), code := BitVec.ofNat 8 (fieldAt e 1 1), verdict := passVerdictOf (fieldAt e 2 1) }

def eventRuleOf (e : List Byte) : EventRule :=
  { kind := periphKindOf (fieldAt e 0 1), code := BitVec.ofNat 8 (fieldAt e 1 1), disp := dispositionOf (fieldAt e 2 1),
    cls := fieldAt e 3 1 }

/-- The key a pass or event table is sorted by: peripheral kind, then code (R199). -/
def entryKey (e : List Byte) : Nat := fieldAt e 0 1 * 256 + fieldAt e 1 1

/-- Strictly ascending. -/
def ascending : List Nat → Bool
  | [] => true
  | [_] => true
  | a :: b :: rest => decide (a < b) && ascending (b :: rest)

/-! ### Banks -/

def Product.cleared : Product :=
  { kind := .unused, name := List.replicate 20 0, mult := 0, classes := 0, flat := 0, days := 0, bandExempt := false,
    receiptRequired := false }

/-- The contents of a cleared bank (R5, R131, section 8.6, R181). Beside what R5 names, the fields of an unused product
are zero, and an empty name is its 00h fill (log 8). -/
def clearedBank : Bank :=
  { matrix := vfill 256 0
    ceiling := 0
    products := vfill 32 Product.cleared
    classes := vfill 8 { factor := 0, name := List.replicate 12 0 }
    bands := vfill 8 { days := 0, start := 0, stop := 1, factor := 1024 }
    params := { ceiling := 0, topMin := 0, topMax := 0, topStep := 0, daily := 0 }
    templates := vfill 8 { money := 0, lines := [] }
    pass := []
    events := [] }

def matrixBytes (b : Bank) : List Byte := (b.matrix.toList.map (beBytes 2)).flatten

/-- The serialisation of a bank (R201, section 9.7): the bodies of its nine tables, in their fixed order. -/
def bankBytes (b : Bank) : List Byte :=
  matrixBytes b ++ beBytes 2 b.ceiling ++ (b.products.toList.map productBytes).flatten ++
  (b.classes.toList.map classBytes).flatten ++ (b.bands.toList.map bandBytes).flatten ++ paramBytes b.params ++
  (b.templates.toList.map templateBytes).flatten ++ passTableBytes b.pass ++ eventTableBytes b.events

/-- The check value of a bank (R201). -/
def bankCheck (b : Bank) : BitVec 16 := crc16 (bankBytes b)

/-- The body of one table of a bank, in the layout LOAD_TABLE takes (R200); none for a table or an index outside its
range. -/
def tableBytes (b : Bank) (table index : Nat) : Option (List Byte) :=
  if table = 7 then (toFin? 8 index).map (fun i => templateBytes (vget b.templates i))
  else if index ≠ 0 then none
  else match table with
    | 1 => some (matrixBytes b)
    | 2 => some (b.products.toList.map productBytes).flatten
    | 3 => some (b.classes.toList.map classBytes).flatten
    | 4 => some (b.bands.toList.map bandBytes).flatten
    | 5 => some (beBytes 2 b.ceiling)
    | 6 => some (paramBytes b.params)
    | 8 => some (passTableBytes b.pass)
    | 9 => some (eventTableBytes b.events)
    | _ => none

/-! ### Loading a table (R199, checks 2 to 5) -/

def productInRange (bs : List Byte) : Bool :=
  decide (fieldAt bs 0 1 ≤ 4) && decide (fieldAt bs 21 2 ≤ 2048) &&
  (decide (fieldAt bs 0 1 ≠ 3) || (decide (1 ≤ fieldAt bs 26 1) && decide (fieldAt bs 26 1 ≤ 31)))

def bandInRange (bs : List Byte) : Bool :=
  decide (fieldAt bs 0 1 < 128) && decide (fieldAt bs 1 2 ≤ 1439) && decide (1 ≤ fieldAt bs 3 2) &&
  decide (fieldAt bs 3 2 ≤ 1440)

def passEntryInRange (e : List Byte) : Bool :=
  decide (1 ≤ fieldAt e 0 1) && decide (fieldAt e 0 1 ≤ 4) && decide (fieldAt e 2 1 ≤ 3)

def eventEntryInRange (e : List Byte) : Bool :=
  decide (1 ≤ fieldAt e 0 1) && decide (fieldAt e 0 1 ≤ 4) && decide (fieldAt e 2 1 ≤ 2) && decide (fieldAt e 3 1 ≤ 3)

/-- A load of the template with the given index (R199): BAD_LENGTH, then RANGE. -/
def loadTemplate (i : Fin 8) (body : List Byte) (b : Bank) : Except Result Bank :=
  match body with
  | money :: count :: rest =>
    match rawLines count.toNat rest with
    | none => .error .badLength
    | some ls =>
      if money.toNat ≤ 3 ∧ count.toNat ≤ 12 ∧ ls.all rawLineInRange = true then
        .ok { b with templates := vset b.templates i { money := money.toNat, lines := ls.map (fun l => l.2.map itemOf) } }
      else .error .range
  | _ => .error .badLength

def loadPassTable (body : List Byte) (b : Bank) : Except Result Bank :=
  if body.length ≠ 1 + 3 * fieldAt body 0 1 ∨ body = [] then .error .badLength
  else
    let es := entriesOf body 3
    if 64 < fieldAt body 0 1 ∨ es.all passEntryInRange = false then .error .range
    else if ascending (es.map entryKey) then .ok { b with pass := es.map passRuleOf }
    else .error .unsorted

def loadEventTable (body : List Byte) (b : Bank) : Except Result Bank :=
  if body.length ≠ 1 + 4 * fieldAt body 0 1 ∨ body = [] then .error .badLength
  else
    let es := entriesOf body 4
    if 64 < fieldAt body 0 1 ∨ es.all eventEntryInRange = false then .error .range
    else if ascending (es.map entryKey) then .ok { b with events := es.map eventRuleOf }
    else .error .unsorted

/-- Checks 2 to 5 of R199 in their order, and the bank with the table replaced. -/
def loadInto (table index : Nat) (body : List Byte) (b : Bank) : Except Result Bank :=
  if table = 7 then
    match toFin? 8 index with
    | none => .error .range
    | some i => loadTemplate i body b
  else if index ≠ 0 then .error .range
  else match table with
    | 1 =>
      if body.length ≠ 512 then .error .badLength
      else .ok { b with matrix := vtab (fun i => fieldAt body (2 * i.val) 2) }
    | 2 =>
      if body.length ≠ 896 then .error .badLength
      else if (List.range 32).all (fun i => productInRange (slice body (28 * i) 28)) then
        .ok { b with products := vtab (fun i => productOf (slice body (28 * i.val) 28)) }
      else .error .range
    | 3 =>
      if body.length ≠ 112 then .error .badLength
      else if (List.range 8).all (fun i => decide (fieldAt body (14 * i) 2 ≤ 1024)) then
        .ok { b with classes := vtab (fun i => classOf (slice body (14 * i.val) 14)) }
      else .error .range
    | 4 =>
      if body.length ≠ 56 then .error .badLength
      else if (List.range 8).all (fun i => bandInRange (slice body (7 * i) 7)) then
        .ok { b with bands := vtab (fun i => bandOf (slice body (7 * i.val) 7)) }
      else .error .range
    | 5 => if body.length ≠ 2 then .error .badLength else .ok { b with ceiling := fieldAt body 0 2 }
    | 6 =>
      if body.length ≠ 20 then .error .badLength
      else if (List.range 5).all (fun i => decide (fieldAt body (4 * i) 4 ≤ 500000)) then
        .ok { b with params := paramsOf body }
      else .error .range
    | 8 => loadPassTable body b
    | 9 => loadEventTable body b
    | _ => .error .range

/-- The check value of the cleared bank: `bankCheck clearedBank`, worked out (R198). -/
def clearedCheck : BitVec 16 := 0x2E59

end Sys2Proof.Machine
end

