-- ==== Sys2Proof/Machine/State.lean ====
section
/-! DEFINITION. The state of the block, one structure for each block of section 2.1, the queue of waiting commands, and
the state after reset. Fields marked MODEL are the model's own (log 37): they order events or name what the spec's
registers leave implicit. -/

namespace Sys2Proof.Machine

/-- Reasons a step stops with a fault. The spec gives every command an effect, so no meaning of this model raises one;
the type is not empty only so that the host's interface has a value of it. Safe: nothing is cut short by it. -/
inductive Fault where
  /-- Raised by no meaning. Safe. -/
  | unraised
deriving DecidableEq, Repr

/-- Reasons a command has no meaning. -/
inductive Refusal where
  /-- A command that the model has not reached; raised by `exec`'s arms alone. Safe: the run stops. No arm raises it. -/
  | notModelled (mnemonic : String)
deriving DecidableEq, Repr

/-! ### Fare engine (chapter 1, sections 9.4 and 9.5) -/

/-- The depot clock (R1). -/
structure Clock where
  day : Nat
  minute : Nat
  second : Nat
  valid : Bool
deriving DecidableEq, Repr

/-- A pending scheduled activation (R204). -/
structure PendingAct where
  day : Nat
  minute : Nat
  check : BitVec 16
deriving DecidableEq, Repr

structure Fare where
  live : Bank
  staged : Bank
  liveCheck : BitVec 16
  act : Option PendingAct
  clock : Clock
deriving DecidableEq, Repr

/-! ### Cash tables (R22, R162, R207) -/

/-- The parts of the cash tables that are not held with the tubes. -/
structure Cash where
  types : Vector CoinType 8
  unit : Nat
  limit : Nat
deriving DecidableEq, Repr

/-! ### Coin classifier (chapter 2) -/

/-- An entry of an outstanding-verdict list (R30). Its settle timer runs as long as the entry is listed. -/
structure Outstanding where
  seq : Byte
  ctype : Fin 8
  value : Nat
  dest : Dest
  session : Nat
deriving DecidableEq, Repr

/-- What the classifier holds for one position. -/
structure Lane where
  list : List Outstanding
  last : Option (Byte × Verdict)
  rejects : Vector (BitVec 16) 9
  returnedLate : BitVec 16
  returnedFailed : BitVec 16
  spMask : BitVec 8
  lastMask : BitVec 8
deriving DecidableEq, Repr

/-! ### Change store (chapter 3) -/

inductive TubeState where
  | active
  | doubt
  | jammed
  | disabled
deriving DecidableEq, Repr

/-- A tube record (R42) with its accounts (R44). Its denomination is the value of its coin type in the coin table. -/
structure Tube where
  ctype : Option (Fin 8)
  capacity : Nat
  count : Nat
  state : TubeState
  perStep : Nat
  tolerance : Nat
  estimate : Option Nat
  doubt : Nat
  clear : Nat
  routedIn : BitVec 32
  paidOut : BitVec 32
  added : BitVec 32
  removed : BitVec 32
  writtenOff : BitVec 32
deriving DecidableEq, Repr

/-- The cash box record (R45). -/
structure Box where
  present : Bool
  count : Nat
  values : Vector (BitVec 32) 8
deriving DecidableEq, Repr

inductive ResMode where
  | none
  | cover
  | provisional
  | hold
deriving DecidableEq, Repr

/-- A (tube, count) list (R54). -/
abbrev Plan := List (Fin 6 × Nat)

/-- A DISPENSE formed for a position and not yet handed to the device link (R57). -/
structure WaitingDispense where
  tube : Fin 6
  count : Nat
  age : Nat
deriving DecidableEq, Repr

/-- A position's part of the reservation table (R46): the plan with the amount it makes, of which a payout in progress leaves
what it has not yet paid (R59), the part of the amount asked for that a short plan does not make, and the payout in
progress. MODEL: `short`, `paying`, `waiting` (R57). -/
structure Reserve where
  mode : ResMode
  reserved : Vector Nat 6
  cover : Vector Nat 6
  plan : Plan
  amount : Nat
  short : Nat
  paying : Bool
  waiting : Option WaitingDispense
deriving DecidableEq, Repr

/-- The DISPENSE handed to the device link (R57): ready, or outstanding once sent, and whether the changer acknowledged
it (R177). -/
structure Dispense where
  pos : Position
  tube : Fin 6
  count : Nat
  age : Nat
  sent : Bool
  acked : Bool
deriving DecidableEq, Repr

structure ChangeStore where
  tubes : Vector Tube 6
  box : Box
  resv : Pair Reserve
  dispense : Option Dispense
  /-- MODEL: polls of the changer left unanswered in a row while a DISPENSE is outstanding (R60). -/
  misses : Nat
  parityErrors : BitVec 16
deriving DecidableEq, Repr

/-! ### Card transaction unit (chapter 4) -/

inductive EntryState where
  | free
  | reserved
  | writing
  | torn
  | resolving
deriving DecidableEq, Repr

/-- A pending-write entry (R88). MODEL: `excess`, the amount its write cut off at the card ceiling (R89). -/
structure PendingEntry where
  state : EntryState
  owner : Option (Position × Nat)
  card : Option CardId
  before : BitVec 16
  delta : Delta
  customer : Nat
  created : Stamp
  excess : Nat
deriving DecidableEq, Repr

/-- A card read in progress (R77), and its waits on another write of its card (R94) and on a completion (R96). -/
inductive ReadPhase where
  | none
  | detecting
  | reading (x : CardId)
  | awaiting (x : CardId)
  | resolving (e : Fin 4)
deriving DecidableEq, Repr

structure Cards where
  deny : List CardId
  entries : Vector PendingEntry 4
  reads : Pair ReadPhase
deriving DecidableEq, Repr

inductive WritePurpose where
  | sale
  | block
  | creditBack
  | completion
deriving DecidableEq, Repr

/-- A WRITE (R75): the entry it is made under, its expected counter and its new image. -/
structure CardWrite where
  entry : Fin 4
  purpose : WritePurpose
  expected : BitVec 16
  image : CardImage
  excess : Nat
deriving DecidableEq, Repr

/-- A card command; DETECT and READ carry the session they are sent for. -/
inductive CardCmd where
  | detect (session : Nat) (credit : Bool)
  | read (session : Nat) (x : CardId)
  | write (w : CardWrite)
deriving DecidableEq, Repr

/-! ### Sale sessions (chapter 5) -/

/-- The card fields of a quote result (R79). -/
structure CardQuote where
  id : CardId
  balance : Nat
  topUp : Option Nat
  topDay : Option Nat
  slot : Option (Fin 2)
  chaining : Bool
  expired : Bool
deriving DecidableEq, Repr

/-- The quote result (R21). -/
structure QuoteResult where
  product : Nat
  kind : ProductKind
  zones : Option (Nat × Nat)
  cls : Option Nat
  price : Nat
  cash : Nat
  clamped : Bool
  reduced : Bool
  free : Bool
  days : Option (Nat × Nat)
  receipt : Bool
  card : Option CardQuote
deriving DecidableEq, Repr

/-- MODEL: what a session waits for inside its state (R113–R123). -/
inductive Stage where
  | none
  | cardWrite
  | torn
  | ticket
  | creditDetect
  | creditWrite
  | paying
  | refundWait
  | held
deriving DecidableEq, Repr

/-- A timer: stopped, or running with the period it was started with (section 4.3; log 3). -/
abbrev Timer := Option Nat

/-- A session record (R99). MODEL: `serial` names the session, `tag` its deferred QUOTE, `stage` its wait, `issued` that
issuing succeeded, `refunded` that it passed through REFUNDING, `planned` that a refund was planned, `balanceAfter` and
`loaded` what its card write left. -/
structure Session where
  serial : Nat
  tag : Byte
  state : SessState
  stage : Stage
  req : Option QuoteReq
  result : Option QuoteResult
  payment : Option Payment
  due : Nat
  credit : Nat
  change : Nat
  further : Nat
  changePaid : Nat
  refundPaid : Nat
  debited : Nat
  creditedBack : Nat
  priceKept : Nat
  owed : Nat
  cardOwed : Nat
  pending : Bool
  payouts : List (Fin 6 × Nat)
  write : WriteOutcome
  ticket : TicketOutcome
  held : Option CardImage
  entry : Option (Fin 4)
  slot : Option (Fin 8)
  quoteLife : Timer
  inactivity : Timer
  cardWait : Timer
  tearWindow : Timer
  endReason : Option EndReason
  issued : Bool
  refunded : Bool
  planned : Bool
  balanceAfter : Option Nat
  loaded : Nat
deriving DecidableEq, Repr

structure Sales where
  sess : Pair Session
  timing : SessTiming
deriving DecidableEq, Repr

/-! ### Print unit (chapter 6) -/

inductive JobKind where
  | ticket
  | receipt
  | owedSlip
  | freeText
deriving DecidableEq, Repr

/-- The sale fields a job prints, captured when it is queued (R132, R134). -/
structure SaleFields where
  product : Nat
  kind : ProductKind
  zones : Option (Nat × Nat)
  cls : Option Nat
  payment : Payment
  free : Bool
  price : Nat
  cash : Nat
  credit : Nat
  change : Nat
  owed : Nat
  balance : Option Nat
  days : Option (Nat × Nat)
  card : Option CardId
deriving DecidableEq, Repr

/-- A job record (R134). -/
structure Job where
  kind : JobKind
  pos : Option Position
  queueNo : BitVec 32
  time : Option Stamp
  sale : Option SaleFields
  seq : Option (BitVec 32)
  pending : Bool
  tag : Byte
  lines : List Text
deriving DecidableEq, Repr

/-- A job or void stub being printed (R139): its lines, how many the printer has taken, its command ready at level 4
with its age, whether its CUT was sent and answered, and whether the cut limit runs. MODEL: `serial`. -/
structure Progress where
  serial : Nat
  lines : List Text
  taken : Nat
  ready : Option Nat
  cutSent : Bool
  cutAnswered : Bool
  limit : Bool
deriving DecidableEq, Repr

inductive Slot where
  | free
  | reserved (p : Position)
  | waiting (j : Job)
  | active (j : Job) (g : Progress)
deriving DecidableEq, Repr

structure PrintUnit where
  slots : Vector Slot 8
  queueNo : BitVec 32
  /-- The printer's last status; none is UNKNOWN (R138). -/
  last : Option PrinterStatus
  /-- Void-pending, with the copied fields of the failed job (R141). -/
  void : Option Job
  stub : Option Progress
  /-- MODEL: the printer was lent and has given no answer since (R142). -/
  stale : Bool
  /-- MODEL: numbers the jobs and stubs begun. -/
  serial : Nat
  printed : Vector (BitVec 16) 4
  failed : Vector (BitVec 16) 4
  droppedReceipt : BitVec 16
  droppedSlip : BitVec 16
  notesLost : BitVec 16
deriving DecidableEq, Repr

/-! ### Journal unit (chapter 7) -/

inductive StartCause where
  | powerUp
  | backupLost
  | markerLost
  | resetLine
  | restartRequest
  | factoryClear
deriving DecidableEq, Repr

/-- The last start record (R160). -/
structure StartRec where
  cold : Bool
  cause : StartCause
deriving DecidableEq, Repr

/-- A journal record: its common part (R147, section 9.7) and its kind-specific fields. -/
structure Record where
  seq : BitVec 32
  pos : Option Position
  day : Nat
  minute : Nat
  second : Nat
  timeInvalid : Bool
  receiptNote : Bool
  slipNote : Bool
  body : RecordBody
deriving DecidableEq, Repr

structure Journal where
  records : List Record
  next : BitVec 32
  notWritten : BitVec 32
  running : Totals
  latched : Totals
  latchCount : BitVec 16
  /-- The retained-store marker holds its pattern (R160). -/
  marker : Bool
  lastStart : StartRec
deriving DecidableEq, Repr

/-! ### Device link controller (chapter 8) -/

inductive PeriphState where
  | unknown
  | online
  | missing
deriving DecidableEq, Repr

/-- The link counters of a peripheral (R173). -/
structure LinkCounters where
  sent : BitVec 16
  answers : BitVec 16
  unanswered : BitVec 16
  checkErrors : BitVec 16
  repeats : BitVec 16
  deferrals : BitVec 16
  collisions : BitVec 16
deriving DecidableEq, Repr

/-- An entry of the peripheral table (R167). `pollDue` is the age of a poll that is due and not yet sent. MODEL:
`announceNext`, the next poll is an ANNOUNCE whatever the state (R187); `missingDue`, the streak reached the threshold at
the last unanswered exchange (R169; log 14). -/
structure Peripheral where
  state : PeriphState
  revision : Option Byte
  streak : Nat
  lastReport : Option Byte
  pollDue : Option Nat
  flags : Flags
  counters : LinkCounters
  announceNext : Bool
  missingDue : Bool
deriving DecidableEq, Repr

/-- An accepted pass-through frame (R180). On the line `unfiltered` says that the frame was sent during a lend (R185). -/
structure QueuedPass where
  tag : Byte
  addr : Addr
  code : Byte
  body : List Byte
  unfiltered : Bool
deriving DecidableEq, Repr

/-- A frame the controller sends on the device link. -/
inductive LinkFrame where
  | poll (a : Addr) (confirm : Option Byte)
  | announce (a : Addr)
  | verdict (p : Position) (seq : Byte) (v : Verdict)
  | inhibit (p : Position) (set : BitVec 8)
  | dispense (p : Position) (tube : Fin 6) (count : Nat)
  | card (p : Position) (c : CardCmd)
  | line (serial : Nat) (t : Text)
  | cut (serial : Nat)
  | pass (f : QueuedPass)
deriving DecidableEq, Repr

/-- A frame with the moment it became ready (R174). -/
structure ReadyFrame where
  age : Nat
  frame : LinkFrame
deriving DecidableEq, Repr

/-- A card command ready at level 3 (R174). -/
structure CardFrame where
  pos : Position
  age : Nat
  cmd : CardCmd
deriving DecidableEq, Repr

/-- A VERDICT ready at level 1 (R30, R174). -/
structure ReadyVerdict where
  pos : Position
  age : Nat
  seq : Byte
  verdict : Verdict
deriving DecidableEq, Repr

/-- The device link (R166): idle, a frame of the controller on it, an answer window open, or a peripheral's frame that
the controller did not ask for. -/
inductive Line where
  | idle
  | sending (r : ReadyFrame)
  | window (r : ReadyFrame)
  | foreign
deriving DecidableEq, Repr

inductive ReclaimCause where
  | limit
  | door
deriving DecidableEq, Repr

/-- The phases of a lend (R184, R186). In LENT the lend limit timer runs, in RECLAIMING the grace. -/
inductive LendPhase where
  | lent
  | reclaiming (c : ReclaimCause)
deriving DecidableEq, Repr

structure Lend where
  addr : Addr
  limit : Nat
  phase : LendPhase
deriving DecidableEq, Repr

structure Link where
  periph : Vector Peripheral 6
  timing : LinkTiming
  line : Line
  verdicts : List ReadyVerdict
  /-- The INHIBIT waiting for each validator, with its age (R41). -/
  inhibit : Pair (Option (Nat × BitVec 8))
  /-- The INHIBIT in its exchange, as it stays waiting if it is left unanswered: it takes each new set and is withdrawn like a
  waiting one (R41). -/
  inhibitKept : Pair (Option (Nat × BitVec 8))
  acked : Pair (Option (BitVec 8))
  cardReady : List CardFrame
  /-- The WRITE outstanding at each card module (R90). -/
  writeOut : Pair (Option CardWrite)
  /-- The card id of the last WRITE sent to each module (R176). -/
  lastWrite : Pair (Option CardId)
  /-- The forwarded WRITE outstanding at each card module, sent during a lend (R166, R185). -/
  passWrite : Pair (Option QueuedPass)
  passQueue : List QueuedPass
  lend : Option Lend
  /-- The device-wide flag JOURNAL_OVERRUN (R149, R182). -/
  overrun : Bool
deriving DecidableEq, Repr

/-! ### Sale link port (chapter 9) -/

/-- A frame kept in the receive buffer (R189). -/
structure RxFrame where
  channel : Byte
  tag : Byte
  kind : Byte
  body : List Byte
deriving DecidableEq, Repr

/-- A device event as a DEVICE_EVENT notice carries it (R181). -/
inductive EventData where
  | validator (e : ValidatorEvent)
  | cardModule (e : ModuleEvent)
  | changer (e : ChangerEvent)
  | printer (e : PrinterEvent)
  | announced (k : PeriphKind) (revision : Byte)
  | status (st : PrinterStatus)
deriving DecidableEq, Repr

/-- The part result of an event (R181). -/
inductive PartResult where
  | verdict (v : Verdict)
  | repeated
  | credited (p : Position)
  | lateCoin (p : Position)
  | unclaimed (p : Position)
  | matched
  | unmatched
  | cancelTaken
  | notUsed
  | moduleError
  | paid (p : Position) (n : Nat)
  | discarded
  | gauge (estimate : Nat) (st : TubeState) (off : Nat)
  | boxRemoved
  | boxInserted
  | unchanged
  | status (st : PrinterStatus)
  | announced (k : PeriphKind) (revision : Byte)
deriving DecidableEq, Repr

inductive JobOutcome where
  | printed
  | failed
  | dropped
deriving DecidableEq, Repr

/-- The contents of a notice (R193). -/
inductive NoticeBody where
  | credit (p : Position) (credit due : Nat) (mask : BitVec 8)
  | session (p : Position) (st : SessState) (r : ChangeReason)
  | deviceEvent (a : Addr) (code : Byte) (d : EventData) (part : Option PartResult)
  | deviceFault (a : Addr) (f : Flag)
  | journalOverrun
  | printDone (k : JobKind) (o : JobOutcome) (queueNo : BitVec 32) (pos : Option Position) (seq : Option (BitVec 32))
      (tag : Byte)
  | activation (check : BitVec 16) (time : ActTime) (late : Bool)
  | linkReclaim (a : Addr) (c : ReclaimCause) (ended : Bool)
  | journalLevel (count : Nat) (oldest newest : BitVec 32)
deriving DecidableEq, Repr

/-- A queued notice: its class, the moment it was queued and its contents (R194). -/
structure Notice where
  cls : Nat
  moment : Nat
  body : NoticeBody
deriving DecidableEq, Repr

/-- What READ_STATUS reports of one peripheral (R198). -/
structure PeriphReport where
  state : PeriphState
  revision : Option Byte
  flags : Flags
  counters : LinkCounters
deriving DecidableEq, Repr

/-- What READ_STATUS reports of one pending-write entry that is not FREE (R88, R198). -/
structure EntryReport where
  index : Fin 4
  card : Option CardId
  state : EntryState
  owner : Option (Position × Nat)
  created : Stamp
deriving DecidableEq, Repr

/-- The six link counters of the port (R189). -/
structure SaleCounters where
  taken : BitVec 32
  checkErrors : BitVec 32
  overLength : BitVec 32
  overruns : BitVec 32
  answersSent : BitVec 32
  noticesSent : BitVec 32
deriving DecidableEq, Repr

/-- The contents of a READ_STATUS answer (R198). -/
structure StatusReport where
  vendor : Byte
  part : BitVec 16
  revision : Byte
  mode : Mode
  doorOpen : Bool
  lastStart : StartRec
  sessions : Pair SessState
  periph : Vector PeriphReport 6
  overrun : Bool
  records : Nat
  oldest : BitVec 32
  next : BitVec 32
  notWritten : BitVec 32
  nextNotice : BitVec 16
  lost : BitVec 32
  counters : SaleCounters
  clock : Clock
  liveCheck : BitVec 16
  act : Option (Nat × Nat)
  lend : Option (Addr × LendPhase)
  entries : List EntryReport
  deny : Nat
deriving DecidableEq, Repr

/-- The contents of a READ_TOTALS answer (R158). -/
structure TotalsReport where
  running : Totals
  since : Totals
  latchCount : BitVec 16
  notWritten : BitVec 32
  rejects : Pair (Vector (BitVec 16) 9)
  returned : Pair (BitVec 16 × BitVec 16)
  tubes : Vector Tube 6
  denominations : Vector Nat 6
  parityErrors : BitVec 16
  printed : Vector (BitVec 16) 4
  failed : Vector (BitVec 16) 4
  dropped : BitVec 16 × BitVec 16
  notesLost : BitVec 16
deriving DecidableEq, Repr

/-- What an answer carries after its result code. -/
inductive AnswerBody where
  | empty
  | quote (q : QuoteResult)
  | check (c : BitVec 16)
  | staged (c : BitVec 16) (act : Option (Nat × Nat))
  | table (bs : List Byte)
  | swapped (late : Bool)
  | scheduled
  | badTable (check : Nat) (table : Nat)
  | count (n : Nat)
  | deny (n : Nat) (unchanged : Bool)
  | journal (count : Nat) (notWritten : BitVec 32) (rs : List Record)
  | confirmed (count : Nat) (oldest : BitVec 32)
  | totals (r : TotalsReport)
  | shift (seq : BitVec 32) (latch : BitVec 16)
  | faults (sets : Vector Flags 6) (overrun : Bool)
  | mode (m : Mode)
  | status (r : StatusReport)
  | queued (no : BitVec 32)
  | reply (r : Option DeviceReply)
deriving DecidableEq, Repr

/-- An answer (R190): the channel, tag and kind of its request, the result code, and what follows it. MODEL: `start`, the
start that begins when its sending ends (R192). -/
structure Answer where
  channel : Byte
  tag : Byte
  kind : Byte
  result : Result
  body : AnswerBody
  start : Option StartCause
deriving DecidableEq, Repr

/-- The transmit line (R192): idle, or a frame on it. A notice on it has taken its number (R194). -/
inductive TxLine where
  | idle
  | answer (a : Answer)
  | notice (no : BitVec 16) (n : Notice)
deriving DecidableEq, Repr

structure Port where
  rx : List RxFrame
  answers : List Answer
  /-- Deferred answers that wait outside a full answer queue (R192). -/
  overflow : List Answer
  tx : TxLine
  notices : List Notice
  nextNotice : BitVec 16
  lost : BitVec 32
  counters : SaleCounters
  mode : Mode
  /-- The door line state as last taken (R196). -/
  doorOpen : Bool
  /-- The start that a RESTART or FACTORY_CLEAR taken has requested (R189). -/
  startReq : Option StartCause
  /-- MODEL: counts the commands, to say which events fall at the same moment (R174, R194). -/
  moment : Nat
deriving DecidableEq, Repr

/-! ### The state -/

structure State where
  /-- Main power is present. -/
  power : Bool
  /-- RESET_N is held low (R164). -/
  resetHeld : Bool
  /-- DOOR_N shows the door open. -/
  doorLine : Bool
  fare : Fare
  cash : Cash
  coins : Pair Lane
  change : ChangeStore
  cards : Cards
  sales : Sales
  print : PrintUnit
  journal : Journal
  link : Link
  port : Port
  /-- The commands that wait, first in, first out. -/
  pending : List Instr
deriving DecidableEq, Repr

/-! ### Values after a start -/

def Totals.zero : Totals :=
  { coinsIn := vfill 8 0, valueIn := 0, changePaid := 0, refundsPaid := 0, owed := 0, loaded := 0, debited := 0,
    sales := vfill 32 0, freeIssues := 0, unresolved := 0 }

/-- The clock after a cold start (R2). -/
def Clock.cold : Clock := { day := 0, minute := 0, second := 0, valid := false }

/-- The fare engine after a cold start (R5, R162). -/
def Fare.cold : Fare :=
  { live := clearedBank, staged := clearedBank, liveCheck := clearedCheck, act := none, clock := Clock.cold }

/-- An unused coin type (R22). -/
def CoinType.cold : CoinType :=
  { value := 0, diaLo := 0, diaHi := 0, thickLo := 0, thickHi := 0, matLo := 0, matHi := 0, noise := 0,
    strict := false, route := none }

/-- The cash tables after a cold start (R22, R162). -/
def Cash.cold : Cash := { types := vfill 8 CoinType.cold, unit := 1, limit := 2000 }

/-- A lane after every start (R24, R37, R40). The last mask sent, where none has been, is the empty set (R39; log 83). -/
def Lane.start : Lane :=
  { list := [], last := none, rejects := vfill 9 0, returnedLate := 0, returnedFailed := 0, spMask := 0xFF,
    lastMask := 0 }

/-- A tube after a cold start (R42). -/
def Tube.cold : Tube :=
  { ctype := none, capacity := 10, count := 0, state := .disabled, perStep := 1, tolerance := 0, estimate := none,
    doubt := 0, clear := 0, routedIn := 0, paidOut := 0, added := 0, removed := 0, writtenOff := 0 }

/-- The box record after a cold start (R45). -/
def Box.cold : Box := { present := false, count := 0, values := vfill 8 0 }

/-- A position's reservations after every start (R46). -/
def Reserve.start : Reserve :=
  { mode := .none, reserved := vfill 6 0, cover := vfill 6 0, plan := [], amount := 0, short := 0, paying := false,
    waiting := none }

def ChangeStore.cold : ChangeStore :=
  { tubes := vfill 6 Tube.cold, box := Box.cold, resv := Pair.both Reserve.start, dispense := none, misses := 0,
    parityErrors := 0 }

def Delta.zero : Delta := { value := 0, topUp := none, pass := none, block := false }

def PendingEntry.free : PendingEntry :=
  { state := .free, owner := none, card := none, before := 0, delta := Delta.zero, customer := 0,
    created := ⟨0, 0, 0⟩, excess := 0 }

def Cards.cold : Cards :=
  { deny := [], entries := vfill 4 PendingEntry.free, reads := Pair.both .none }

/-- The contents of a session record in IDLE (R99), keeping the number of its last session. -/
def Session.idle (serial : Nat) : Session :=
  { serial := serial, tag := 0, state := .idle, stage := .none, req := none, result := none, payment := none, due := 0,
    credit := 0, change := 0, further := 0, changePaid := 0, refundPaid := 0, debited := 0, creditedBack := 0,
    priceKept := 0, owed := 0, cardOwed := 0, pending := false, payouts := [], write := .none, ticket := .none,
    held := none, entry := none, slot := none, quoteLife := none, inactivity := none, cardWait := none,
    tearWindow := none, endReason := none, issued := false, refunded := false, planned := false, balanceAfter := none,
    loaded := 0 }

/-- The default periods (section 5.2). -/
def SessTiming.default : SessTiming := { quoteLife := 60, inactivity := 45, cardWait := 10, tearWindow := 30 }

def Sales.start : Sales := { sess := Pair.both (Session.idle 0), timing := SessTiming.default }

/-- The print unit after every start (R134, R138, R141, R143). -/
def PrintUnit.start : PrintUnit :=
  { slots := vfill 8 .free, queueNo := 0, last := none, void := none, stub := none, stale := false, serial := 0,
    printed := vfill 4 0, failed := vfill 4 0, droppedReceipt := 0, droppedSlip := 0, notesLost := 0 }

/-- The journal after a cold start (R146, R154, R160). -/
def Journal.cold (cause : StartCause) : Journal :=
  { records := [], next := 0, notWritten := 0, running := Totals.zero, latched := Totals.zero, latchCount := 0,
    marker := true, lastStart := ⟨true, cause⟩ }

def Flags.none : Flags := ⟨false, false, false, false, false, false, false, false, false⟩

def LinkCounters.zero : LinkCounters := ⟨0, 0, 0, 0, 0, 0, 0⟩

/-- A peripheral table entry after every start (R167): its poll is due at once. -/
def Peripheral.start : Peripheral :=
  { state := .unknown, revision := none, streak := 0, lastReport := none, pollDue := some 0, flags := Flags.none,
    counters := LinkCounters.zero, announceNext := false, missingDue := false }

/-- The default link timing (R170). -/
def LinkTiming.default : LinkTiming :=
  { validator := 25, cardModule := 50, changer := 100, printer := 100, answer := 10, missing := 3 }

/-- The device link controller after every start (R167, R170, R180, R182, R184). -/
def Link.start : Link :=
  { periph := vfill 6 Peripheral.start, timing := LinkTiming.default, line := .idle, verdicts := [],
    inhibit := Pair.both none, inhibitKept := Pair.both none, acked := Pair.both none, cardReady := [], writeOut := Pair.both none,
    lastWrite := Pair.both none, passWrite := Pair.both none, passQueue := [], lend := none, overrun := false }

def SaleCounters.zero : SaleCounters := ⟨0, 0, 0, 0, 0, 0⟩

/-- The sale link port after every start (R189, R192, R194, R196): the mode follows the door line. A frame that was on the
transmit line when the start began is dropped (log 80). -/
def Port.start (doorOpen : Bool) : Port :=
  { rx := [], answers := [], overflow := [], tx := .idle, notices := [], nextNotice := 0, lost := 0,
    counters := SaleCounters.zero, mode := if doorOpen then .serviceOpen else .outOfService, doorOpen := doorOpen,
    startReq := none, moment := 0 }

/-- The device link right after a start: the six polls fell due at once, and the arbiter has given the idle line to the
first of them, the ANNOUNCE of validator A (R167, R171, R174). -/
def Link.reset : Link :=
  { Link.start with
    periph := vset Link.start.periph 0 { Peripheral.start with pollDue := none }
    line := .sending ⟨0, .announce .valA⟩ }

/-- The machine right after reset: after a cold start (R162) with the door closed, the first power-up of a part whose
retained store holds no marker (log 1). -/
def State.reset : State :=
  { power := true
    resetHeld := false
    doorLine := false
    fare := Fare.cold
    cash := Cash.cold
    coins := Pair.both Lane.start
    change := ChangeStore.cold
    cards := Cards.cold
    sales := Sales.start
    print := PrintUnit.start
    journal := Journal.cold .markerLost
    link := Link.reset
    port := { Port.start false with moment := 1 }
    pending := [] }

end Sys2Proof.Machine
end

