-- ==== Sys2Proof/Machine/Operands.lean ====
section
/-! DEFINITION. How operands are read: peripheral addresses and kinds (section 4.1), the codes of requests, commands and
answers (R206, section 9.7), and the range checks of the requests that carry settings. -/

namespace Sys2Proof.Machine

/-! ### Addresses -/

/-- The place of an address in the peripheral table (R167). -/
def addrIndex : Addr → Fin 6
  | .valA => 0 | .valB => 1 | .cardA => 2 | .cardB => 3 | .changer => 4 | .printer => 5

/-- The kind fixed by the address (R167). -/
def addrKind : Addr → PeriphKind
  | .valA => .validator | .valB => .validator | .cardA => .cardModule | .cardB => .cardModule
  | .changer => .changer | .printer => .printer

def addrNumber (a : Addr) : Nat := (addrIndex a).val + 1

/-- The address a number names, 1 to 6 (section 4.1). -/
def addrOf (n : Nat) : Option Addr :=
  match n with
  | 1 => some .valA | 2 => some .valB | 3 => some .cardA | 4 => some .cardB | 5 => some .changer | 6 => some .printer
  | _ => none

def allAddrs : List Addr := [.valA, .valB, .cardA, .cardB, .changer, .printer]

def valAddr : Position → Addr
  | .A => .valA
  | .B => .valB

def cardAddr : Position → Addr
  | .A => .cardA
  | .B => .cardB

/-- The position a card module serves. -/
def cardPos : Addr → Option Position
  | .cardA => some .A
  | .cardB => some .B
  | .valA => none | .valB => none | .changer => none | .printer => none

/-- The address a poll answer comes from. -/
def bodyAddr : PollBody → Addr
  | .validator p _ => valAddr p
  | .cardModule p _ _ => cardAddr p
  | .changer _ _ => .changer
  | .printer _ _ => .printer

/-- The kind an ANNOUNCE answer gives (R168). -/
def announcedKind : Announced → Option PeriphKind
  | .validator => some .validator
  | .cardModule => some .cardModule
  | .changer _ => some .changer
  | .printer _ => some .printer
  | .unknown _ => none

/-! ### Frames of the device link (section 9.7) -/

/-- The peripheral a frame addresses. -/
def frameAddr : LinkFrame → Addr
  | .poll a _ => a
  | .announce a => a
  | .verdict p _ _ => valAddr p
  | .inhibit p _ => valAddr p
  | .dispense _ _ _ => .changer
  | .card p _ => cardAddr p
  | .line _ _ => .printer
  | .cut _ => .printer
  | .pass f => f.addr

/-- The command code of a frame of the controller (section 9.7). -/
def frameCode : LinkFrame → Nat
  | .poll _ _ => 1
  | .announce _ => 2
  | .verdict _ _ _ => 3
  | .inhibit _ _ => 4
  | .card _ (.detect _ _) => 5
  | .card _ (.read _ _) => 6
  | .card _ (.write _) => 7
  | .dispense _ _ _ => 8
  | .line _ _ => 9
  | .cut _ => 10
  | .pass f => f.code.toNat

/-- A peripheral kind knows a command code (section 9.7). -/
def knowsCode (k : PeriphKind) (code : Nat) : Bool :=
  match code with
  | 1 => true
  | 2 => true
  | 3 => decide (k = .validator)
  | 4 => decide (k = .validator)
  | 5 => decide (k = .cardModule)
  | 6 => decide (k = .cardModule)
  | 7 => decide (k = .cardModule)
  | 8 => decide (k = .changer)
  | 9 => decide (k = .printer)
  | 10 => decide (k = .printer)
  | 11 => decide (k = .printer)
  | _ => false

/-- The answer kinds that answer a command code within its exchange (section 9.7). A WRITE is not answered in its
exchange (R176). -/
def answers (code kind : Nat) : Bool :=
  match code with
  | 1 => kind == 129
  | 2 => kind == 130
  | 3 => kind == 131
  | 4 => kind == 131
  | 5 => kind == 132 || kind == 133 || kind == 134
  | 6 => kind == 135 || kind == 136
  | 8 => kind == 131
  | 9 => kind == 140
  | 10 => kind == 140
  | 11 => kind == 140
  | _ => false

/-- A frame from address a with this answer kind and body comes as the command of its answer (R73–R75, R168, R172, R175–R178):
a kind that section 9.7 lists, from a peripheral that gives it, with a body of the content it carries. A body too short for its
report number, its kind and revision, its reason, its card id and reason, or its status carries none; of the others that is a free
value, because section 9.7 lays these bodies out no further (log 52). -/
def hasCommand (a : Addr) (kind : Nat) (body : List Byte) : Bool :=
  match kind with
  | 129 => decide (1 ≤ body.length) && Config.answerCarries a kind body
  | 130 => decide (2 ≤ body.length) && Config.answerCarries a kind body
  | 131 => match a with
    | .valA => decide (body.length ≤ 1)
    | .valB => decide (body.length ≤ 1)
    | .changer => body.isEmpty
    | _ => false
  | 132 => (cardPos a).isSome && decide (body.length = 7)
  | 133 => (cardPos a).isSome && body.isEmpty
  | 134 => (cardPos a).isSome && body.isEmpty
  | 135 => (cardPos a).isSome
  | 136 => (cardPos a).isSome && decide (1 ≤ body.length) && Config.answerCarries a kind body
  | 137 => (cardPos a).isSome && decide (body.length = 7)
  | 138 => (cardPos a).isSome && decide (8 ≤ body.length) && Config.answerCarries a kind body
  | 139 => (cardPos a).isSome && decide (body.length = 7)
  | 140 => decide (a = .printer) && decide (1 ≤ body.length) && Config.answerCarries a kind body
  | _ => false

/-- The module whose WRITE a forwarded frame is; the exchange of a WRITE ends when it has been sent (R166). -/
def writeTo (f : QueuedPass) : Option Position :=
  if f.code.toNat = 7 then cardPos f.addr else none

/-- The answer kind of a reply (section 9.7). -/
def replyKind : DeviceReply → Nat
  | .poll _ _ => 129
  | .announce _ _ => 130
  | .ack _ => 131
  | .present _ => 132
  | .noCard => 133
  | .collision => 134
  | .image _ => 135
  | .readFailed _ => 136
  | .writeOk _ => 137
  | .writeFailed _ _ => 138
  | .writeUncertain _ => 139
  | .status _ => 140
  | .other k _ => k.toNat

/-- The printer status that a reply carries: the printer carries it in every answer (R138, R168, R178). -/
def replyStatus : DeviceReply → Option PrinterStatus
  | .poll _ (.printer st _) => some st
  | .announce (.printer st) _ => some st
  | .status st => some st
  | .other k body => Config.statusOf k body
  | _ => none

/-- A frame from address a with the given answer kind fits the exchange of f (R165). A code that its peripheral does not
know, carried by a forwarded frame, may be answered by any kind (log 52). -/
def fits (f : LinkFrame) (a : Addr) (kind : Nat) : Bool :=
  decide (frameAddr f = a) && (answers (frameCode f) kind || !knowsCode (addrKind a) (frameCode f))

/-! ### Records (R148) -/

/-- The length of a record's kind-specific part (R148, section 9.7): a BOX_INSERTED has no field; of the others it is a free value
(log 10). -/
def kindLength : RecordBody → Nat
  | .boxInserted => 0
  | b => Config.kindPartLength b

/-! ### Requests (R206) -/

/-- The kinds each channel has a request for: SALE 1–4, MGMT 1–28, PASS 1. -/
def knownKind (channel kind : Nat) : Bool :=
  match channel with
  | 0 => decide (1 ≤ kind) && decide (kind ≤ 4)
  | 1 => decide (1 ≤ kind) && decide (kind ≤ 28)
  | 2 => decide (kind = 1)
  | _ => false

/-- The channel, tag and kind that a request of the sale link carries (R188, R206); none for a command that is no request. -/
def requestHead : Instr → Option (Byte × Byte × Byte)
  | .quote tag _ _ _ => some (0, tag, 1)
  | .pay tag _ _ _ => some (0, tag, 2)
  | .cancel tag _ _ => some (0, tag, 3)
  | .touch tag _ => some (0, tag, 4)
  | .loadTable tag _ _ _ => some (1, tag, 1)
  | .clearStaged tag => some (1, tag, 2)
  | .stagedCheck tag => some (1, tag, 3)
  | .readTable tag _ _ _ => some (1, tag, 4)
  | .activate tag _ _ => some (1, tag, 5)
  | .cancelActivation tag => some (1, tag, 6)
  | .cashConfig tag _ _ => some (1, tag, 7)
  | .tubeAdjust tag _ _ _ => some (1, tag, 8)
  | .tubeClear tag _ _ => some (1, tag, 9)
  | .denyAdd tag _ => some (1, tag, 10)
  | .denyRemove tag _ => some (1, tag, 11)
  | .denyLoad tag _ => some (1, tag, 12)
  | .denyClear tag => some (1, tag, 13)
  | .readJournal tag _ => some (1, tag, 14)
  | .confirmJournal tag _ => some (1, tag, 15)
  | .readTotals tag => some (1, tag, 16)
  | .closeShift tag => some (1, tag, 17)
  | .ackFaults tag _ _ => some (1, tag, 18)
  | .lendLink tag _ _ _ => some (1, tag, 19)
  | .returnLink tag _ => some (1, tag, 20)
  | .setTime tag _ _ _ => some (1, tag, 21)
  | .setTiming tag _ => some (1, tag, 22)
  | .linkTiming tag _ => some (1, tag, 23)
  | .setMode tag _ => some (1, tag, 24)
  | .readStatus tag => some (1, tag, 25)
  | .restart tag => some (1, tag, 26)
  | .factoryClear tag => some (1, tag, 27)
  | .discardPending tag _ => some (1, tag, 28)
  | .passFrame tag _ _ => some (2, tag, 1)
  | .unknownRequest channel tag kind => some (channel, tag, kind)
  | .saleFrameReceived _ => none
  | .saleFrameSent _ => none
  | .doorOpened _ => none
  | .doorClosed _ => none
  | .resetLineAsserted => none
  | .resetLineReleased _ => none
  | .powerUp _ _ _ => none
  | .powerLoss => none
  | .clockSecond => none
  | .quoteLifeExpiry _ _ => none
  | .inactivityExpiry _ _ => none
  | .cardWaitExpiry _ _ => none
  | .tearWindowExpiry _ _ => none
  | .settleLimitExpiry _ _ _ => none
  | .cutLimitExpiry _ => none
  | .lendLimitExpiry _ => none
  | .reclaimGraceExpiry _ => none
  | .pollDue _ _ => none
  | .answerTimeout _ => none
  | .missingThreshold _ _ => none
  | .dispensePollLimit _ => none
  | .writeAnswerTimeout _ _ => none
  | .deviceFrameDiscarded _ _ => none
  | .pollAnswer _ _ _ => none
  | .announceAnswer _ _ _ _ => none
  | .acknowledgement _ _ _ => none
  | .present _ _ _ => none
  | .noCard _ _ => none
  | .collision _ _ => none
  | .image _ _ _ => none
  | .readFailed _ _ _ => none
  | .writeOk _ _ _ => none
  | .writeFailed _ _ _ _ => none
  | .writeUncertain _ _ _ => none
  | .statusAnswer _ _ => none
  | .deviceFrameSent _ => none

/-- A request as its frame spells it: whether the line is found busy is no part of the frame. -/
def unheard : Instr → Instr
  | .quote tag p q _ => .quote tag p q false
  | .pay tag p y _ => .pay tag p y false
  | .cancel tag p _ => .cancel tag p false
  | .tubeAdjust tag t n _ => .tubeAdjust tag t n false
  | .tubeClear tag t _ => .tubeClear tag t false
  | .lendLink tag a n _ => .lendLink tag a n false
  | .returnLink tag _ => .returnLink tag false
  | .passFrame tag f _ => .passFrame tag f false
  | c => c

/-- The request that a frame's body spells, of the frame's own channel, tag and kind (R190); that is a free value where section
9.7 gives the body no layout (log 5). -/
def requestIn (f : RxFrame) : Option Instr :=
  match Config.requestOf f.channel f.tag f.kind f.body with
  | some (.unknownRequest _ _ _) => none
  | some c => if requestHead c = some (f.channel, f.tag, f.kind) ∧ unheard c = c then some c else none
  | none => none

/-- Check 2 of R190 on a frame of a listed channel and kind: its body has the length and structure of its request.
CASH_CONFIG's layout is that of section 9.7; the others are a free value (log 5). -/
def bodyFits (f : RxFrame) : Bool :=
  if f.channel = 1 ∧ f.kind = 7 then decide (f.body.length = 163) else (requestIn f).isSome

/-- The body of a frame spells the command: the operands of a request, or, for a frame that matches no request, a body that
does not fit (R190). -/
def spells (f : RxFrame) (c : Instr) : Bool :=
  match c with
  | .cashConfig _ body _ => decide (f.body = body)
  | .unknownRequest ch _ k => !knownKind ch.toNat k.toNat || !bodyFits f
  | c => decide (requestIn f = some (unheard c))

/-- The number of a result code, from 0 in the order of section 4.6 (R206). -/
def resultCode : Result → Nat
  | .ok => 0 | .state => 1 | .busy => 2 | .unknownRequest => 3 | .badLength => 4
  | .zoneRange => 5 | .noRoute => 6 | .productUnknown => 7 | .classNotAllowed => 8 | .timeNotSet => 9
  | .noCard => 10 | .cardDenied => 11 | .cardBlocked => 12 | .cardSlotsFull => 13 | .passTooEarly => 14
  | .insufficientValue => 15 | .topupNotAllowed => 16 | .cardWritesBlocked => 17
  | .printerUnavailable => 18 | .noCoins => 19 | .journalFull => 20 | .outOfService => 21 | .linkLent => 22
  | .tooLate => 23
  | .tableFull => 24 | .unsorted => 25 | .activationPending => 26 | .checkMismatch => 27 | .badTable => 28
  | .tableConflict => 29 | .protectedReq => 30 | .range => 31 | .peripheralMissing => 32 | .refusedByTable => 33

/-- The ranges of SET_TIMING (section 5.2, R101). -/
def sessTimingInRange (t : SessTiming) : Bool :=
  decide (10 ≤ t.quoteLife) && decide (t.quoteLife ≤ 300) && decide (10 ≤ t.inactivity) && decide (t.inactivity ≤ 300) &&
  decide (2 ≤ t.cardWait) && decide (t.cardWait ≤ 30) && decide (5 ≤ t.tearWindow) && decide (t.tearWindow ≤ 300)

/-- The ranges of LINK_TIMING (R170). -/
def linkTimingInRange (t : LinkTiming) : Bool :=
  decide (10 ≤ t.validator) && decide (t.validator ≤ 500) && decide (10 ≤ t.cardModule) && decide (t.cardModule ≤ 500) &&
  decide (10 ≤ t.changer) && decide (t.changer ≤ 500) && decide (10 ≤ t.printer) && decide (t.printer ≤ 500) &&
  decide (2 ≤ t.answer) && decide (t.answer ≤ 50) && decide (1 ≤ t.missing) && decide (t.missing ≤ 8)

/-! ### Events (R181, section 9.7) -/

def validatorCode : ValidatorEvent → Byte
  | .coinAtGate _ _ => 1
  | .coinRouted _ _ _ => 2
  | .coinReturned _ _ => 3
  | .returnLever => 4
  | .unknown c _ => c

def moduleCode : ModuleEvent → Byte
  | .fieldFault => 1
  | .unknown c _ => c

def changerCode : ChangerEvent → Byte
  | .payoutDone _ _ => 1
  | .payoutJam _ _ => 2
  | .gauge _ _ _ => 3
  | .boxState _ => 4
  | .unknown c _ => c

def printerCode : PrinterEvent → Byte
  | .cutDone => 1
  | .unknown c _ => c

/-! ### The card entry of an operand -/

/-- A quote reads a card when its medium is CARD or its payment named is STORED_VALUE (R104). -/
def readsCard (q : QuoteReq) : Bool := decide (q.medium = .card) || decide (q.payment = .storedValue)

/-- Strictly ascending card ids (R80). -/
def idsAscending : List CardId → Bool
  | [] => true
  | [_] => true
  | a :: b :: rest => decide (a.toNat < b.toNat) && idsAscending (b :: rest)

end Sys2Proof.Machine
end

