-- ==== Sys2Proof/Machine/Flags.lean ====
section
/-! DEFINITION. The sticky fault flags (R182, R183) and the sets of coin types of the inhibit masks (R38). -/

namespace Sys2Proof.Machine

def flagGet (f : Flags) : Flag → Bool
  | .jam => f.jam
  | .paperLow => f.paperLow
  | .paperOut => f.paperOut
  | .boxFull => f.boxFull
  | .lostCoin => f.lostCoin
  | .gaugeParity => f.gaugeParity
  | .contention => f.contention
  | .missing => f.missing
  | .moduleError => f.moduleError

def flagSet (f : Flags) : Flag → Flags
  | .jam => { f with jam := true }
  | .paperLow => { f with paperLow := true }
  | .paperOut => { f with paperOut := true }
  | .boxFull => { f with boxFull := true }
  | .lostCoin => { f with lostCoin := true }
  | .gaugeParity => { f with gaugeParity := true }
  | .contention => { f with contention := true }
  | .missing => { f with missing := true }
  | .moduleError => { f with moduleError := true }

/-- The flags of f without those that g names (R183). -/
def flagsClear (f g : Flags) : Flags :=
  { jam := f.jam && !g.jam
    paperLow := f.paperLow && !g.paperLow
    paperOut := f.paperOut && !g.paperOut
    boxFull := f.boxFull && !g.boxFull
    lostCoin := f.lostCoin && !g.lostCoin
    gaugeParity := f.gaugeParity && !g.gaugeParity
    contention := f.contention && !g.contention
    missing := f.missing && !g.missing
    moduleError := f.moduleError && !g.moduleError }

/-- The set of coin types for which a condition holds: bit c for type c. -/
def maskOf (f : Fin 8 → Bool) : BitVec 8 :=
  eights.foldl (fun m c => if f c then m ||| (1#8 <<< c.val) else m) 0

/-- Type c belongs to the set. -/
def inMask (m : BitVec 8) (c : Nat) : Bool := m.getLsbD c

end Sys2Proof.Machine
end

