-- ==== Sys2Proof/Machine/Ops.lean ====
section
/-! DEFINITION. The named operations every meaning is built from: updates of one block, the answer and notice queues of
the sale link port (R190–R195), the sticky faults (R182), journal appends (R147–R151), the totals (R155) and the event
table (R181). -/

namespace Sys2Proof.Machine

/-! ### Updates of one block -/

def onFare (f : Fare → Fare) (s : State) : State := { s with fare := f s.fare }
def onCash (f : Cash → Cash) (s : State) : State := { s with cash := f s.cash }
def onLane (p : Position) (f : Lane → Lane) (s : State) : State := { s with coins := s.coins.modify p f }
def onChange (f : ChangeStore → ChangeStore) (s : State) : State := { s with change := f s.change }
def onCards (f : Cards → Cards) (s : State) : State := { s with cards := f s.cards }
def onSales (f : Sales → Sales) (s : State) : State := { s with sales := f s.sales }
def onPrint (f : PrintUnit → PrintUnit) (s : State) : State := { s with print := f s.print }
def onJournal (f : Journal → Journal) (s : State) : State := { s with journal := f s.journal }
def onLink (f : Link → Link) (s : State) : State := { s with link := f s.link }
def onPort (f : Port → Port) (s : State) : State := { s with port := f s.port }

/-! ### Reading and updating one entry -/

def lane (p : Position) (s : State) : Lane := s.coins.get p

def sess (p : Position) (s : State) : Session := s.sales.sess.get p

def onSess (p : Position) (f : Session → Session) (s : State) : State :=
  onSales (fun x => { x with sess := x.sess.modify p f }) s

def periph (a : Addr) (s : State) : Peripheral := vget s.link.periph (addrIndex a)

def onPeriph (a : Addr) (f : Peripheral → Peripheral) (s : State) : State :=
  onLink (fun l => { l with periph := vmodify l.periph (addrIndex a) f }) s

/-- Each check that asks whether a peripheral is ONLINE finds an UNKNOWN one not ONLINE (R167). -/
def online (a : Addr) (s : State) : Bool := decide ((periph a s).state = .online)

def tube (t : Fin 6) (s : State) : Tube := vget s.change.tubes t

def onTube (t : Fin 6) (f : Tube → Tube) (s : State) : State :=
  onChange (fun c => { c with tubes := vmodify c.tubes t f }) s

def onBox (f : Box → Box) (s : State) : State := onChange (fun c => { c with box := f c.box }) s

def resv (p : Position) (s : State) : Reserve := s.change.resv.get p

def onResv (p : Position) (f : Reserve → Reserve) (s : State) : State :=
  onChange (fun c => { c with resv := c.resv.modify p f }) s

def entry (e : Fin 4) (s : State) : PendingEntry := vget s.cards.entries e

def onEntry (e : Fin 4) (f : PendingEntry → PendingEntry) (s : State) : State :=
  onCards (fun c => { c with entries := vmodify c.entries e f }) s

def readOf (p : Position) (s : State) : ReadPhase := s.cards.reads.get p

def setRead (p : Position) (r : ReadPhase) (s : State) : State :=
  onCards (fun c => { c with reads := c.reads.set p r }) s

def slotOf (i : Fin 8) (s : State) : Slot := vget s.print.slots i

def setSlot (i : Fin 8) (x : Slot) (s : State) : State :=
  onPrint (fun u => { u with slots := vset u.slots i x }) s

def coinType (c : Fin 8) (s : State) : CoinType := vget s.cash.types c

/-- The present moment (log 17). -/
def now (s : State) : Nat := s.port.moment

/-- A lend is in force, in either phase (R184). -/
def lent (s : State) : Bool := s.link.lend.isSome

/-- Both sessions are IDLE. -/
def bothIdle (s : State) : Bool := decide ((sess .A s).state = .idle) && decide ((sess .B s).state = .idle)

/-- Main power is present and the reset line is high: frames of either link are taken (R164). -/
def running (s : State) : Bool := s.power && !s.resetHeld

/-! ### The clock (R1, R4, R147) -/

def clockStamp (c : Clock) : Stamp := ⟨c.day, c.minute, c.second⟩

/-- The depot time where it is valid (R134). -/
def validTime (c : Clock) : Option Stamp := if c.valid then some (clockStamp c) else none

/-! ### Answers (R190, R192) -/

/-- An answer that becomes ready enters the answer queue, or waits outside a full one. -/
def enqueue (a : Answer) (s : State) : State :=
  onPort (fun t =>
    if t.answers.length < Config.answerCapacity ∧ t.overflow = [] then { t with answers := t.answers ++ [a] }
    else { t with overflow := t.overflow ++ [a] }) s

/-- The position a notice is for, where its rule names one (R193). -/
def noticePos : NoticeBody → Option Position
  | .credit p _ _ _ => some p
  | .session p _ _ => some p
  | .deviceEvent _ _ _ _ => none
  | .deviceFault _ _ => none
  | .journalOverrun => none
  | .printDone _ _ _ p _ _ => p
  | .activation _ _ _ => none
  | .linkReclaim _ _ _ => none
  | .journalLevel _ _ _ => none

/-- The place of the notice sent first (R194): of the lowest class the oldest; of one class and one moment, those for
position A before those for position B, the others in the order queued. -/
def firstOfClass : Nat → List Notice → Option Notice
  | _, [] => none
  | c, n :: ns =>
    if n.cls = c then
      if noticePos n.body = some .B then
        match ns.find? (fun m => decide (m.cls = c) && decide (m.moment = n.moment) &&
            decide (noticePos m.body = some .A)) with
        | some m => some m
        | none => some n
      else some n
    else firstOfClass c ns

/-- The next notice in the order of sending (R194). Classes are 0–3. -/
def firstNotice (ns : List Notice) : Option Notice :=
  match firstOfClass 0 ns with
  | some n => some n
  | none =>
    match firstOfClass 1 ns with
    | some n => some n
    | none =>
      match firstOfClass 2 ns with
      | some n => some n
      | none =>
        match firstOfClass 3 ns with
        | some n => some n
        | none => ns.head?

/-- The port when its transmit line is free (R192): the oldest answer, else the next notice; an answer that leaves the
queue makes room for one that waits outside it. -/
def nextFrame (t : Port) : Port :=
  match t.answers with
  | a :: rest =>
    { t with tx := .answer a, answers := rest ++ t.overflow.take 1, overflow := t.overflow.drop 1 }
  | [] =>
    match firstNotice t.notices with
    | some n => { t with tx := .notice t.nextNotice n, notices := t.notices.erase n, nextNotice := t.nextNotice + 1 }
    | none => t

/-- The port chooses a frame whenever its transmit line is idle (R192). -/
def kick (s : State) : State :=
  match s.port.tx with
  | .idle => onPort nextFrame s
  | .answer _ => s
  | .notice _ _ => s

/-- The end of a command: the transmit line is served and the moment passes. -/
def finish (s : State) : State := onPort (fun t => { t with moment := t.moment + 1 }) (kick s)

/-- An answer to the request that is being taken, then the transmit line. -/
def answerNow (channel tag kind : Byte) (r : Result) (b : AnswerBody) (s : State) : State :=
  enqueue ⟨channel, tag, kind, r, b, none⟩ s

/-! ### Notices (R194, R195) -/

/-- A CREDIT or SESSION notice and a queued one of the same kind and position (R195). -/
def replaces (b m : NoticeBody) : Bool :=
  match b, m with
  | .credit p _ _ _, .credit q _ _ _ => decide (p = q)
  | .session p _ _, .session q _ _ => decide (p = q)
  | _, _ => false

/-- The first notice that b replaces takes b's contents. -/
def replaceFirst (b : NoticeBody) : List Notice → Option (List Notice)
  | [] => none
  | n :: ns => if replaces b n.body then some ({ n with body := b } :: ns) else (replaceFirst b ns).map (n :: ·)

/-- The queued notice nearest the tail that b replaces takes b's contents in place (R195). -/
def replaceLast (b : NoticeBody) (ns : List Notice) : Option (List Notice) :=
  (replaceFirst b ns.reverse).map List.reverse

/-- A notice is added at the tail, or replaces one or is dropped when the queue is full (R194, R195). -/
def notify (cls : Nat) (b : NoticeBody) (s : State) : State :=
  onPort (fun t =>
    if t.notices.length < Config.noticeCapacity then { t with notices := t.notices ++ [⟨cls, t.moment, b⟩] }
    else match replaceLast b t.notices with
      | some ns => { t with notices := ns }
      | none => { t with lost := t.lost + 1 }) s

/-! ### Sticky faults (R182) -/

/-- A flag is raised; a DEVICE_FAULT notice goes with a flag that was clear. -/
def raiseFault (a : Addr) (f : Flag) (s : State) : State :=
  if flagGet (periph a s).flags f then s
  else notify 1 (.deviceFault a f) (onPeriph a (fun x => { x with flags := flagSet x.flags f }) s)

/-- JOURNAL_OVERRUN, device-wide (R149, R182). -/
def raiseOverrun (s : State) : State :=
  if s.link.overrun then s else notify 1 .journalOverrun (onLink (fun l => { l with overrun := true }) s)

/-! ### The journal (R147, R149, R151) -/

/-- The oldest record's sequence number; of an empty journal the next number, as R153 gives it for CONFIRM_JOURNAL and log 72
for READ_STATUS. -/
def oldestSeq (j : Journal) : BitVec 32 :=
  match j.records with
  | r :: _ => r.seq
  | [] => j.next

/-- The common part the journal unit gives a record (R147). -/
def commonPart (c : Clock) (seq : BitVec 32) (pos : Option Position) (body : RecordBody) : Record :=
  { seq := seq
    pos := pos
    day := if c.valid then c.day else 0
    minute := if c.valid then c.minute else 0
    second := if c.valid then c.second else 0
    timeInvalid := !c.valid
    receiptNote := false
    slipNote := false
    body := body }

/-- The sequence number the next record takes, where the journal has room for one (R147, R149). -/
def nextSeq (s : State) : Option (BitVec 32) :=
  if s.journal.records.length < Config.journalCapacity then some s.journal.next else none

/-- A record handed to the journal unit is appended, or counted as not written (R147, R149, R151). -/
def append (pos : Option Position) (body : RecordBody) (s : State) : State :=
  if s.journal.records.length < Config.journalCapacity then
    let s1 := onJournal (fun j => { j with records := j.records ++ [commonPart s.fare.clock j.next pos body],
                                           next := j.next + 1 }) s
    if s1.journal.records.length = Config.journalLevel then
      notify 2 (.journalLevel s1.journal.records.length (oldestSeq s1.journal) (s1.journal.next - 1)) s1
    else s1
  else raiseOverrun (onJournal (fun j => { j with notWritten := j.notWritten + 1 }) s)

/-- A print note is set in the record with the number, or lost and counted (R143). -/
def note (isSlip : Bool) (seq : Option (BitVec 32)) (s : State) : State :=
  match seq with
  | none => onPrint (fun u => { u with notesLost := u.notesLost + 1 }) s
  | some q =>
    if s.journal.records.any (fun r => decide (r.seq = q)) then
      onJournal (fun j => { j with records := j.records.map (fun r =>
        if r.seq = q then
          (if isSlip then { r with slipNote := true } else { r with receiptNote := true })
        else r) }) s
    else onPrint (fun u => { u with notesLost := u.notesLost + 1 }) s

/-- The coin totals rise at a coin's routing (R155). -/
def addCoinTotals (c : Fin 8) (value : Nat) (s : State) : State :=
  onJournal (fun j => { j with running :=
    { j.running with coinsIn := vmodify j.running.coinsIn c (fun n => n + 1),
                     valueIn := add32 j.running.valueIn value } }) s

/-! ### The event table (R181) -/

/-- The entry of the live event table; an event with none takes CONSUME with class 3 (section 9.7). -/
def eventRule (kind : PeriphKind) (code : Byte) (s : State) : Disposition × Nat :=
  match s.fare.live.events.find? (fun r => decide (r.kind = kind) && decide (r.code = code)) with
  | some r => (r.disp, r.cls)
  | none => (.consume, 3)

/-- An event is sorted through the event table of the live bank (R181). -/
def sortEvent (a : Addr) (code : Byte) (d : EventData) (part : PartResult) (s : State) : State :=
  match eventRule (addrKind a) code s with
  | (.forward, cls) => notify cls (.deviceEvent a code d none) s
  | (.both, cls) => notify cls (.deviceEvent a code d (some part)) s
  | (.consume, _) => s

/-! ### Card frames (R174) -/

/-- A card command becomes ready at level 3. -/
def pushCard (p : Position) (c : CardCmd) (s : State) : State :=
  onLink (fun l => { l with cardReady := l.cardReady ++ [⟨p, s.port.moment, c⟩] }) s

/-- A DETECT or READ of an ordinary read. -/
def isReadCmd : CardCmd → Bool
  | .detect _ credit => !credit
  | .read _ _ => true
  | .write _ => false

/-- The DETECT and READ commands of p's read that were not sent are withdrawn. -/
def dropReadCmds (p : Position) (s : State) : State :=
  onLink (fun l => { l with cardReady := l.cardReady.filter (fun f => !(decide (f.pos = p) && isReadCmd f.cmd)) }) s

end Sys2Proof.Machine
end

