-- ==== Sys2Proof/Machine/Fare.lean ====
section
/-! DEFINITION. The fare engine: the clock's advance (R1), the checks and the pricing of a quote (R11–R17), pass dates
(R19, R20), the top-up clamp (R84, R85), the card checks that use the price (R86, R87), the consistency checks of a bank
(R203) and the swap (R205). -/

namespace Sys2Proof.Machine

/-! ### The clock (R1) -/

/-- One second of the clock timebase (R1). -/
def clockTick (c : Clock) : Clock :=
  if c.second < 59 then { c with second := c.second + 1 }
  else if c.minute < 1439 then { c with second := 0, minute := c.minute + 1 }
  else if c.day < 65535 then { c with second := 0, minute := 0, day := c.day + 1 }
  else { day := 0, minute := 0, second := 0, valid := false }

/-- The tick changes the minute. -/
def minuteChanges (c : Clock) : Bool := !decide (c.second < 59)

/-! ### Reading a bank -/

def productOfBank (b : Bank) (n : Nat) : Option Product :=
  match toFin? 32 n with
  | some i => if (vget b.products i).kind = .unused then none else some (vget b.products i)
  | none => none

/-- A class is one of the product's class set (R8). -/
def classAllowed (p : Product) (c : Nat) : Bool := decide (c ≤ 7) && inMask p.classes c

def classFactor (b : Bank) (c : Nat) : Nat :=
  match toFin? 8 c with
  | some i => (vget b.classes i).factor
  | none => 0

/-- The fare matrix entry from zone o to zone d (R6). -/
def matrixEntry (b : Bank) (o d : Nat) : Nat :=
  match toFin? 256 (16 * (o - 1) + (d - 1)) with
  | some i => vget b.matrix i
  | none => 0

def zoneOk (z : Nat) : Bool := decide (1 ≤ z) && decide (z ≤ 16)

/-- A band matches at a weekday and a minute (R9). -/
def bandMatches (weekday minute : Nat) (x : Band) : Bool :=
  inMask x.days weekday && decide (x.start ≤ minute) && decide (minute < x.stop)

/-- The band factor T (R9). -/
def bandFactor (b : Bank) (c : Clock) (p : Product) : Nat :=
  if c.valid ∧ p.bandExempt = false then
    match b.bands.toList.find? (bandMatches (c.day % 7) c.minute) with
    | some x => x.factor
    | none => 1024
  else 1024

/-! ### Stage 1 (R11, checks 1 to 6) -/

def stage1 (b : Bank) (c : Clock) (q : QuoteReq) : Option Result :=
  match productOfBank b q.product with
  | none => some .productUnknown
  | some p =>
    if p.kind = .topup then
      if q.medium = .paper then some .topupNotAllowed else none
    else if ¬ (zoneOk q.origin = true ∧ zoneOk q.dest = true) then some .zoneRange
    else if classAllowed p q.cls = false then some .classNotAllowed
    else if p.kind ≠ .period ∧ matrixEntry b q.origin q.dest = 0 then some .noRoute
    else if p.kind = .period ∧ c.valid = false then some .timeNotSet
    else none

/-! ### The class used and check 7 (R8, R11) -/

def classUsed (q : QuoteReq) (card : Option CardImage) : Nat :=
  match card with
  | some x => if x.kind = .concession then x.cls else q.cls
  | none => q.cls

/-! ### Pass dates (R19, R20) -/

def lowZone (q : QuoteReq) : Nat := min q.origin q.dest
def highZone (q : QuoteReq) : Nat := max q.origin q.dest

/-- A pass slot is a chaining candidate (R19). -/
def chains (today : Nat) (q : QuoteReq) (x : Option Pass) : Bool :=
  match x with
  | some y => decide (y.product = q.product) && decide (y.low = lowZone q) && decide (y.high = highZone q) &&
      decide (today ≤ y.last)
  | none => false

def lastDay (x : Option Pass) : Nat :=
  match x with
  | some y => y.last
  | none => 0

/-- The latest last day L among the chaining candidates (R19). -/
def chainDay (today : Nat) (q : QuoteReq) (card : Option CardImage) : Option Nat :=
  match card with
  | none => none
  | some x =>
    match chains today q x.slot0, chains today q x.slot1 with
    | true, true => some (max (lastDay x.slot0) (lastDay x.slot1))
    | true, false => some (lastDay x.slot0)
    | false, true => some (lastDay x.slot1)
    | false, false => none

/-- The first day of a pass (R19): a PAPER quote does not chain. -/
def firstDay (today : Nat) (q : QuoteReq) (card : Option CardImage) : Except Result Nat :=
  if q.medium = .paper then .ok today
  else match chainDay today q card with
    | none => .ok today
    | some l => if l < today + 31 then .ok (l + 1) else .error .passTooEarly

/-- First and last day (R19, R20). -/
def passDays (today days : Nat) (q : QuoteReq) (card : Option CardImage) : Except Result (Nat × Nat) :=
  match firstDay today q card with
  | .error r => .error r
  | .ok f => if 65535 < f + days - 1 then .error .range else .ok (f, f + days - 1)

/-! ### The price (R12–R17) -/

/-- The base fare B (R12, R13). -/
def baseFare (b : Bank) (p : Product) (q : QuoteReq) : Nat :=
  if p.kind = .period then min 65535 (p.flat * (highZone q - lowZone q + 1)) else matrixEntry b q.origin q.dest

/-- raw and its rounding (R14). -/
def rounded (base m k t : Nat) : Nat := (base * m * k * t + 134217728) / 268435456

/-- The clamp at the fare ceiling (R15): the price and CLAMPED. -/
def clampPrice (ceiling price : Nat) : Nat × Bool := if ceiling < price then (ceiling, true) else (price, false)

/-- Lowered by U as long as it stays above 65,535 (R17, correction 2). -/
def lowerCash (u : Nat) : Nat → Nat → Nat
  | 0, c => c
  | n + 1, c => if 65535 < c then lowerCash u n (c - u) else c

/-- The cash price (R17). A price of at most 65,535 rounds to at most 65,635, which U takes below 65,536 in at most 100
steps. -/
def cashPrice (u price : Nat) : Nat :=
  let c := (price + u / 2) / u * u
  let c1 := if 0 < price ∧ c = 0 then u else c
  lowerCash u 100 c1

/-! ### The top-up amount (R84, R85, R16) -/

/-- The day total in force (R84). -/
def dayTotalInForce (c : Clock) (x : CardImage) : Nat :=
  if c.valid then (if x.topDay = c.day then x.dayTotal else 0) else x.dayTotal

/-- A number rounded down to a multiple of the step. -/
def floorTo (step n : Nat) : Nat := n / step * step

/-- The allowed amount (R85). -/
def topUpAllowed (cp : CardParams) (c : Clock) (x : CardImage) : Nat :=
  floorTo cp.topStep (min cp.topMax (min (cp.ceiling - x.balance) (cp.daily - dayTotalInForce c x)))

/-- The amount sold and REDUCED, after the card unit's clamp (R85) and the fare ceiling (R16). -/
def topUpAmount (b : Bank) (c : Clock) (x : CardImage) (asked : Nat) : Except Result (Nat × Bool) :=
  let a := min (floorTo b.params.topStep asked) (topUpAllowed b.params c x)
  if a < b.params.topMin ∨ a = 0 then .error .topupNotAllowed
  else if b.ceiling < a then
    (let d := floorTo b.params.topStep b.ceiling
     if d < b.params.topMin ∨ d = 0 then .error .topupNotAllowed else .ok (d, true))
  else .ok (a, decide (a ≠ asked))

/-! ### The quote result (R21) -/

/-- Stage 2 and the pricing of a quote that stage 1 has passed, for a quote that reads the given card (R11 checks 7 and 8,
R12–R17). -/
def priceQuote (b : Bank) (c : Clock) (u : Nat) (q : QuoteReq) (card : Option CardImage) : Except Result QuoteResult :=
  match productOfBank b q.product with
  | none => .error .productUnknown
  | some p =>
    let cardPart : Option CardQuote := card.map (fun x =>
      { id := x.id, balance := x.balance, topUp := none, topDay := none, slot := none, chaining := false,
        expired := false })
    if p.kind = .topup then
      match card with
      | none => .error .topupNotAllowed
      | some x =>
        match topUpAmount b c x q.amount with
        | .error r => .error r
        | .ok (a, reduced) =>
          .ok { product := q.product, kind := p.kind, zones := none, cls := none, price := a, cash := cashPrice u a,
                clamped := false, reduced := reduced, free := decide (a = 0), days := none,
                receipt := p.receiptRequired,
                card := cardPart.map (fun y =>
                  { y with topUp := some a, topDay := if c.valid then some c.day else none }) }
    else
      let k := classUsed q card
      if classAllowed p k = false then .error .classNotAllowed
      else
        let days : Except Result (Option (Nat × Nat)) :=
          if p.kind = .period then
            (match passDays c.day p.days q card with
             | .error r => .error r
             | .ok d => .ok (some d))
          else .ok none
        match days with
        | .error r => .error r
        | .ok ds =>
          let pr := clampPrice b.ceiling (rounded (baseFare b p q) p.mult (classFactor b k) (bandFactor b c p))
          .ok { product := q.product, kind := p.kind,
                zones := some (if p.kind = .period then (lowZone q, highZone q) else (q.origin, q.dest)),
                cls := some k, price := pr.1, cash := cashPrice u pr.1, clamped := pr.2, reduced := false,
                free := decide (pr.1 = 0), days := ds, receipt := p.receiptRequired, card := cardPart }

/-! ### The card checks that use the price (R86, R87) -/

/-- R86. -/
def cardChecks (q : QuoteReq) (r : QuoteResult) (x : CardImage) : Option Result :=
  if (r.kind = .single ∨ r.kind = .returnTrip) ∧ q.medium = .card then some .productUnknown
  else if r.kind = .topup ∧ q.payment = .storedValue then some .topupNotAllowed
  else if q.payment = .storedValue ∧ x.balance < r.price then some .insufficientValue
  else none

/-- The slot for a new pass, whether it replaces the chaining pass, and whether it replaces an expired one (R87). Of two chaining
candidates with the same last day slot 0 is taken (log 78). -/
def chooseSlot (today : Nat) (q : QuoteReq) (x : CardImage) : Option (Fin 2 × Bool × Bool) :=
  if x.slot0 = none then some (0, false, false)
  else if x.slot1 = none then some (1, false, false)
  else if lastDay x.slot0 < today then some (0, false, true)
  else if lastDay x.slot1 < today then some (1, false, true)
  else match chainDay today q (some x) with
    | none => none
    | some l =>
      if chains today q x.slot0 = true ∧ lastDay x.slot0 = l then some (0, true, false) else some (1, true, false)

/-- Steps 5 and 6 of R79 for a quote that has read a card: the quote result, or the refusal. -/
def quoteCard (b : Bank) (c : Clock) (u : Nat) (q : QuoteReq) (x : CardImage) : Except Result QuoteResult :=
  match stage1 b c q with
  | some r => .error r
  | none =>
    match priceQuote b c u q (some x) with
    | .error r => .error r
    | .ok r =>
      match cardChecks q r x with
      | some e => .error e
      | none =>
        if r.kind = .period ∧ q.medium = .card then
          match chooseSlot c.day q x with
          | none => .error .cardSlotsFull
          | some (i, chaining, expired) =>
            .ok { r with card := r.card.map (fun y =>
              { y with slot := some i, chaining := chaining, expired := expired }) }
        else .ok r

/-- The pricing of a quote that reads no card (R105). -/
def quotePlain (b : Bank) (c : Clock) (u : Nat) (q : QuoteReq) : Except Result QuoteResult :=
  match stage1 b c q with
  | some r => .error r
  | none => priceQuote b c u q none

/-! ### Consistency checks of a bank (R203) -/

def paramsInRange (cp : CardParams) : Bool :=
  decide (1 ≤ cp.ceiling) && decide (cp.ceiling ≤ 500000) && decide (1 ≤ cp.topMin) && decide (cp.topMin ≤ 500000) &&
  decide (1 ≤ cp.topMax) && decide (cp.topMax ≤ 500000) && decide (1 ≤ cp.topStep) && decide (cp.topStep ≤ 50000) &&
  decide (1 ≤ cp.daily) && decide (cp.daily ≤ 500000)

/-- Check 7 on one entry of the pass table: no PASS to DISPENSE, VERDICT, WRITE, POLL or ANNOUNCE, MERGE only to a
validator's INHIBIT, QUEUE only to the printer's TEXT (log 32). -/
def passRuleOk (r : PassRule) : Bool :=
  match r.verdict with
  | .pass => !(decide (r.code = 1) || decide (r.code = 2) || decide (r.code = 3) || decide (r.code = 7) ||
      decide (r.code = 8))
  | .drop => true
  | .merge => decide (r.kind = .validator) && decide (r.code = 4)
  | .queue => decide (r.kind = .printer) && decide (r.code = 11)

/-- The first failing consistency check and the code of the table it concerns (R203). -/
def consistency (b : Bank) (u : Nat) : Option (Nat × Nat) :=
  if b.ceiling = 0 then some (1, 5)
  else if b.products.toList.any (fun p => decide (p.kind ≠ .unused) && decide (p.classes = 0)) then some (2, 2)
  else if b.bands.toList.any (fun x => decide (x.stop ≤ x.start)) then some (3, 4)
  else if b.bands.toList.any (fun x => decide (x.factor < 512) || decide (2048 < x.factor)) then some (4, 4)
  else if paramsInRange b.params = false then some (5, 6)
  else if b.params.topStep % u ≠ 0 then some (6, 6)
  else if b.pass.all passRuleOk = false then some (7, 8)
  else none

/-! ### Activation (R204, R205) -/

/-- Day and minute as one quantity, day first (R202). -/
def dayMinute (d m : Nat) : Nat := d * 1440 + m

/-- The swap (R205). The staged bank's check value is worked out at the swap. -/
def swap (t : ActTime) (late : Bool) (s : State) : State :=
  let v := bankCheck s.fare.staged
  notify 2 (.activation v t late)
    (append none (.tableActivated v t late)
      (onFare (fun f => { f with live := f.staged, staged := f.live, liveCheck := v, act := none }) s))

/-- The activation watch at a change of minute (R204). -/
def activationWatch (s : State) : State :=
  match s.fare.act with
  | none => s
  | some a =>
    if s.fare.clock.valid ∧ dayMinute a.day a.minute ≤ dayMinute s.fare.clock.day s.fare.clock.minute then
      swap (.day a.day a.minute)
        (decide (dayMinute a.day a.minute < dayMinute s.fare.clock.day s.fare.clock.minute)) s
    else s

end Sys2Proof.Machine
end

