-- ==== Sys2Proof/Machine/Planner.lean ====
section
/-! DEFINITION. The change planner (R47, R52–R56): availability, the greedy passes, the allocation to tubes, the short plan
and the refund plan. The planner works on two vectors, the denominations of the tubes and the coins available. -/

namespace Sys2Proof.Machine

/-- The denomination of a tube: the value of its coin type, 0 for none (R42). -/
def denomOf (s : State) (t : Fin 6) : Nat :=
  match (tube t s).ctype with
  | some c => (coinType c s).value
  | none => 0

def denoms (s : State) : Vector Nat 6 := vtab (denomOf s)

/-- The availability of a tube to a position (R47). -/
def availOf (s : State) (p : Position) (t : Fin 6) : Nat :=
  let x := tube t s
  let other := vget (resv p.other s).reserved t
  match x.state with
  | .active => x.count - other
  | .doubt => min (x.count - other) (x.estimate.getD 0 - other)
  | .jammed => 0
  | .disabled => 0

def avail (s : State) (p : Position) : Vector Nat 6 := vtab (availOf s p)

/-- Insertion in descending order, without repeats. -/
def insertDesc (d : Nat) : List Nat → List Nat
  | [] => [d]
  | x :: xs => if x < d then d :: x :: xs else if x = d then x :: xs else x :: insertDesc d xs

/-- The distinct denominations, largest first; a tube without one takes no part (R52). -/
def distinctDenoms (den : Vector Nat 6) : List Nat :=
  sixes.foldl (fun ds t => if vget den t = 0 then ds else insertDesc (vget den t) ds) []

/-- The summed availability of the tubes of one denomination (R52). -/
def summed (den av : Vector Nat 6) (d : Nat) : Nat :=
  (sixes.map (fun t => if vget den t = d then vget av t else 0)).sum

/-- The coins a selection may take of a denomination, with at most one denomination limited (R53). -/
def allowed (den av : Vector Nat 6) (limit : Option (Nat × Nat)) (d : Nat) : Nat :=
  match limit with
  | some (x, n) => if x = d then min n (summed den av d) else summed den av d
  | none => summed den av d

/-- The greedy selection (R52): the coins of each denomination, and what remains of the amount. -/
def greedy (den av : Vector Nat 6) (limit : Option (Nat × Nat)) : List Nat → Nat → List (Nat × Nat) × Nat
  | [], c => ([], c)
  | d :: ds, c =>
    let k := min (allowed den av limit d) (c / d)
    let r := greedy den av limit ds (c - k * d)
    ((d, k) :: r.1, r.2)

/-- Tube t comes before tube u in the order of giving (R54): more available, or as many and a lower number. -/
def givesBefore (av : Vector Nat 6) (t u : Fin 6) : Bool :=
  decide (vget av u < vget av t) || (decide (vget av t = vget av u) && decide (t.val < u.val))

def insertTube (av : Vector Nat 6) (t : Fin 6) : List (Fin 6) → List (Fin 6)
  | [] => [t]
  | u :: us => if givesBefore av t u then t :: u :: us else u :: insertTube av t us

/-- The tubes of a denomination in the order of giving. -/
def givers (den av : Vector Nat 6) (d : Nat) : List (Fin 6) :=
  sixes.foldl (fun l t => if vget den t = d then insertTube av t l else l) []

/-- n coins given in turn (R54). -/
def give (av : Vector Nat 6) : List (Fin 6) → Nat → Plan
  | [], _ => []
  | t :: ts, n =>
    let k := min (vget av t) n
    (t, k) :: give av ts (n - k)

/-- The count a plan names for a tube. -/
def planCount (pl : Plan) (t : Fin 6) : Nat := ((pl.filter (fun e => decide (e.1 = t))).map (·.2)).sum

/-- The entries of one denomination with a count above 0, by ascending tube number (R54). -/
def entriesFor (den : Vector Nat 6) (d : Nat) (counts : Plan) : Plan :=
  (sixes.map (fun t => (t, if vget den t = d then planCount counts t else 0))).filter (fun e => decide (0 < e.2))

/-- A selection allocated to tubes and put in the order of payout (R54). -/
def allocate (den av : Vector Nat 6) (sel : List (Nat × Nat)) : Plan :=
  (sel.map (fun dk => entriesFor den dk.1 (give av (givers den av dk.1) dk.2))).flatten

/-- The amount a plan makes. -/
def planValue (den : Vector Nat 6) (pl : Plan) : Nat := (pl.map (fun e => e.2 * vget den e.1)).sum

/-- Pass 2: the first limited run that leaves nothing (R53). -/
def pass2 (den av : Vector Nat 6) (c : Nat) : List (Nat × Nat) → Option Plan
  | [] => none
  | (d, k) :: rest =>
    if k = 0 then pass2 den av c rest
    else
      let r := greedy den av (some (d, k - 1)) (distinctDenoms den) c
      if r.2 = 0 then some (allocate den av r.1) else pass2 den av c rest

/-- The change planner: a plan of the amount, or none for FAIL (R52, R53). -/
def planFor (den av : Vector Nat 6) (c : Nat) : Option Plan :=
  if c = 0 then some []
  else
    let r := greedy den av none (distinctDenoms den) c
    if r.2 = 0 then some (allocate den av r.1) else pass2 den av c r.1

/-- The short plan and the part of the amount it does not make (R55). -/
def shortPlan (den av : Vector Nat 6) (c : Nat) : Plan × Nat :=
  let r := greedy den av none (distinctDenoms den) c
  (allocate den av r.1, r.2)

/-- The plan of an amount, or its short plan with the remainder (R49, R59, R120). -/
def planOrShort (den av : Vector Nat 6) (c : Nat) : Plan × Nat :=
  match planFor den av c with
  | some pl => (pl, 0)
  | none => shortPlan den av c

/-- The planner run for a position as the tables stand. -/
def planAt (s : State) (p : Position) (c : Nat) : Option Plan := planFor (denoms s) (avail s p) c

/-- The value of a position's cover (R56). -/
def coverValue (s : State) (p : Position) : Nat :=
  (sixes.map (fun t => vget (resv p s).cover t * denomOf s t)).sum

/-- Counts put in the order of payout: descending denomination, ascending tube number (R54, R56). -/
def orderPlan (den : Vector Nat 6) (counts : Plan) : Plan :=
  ((distinctDenoms den).map (fun d => entriesFor den d counts)).flatten

/-- The refund plan of an amount and the part it does not make (R56). A cover worth more than the amount is planned whole,
with nothing further (log 65), and a tube whose availability is below its cover count makes nothing of the rest (log 87). -/
def refundPlan (s : State) (p : Position) (c : Nat) : Plan × Nat :=
  let den := denoms s
  match planFor den (avail s p) c with
  | some pl => (pl, 0)
  | none =>
    let cover := sixes.map (fun t => (t, vget (resv p s).cover t))
    let rest := planOrShort den (vtab (fun t => availOf s p t - vget (resv p s).cover t)) (c - coverValue s p)
    (orderPlan den (cover ++ rest.1), rest.2)

end Sys2Proof.Machine
end

