-- ==== Sys2Proof/Machine/Change.lean ====
section
/-! DEFINITION. The change store: coins counted into tubes and the box (R32, R45, R66), reservations (R48–R51), payouts
(R57–R61), gauges (R62–R65), the box switch (R67) and the tube configuration (R70). No function here acts on a session's
state: a payout's figures go into the session record (R58), and its end is handed back. -/

namespace Sys2Proof.Machine

/-! ### Coins counted (R32, R45, R66) -/

/-- One coin into the box record; BOX_FULL is raised at or past the limit (R45, R66). -/
def countBox (c : Fin 8) (value : Nat) (s : State) : State :=
  let s1 := onBox (fun b => { b with count := min 65535 (b.count + 1),
                                     values := vmodify b.values c (fun v => add32 v value) }) s
  if s1.cash.limit ≤ s1.change.box.count then raiseFault .changer .boxFull s1 else s1

/-- A coin of type c routed to tube t goes into the tube, not through its overflow or past it into the box (R32). -/
def tubeTakes (t : Fin 6) (c : Fin 8) (s : State) : Bool :=
  decide ((tube t s).count < (tube t s).capacity) && !decide ((tube t s).state = .disabled) &&
  decide ((tube t s).ctype = some c)

/-- A coin counted at its destination (R32, step 1), its cover apart. -/
def countCoin (c : Fin 8) (value : Nat) (d : Dest) (s : State) : State :=
  match d with
  | .box => countBox c value s
  | .tube t =>
    if tubeTakes t c s then onTube t (fun x => { x with count := x.count + 1, routedIn := x.routedIn + 1 }) s
    else countBox c value s

/-! ### Reservations (R48–R51) -/

/-- Cover and reservation at a coin routed into tube t while its session is in COLLECTING (R48, step 2). -/
def coverCoin (p : Position) (t : Fin 6) (s : State) : State :=
  onResv p (fun r =>
    let cover := vmodify r.cover t (· + 1)
    match r.mode with
    | .provisional => { r with cover := cover, reserved := vset r.reserved t (max (vget r.reserved t) (vget cover t)) }
    | .none => { r with cover := cover, reserved := vmodify r.reserved t (· + 1) }
    | .cover => { r with cover := cover, reserved := vmodify r.reserved t (· + 1) }
    | .hold => { r with cover := cover, reserved := vmodify r.reserved t (· + 1) }) s

/-- Cover and reservation at a late coin routed into tube t (R50). -/
def coverLate (p : Position) (t : Fin 6) (s : State) : State :=
  onResv p (fun r =>
    { r with cover := vmodify r.cover t (· + 1), reserved := vmodify r.reserved t (· + 1),
             mode := if r.mode = .none then .hold else r.mode }) s

/-- A provisional plan is reserved: the larger of the cover and the plan's count on each tube (R48, steps 3 and 4). -/
def reserveProvisional (p : Position) (pl : Plan) (amount : Nat) (s : State) : State :=
  onResv p (fun r =>
    { r with mode := .provisional, plan := pl, amount := amount,
             reserved := vtab (fun t => max (vget r.cover t) (planCount pl t)) }) s

/-- Back to the cover, with no plan (R48, steps 1, 5 and 6). -/
def dropToCover (p : Position) (s : State) : State :=
  onResv p (fun r => { r with mode := .cover, plan := [], amount := 0, reserved := r.cover }) s

/-- A position's reservations when its session enters COLLECTING (R48, step 1). -/
def startCover (p : Position) (s : State) : State :=
  onResv p (fun _ => { Reserve.start with mode := .cover }) s

/-- A plan held for a payout: HOLD, the plan's counts reserved, the cover released (R49, R56, R120). -/
def holdPlan (p : Position) (pl : Plan) (amount short : Nat) (s : State) : State :=
  onResv p (fun r =>
    { r with mode := .hold, plan := pl, amount := amount, short := short, reserved := vtab (planCount pl),
             cover := vfill 6 0 }) s

/-- The fixing of change (R49). -/
def fixChange (p : Position) (c : Nat) (s : State) : State :=
  if c = 0 then onResv p (fun _ => Reserve.start) s
  else if (resv p s).mode = .provisional ∧ (resv p s).amount = c then
    onResv p (fun r =>
      { r with mode := .hold, short := 0, cover := vfill 6 0,
               reserved := vtab (fun t => min (vget r.reserved t) (planCount r.plan t)) }) s
  else
    let pl := planOrShort (denoms s) (avail s p) c
    holdPlan p pl.1 (c - pl.2) pl.2 s

/-- The release at a session's end (R51). -/
def releaseResv (p : Position) (s : State) : State := onResv p (fun _ => Reserve.start) s

/-! ### Payout (R57–R61) -/

/-- The remaining entries of a plan, those paid in full left out. -/
def unpaid (pl : Plan) : Plan := pl.filter (fun e => decide (0 < e.2))

/-- A payout begins (R57). -/
def beginPayout (p : Position) (s : State) : State := onResv p (fun r => { r with paying := true }) s

/-- The end of a payout (R61): of what is reserved only late cover stays. -/
def closePayout (p : Position) (s : State) : State :=
  onResv p (fun r =>
    { r with paying := false, plan := [], amount := 0, short := 0, waiting := none,
             reserved := vtab (fun t => min (vget r.reserved t) (vget r.cover t)) }) s

/-- The unpaid remainder, the plan's amount less everything paid so far, replanned once (R59, R61): the plan, or the short
plan with the rest carried as owed. -/
def replan (p : Position) (s : State) : State :=
  let r := (resv p s).amount
  let pl := planOrShort (denoms s) (avail s p) r
  onResv p (fun x => { x with plan := pl.1, amount := r - pl.2, short := x.short + pl.2,
                              reserved := vtab (planCount pl.1) }) s

/-- The check before a DISPENSE is formed for an entry (R61). -/
def entryPayable (p : Position) (e : Fin 6 × Nat) (s : State) : Bool :=
  (decide ((tube e.1 s).state = .active) || decide ((tube e.1 s).state = .doubt)) &&
  decide (e.2 ≤ vget (resv p s).reserved e.1)

/-- The plan before the next DISPENSE, replanned at a shortage (R61). -/
def planForNext (p : Position) (s : State) : State :=
  match unpaid (resv p s).plan with
  | [] => s
  | e :: _ => if entryPayable p e s then s else replan p s

/-- A waiting DISPENSE is handed to the device link when none is outstanding at the changer; of two the one that became
waiting first goes first (R57). -/
def handDispense (s : State) : State :=
  let take (p : Position) (w : WaitingDispense) (s : State) : State :=
    onChange (fun c => { c with dispense := some ⟨p, w.tube, w.count, w.age, false, false⟩ })
      (onResv p (fun r => { r with waiting := none }) s)
  match s.change.dispense with
  | some _ => s
  | none =>
    match (resv .A s).waiting, (resv .B s).waiting with
    | some a, some b => if b.age < a.age then take .B b s else take .A a s
    | some a, none => take .A a s
    | none, some b => take .B b s
    | none, none => s

/-- A payout goes on (R57, R61): the state, and the owed amount where the payout has ended. The next DISPENSE is formed
for the first unpaid entry, 25 coins at most; a changer that is not ONLINE ends the payout at once. -/
def advancePayout (p : Position) (s : State) : State × Option Nat :=
  if unpaid (resv p s).plan = [] then (closePayout p s, some (resv p s).short)
  else if online .changer s = false then
    (closePayout p s, some ((resv p s).short + (resv p s).amount))
  else
    let s1 := planForNext p s
    match unpaid (resv p s1).plan with
    | [] => (closePayout p s1, some (resv p s1).short)
    | e :: _ =>
      (handDispense (onResv p (fun r => { r with waiting := some ⟨e.1, min Config.dispenseMax e.2, now s⟩ }) s1), none)

/-- A payout ended at once: its whole unpaid remainder is owed (R57). -/
def cutPayout (p : Position) (s : State) : State × Nat :=
  (closePayout p s, (resv p s).short + (resv p s).amount)

/-- k coins less in a plan's entry for a tube (R58). -/
def payEntry (t : Fin 6) (k : Nat) : Plan → Plan
  | [] => []
  | e :: es => if e.1 = t then (e.1, e.2 - k) :: es else e :: payEntry t k es

/-- Coins added to a payout list, entries for the same tube together (R120). -/
def addPaid (t : Fin 6) (k : Nat) : List (Fin 6 × Nat) → List (Fin 6 × Nat)
  | [] => [(t, k)]
  | e :: es => if e.1 = t then (e.1, e.2 + k) :: es else e :: addPaid t k es

/-- k coins paid from tube t to position p (R58): the book count, the account, the reservation, the plan with what it leaves
unpaid (R59), and the session's paid amount with its payout list. The DISPENSE is no longer outstanding. A DISPENSE formed
before an EMPTY reading wrote its tube off may pay more coins than are booked or reserved there: both counts then stop at 0,
and everything else takes the whole k (log 64). -/
def payCoins (p : Position) (t : Fin 6) (k : Nat) (s : State) : State :=
  let v := k * denomOf s t
  let s1 := onTube t (fun x => { x with count := x.count - k, paidOut := add32 x.paidOut k }) s
  let s2 := onResv p (fun r =>
    { r with reserved := vmodify r.reserved t (· - k), plan := payEntry t k r.plan, amount := r.amount - v }) s1
  let s3 := onChange (fun c => { c with dispense := none, misses := 0 }) s2
  if k = 0 then s3
  else onSess p (fun x =>
    { x with payouts := addPaid t k x.payouts,
             changePaid := if x.state = .refunding then x.changePaid else x.changePaid + v,
             refundPaid := if x.state = .refunding then x.refundPaid + v else x.refundPaid }) s3

/-- A tube sticks: JAMMED, with JAM raised and the remainder replanned (R59). A jammed tube's streaks are 0 (R65). -/
def jam (p : Position) (t : Fin 6) (k : Nat) (s : State) : State :=
  let s1 := payCoins p t k s
  let s2 := onTube t (fun x => { x with state := .jammed, doubt := 0, clear := 0 }) s1
  replan p (raiseFault .changer .jam s2)

/-- The DISPENSE outstanding at the changer that a report of tube t matches (R58). -/
def matchDispense (t : Fin 6) (s : State) : Option Dispense :=
  match s.change.dispense with
  | some d => if d.sent ∧ d.tube = t then some d else none
  | none => none

/-! ### Gauges (R62–R65) -/

/-- The binary level of a Gray reading (R63). -/
def grayLevel (g : BitVec 6) : Nat :=
  let b5 := g.getLsbD 5
  let b4 := Bool.xor b5 (g.getLsbD 4)
  let b3 := Bool.xor b4 (g.getLsbD 3)
  let b2 := Bool.xor b3 (g.getLsbD 2)
  let b1 := Bool.xor b2 (g.getLsbD 1)
  let b0 := Bool.xor b1 (g.getLsbD 0)
  32 * b5.toNat + 16 * b4.toNat + 8 * b3.toNat + 4 * b2.toNat + 2 * b1.toNat + b0.toNat

/-- Among the Gray bits and the parity bit the number of ones is even (R62). -/
def parityEven (g : BitVec 6) (parity : Bool) : Bool :=
  decide (((List.range 6).foldl (fun n i => n + (g.getLsbD i).toNat) parity.toNat) % 2 = 0)

/-- A reading outside tolerance (R65). -/
def outsideStep (x : Tube) : Tube :=
  let d := min 3 (x.doubt + 1)
  { x with doubt := d, clear := 0, state := if x.state = .active ∧ d = 3 then .doubt else x.state }

/-- A reading within tolerance (R65). -/
def withinStep (x : Tube) : Tube :=
  let c := min 3 (x.clear + 1)
  { x with clear := c, doubt := 0, state := if x.state = .doubt ∧ c = 3 then .active else x.state }

/-- The streaks at a reading (R65): within or outside tolerance in ACTIVE and DOUBT, 0 in JAMMED. -/
def streakStep (within : Bool) (x : Tube) : Tube :=
  match x.state with
  | .active => if within then withinStep x else outsideStep x
  | .doubt => if within then withinStep x else outsideStep x
  | .jammed => { x with doubt := 0, clear := 0 }
  | .disabled => x

/-- A level-0 reading (R64): the count is written off, and both positions' reservations and cover on the tube go. -/
def writeOff (t : Fin 6) (s : State) : State :=
  let n := (tube t s).count
  if n = 0 then s
  else
    let clear (r : Reserve) : Reserve := { r with reserved := vset r.reserved t 0, cover := vset r.cover t 0 }
    onResv .A clear (onResv .B clear
      (onTube t (fun x => { x with count := 0, writtenOff := add32 x.writtenOff n }) s))

/-- The two counts differ by more than the tolerance (R65). -/
def outside (tol a b : Nat) : Bool := decide (tol < a - b) || decide (tol < b - a)

/-- A GAUGE report (R62–R65) and its part result. A report for a DISABLED tube is discarded before its parity is looked at
(log 20). -/
def gauge (t : Fin 6) (g : BitVec 6) (parity : Bool) (s : State) : State × PartResult :=
  if (tube t s).state = .disabled then (s, .discarded)
  else if parityEven g parity = false then
    (raiseFault .changer .gaugeParity (onChange (fun c => { c with parityErrors := c.parityErrors + 1 }) s), .discarded)
  else if grayLevel g = 0 ∧ (matchDispense t s).isSome then (s, .discarded)
  else
    let est := grayLevel g * (tube t s).perStep
    let off := if grayLevel g = 0 then (tube t s).count else 0
    let s1 := onTube t (fun x => { x with estimate := some est }) s
    let s2 :=
      if grayLevel g = 0 then onTube t (streakStep true) (writeOff t s1)
      else onTube t (fun x => streakStep (!outside x.tolerance x.count est) x) s1
    (s2, .gauge est (tube t s2).state off)

/-! ### The box switch (R67) -/

/-- The sum of the box values. -/
def boxSum (b : Box) : Nat := (b.values.toList.map BitVec.toNat).sum

/-- A BOX_STATE report (R67) and its part result. -/
def boxState (present : Bool) (s : State) : State × PartResult :=
  let b := s.change.box
  if present = b.present then (s, .unchanged)
  else if present then (onBox (fun x => { x with present := true }) (append none .boxInserted s), .boxInserted)
  else
    (onBox (fun x => { x with present := false, count := 0, values := vfill 8 0 })
      (append none (.boxRemoved b.count b.values (boxSum b)) s), .boxRemoved)

/-! ### Configuration (R70) -/

/-- A tube brought to its new configuration under the new coin table (R70). -/
def configTube (types : Vector CoinType 8) (g : TubeConfig) (x : Tube) : Tube :=
  let used := match g.ctype with
    | some c => decide (0 < (vget types c).value)
    | none => false
  let zero := decide (g.ctype ≠ x.ctype) || decide (g.perStep ≠ x.perStep) || decide (g.tolerance ≠ x.tolerance)
  { x with
    ctype := g.ctype
    capacity := g.capacity
    perStep := g.perStep
    tolerance := g.tolerance
    state := if used then (if x.state = .disabled then .active else x.state) else .disabled
    doubt := if zero then 0 else x.doubt
    clear := if zero then 0 else x.clear }

end Sys2Proof.Machine
end

