-- ==== Sys2Proof/Machine/Coins.lean ====
section
/-! DEFINITION. The coin classifier: candidates and noise (R25, R26), the verdict (R27–R30), the outstanding-verdict lists
(R30, R34–R36) and the inhibit masks (R38–R41). -/

namespace Sys2Proof.Machine

/-! ### Classifying a coin (R25, R26) -/

/-- The middle value of three samples (R25). -/
def median (x : Samples) : Nat := max (min x.x x.y) (min (max x.x x.y) x.z)

/-- The largest sample minus the smallest (R25). -/
def spread (x : Samples) : Nat := max x.x (max x.y x.z) - min x.x (min x.y x.z)

def inWindow (lo hi v : Nat) : Bool := decide (lo ≤ v) && decide (v ≤ hi)

/-- A type is a candidate for a reading (R25). -/
def candidate (r : GateReading) (c : CoinType) : Bool :=
  decide (0 < c.value) && inWindow c.diaLo c.diaHi (median r.diameter) &&
  inWindow c.thickLo c.thickHi (median r.thickness) && inWindow c.matLo c.matHi (median r.material)

/-- A reading is NOISY for a type (R26). -/
def noisy (r : GateReading) (c : CoinType) : Bool :=
  decide (c.noise < spread r.diameter) || decide (c.noise < spread r.thickness) || decide (c.noise < spread r.material)

/-- The type of a coin, or its rejection (R25, R26). -/
def classify (types : Vector CoinType 8) (r : GateReading) : Except RejectReason (Fin 8) :=
  match eights.filter (fun c => candidate r (vget types c)) with
  | [] => .error .unknown
  | [c] => if noisy r (vget types c) ∧ (vget types c).strict = true then .error .noise else .ok c
  | _ :: _ :: _ => .error .ambiguous

/-! ### Pledged value and destinations (R27, R28) -/

/-- An entry was decided for the position's current session. -/
def current (p : Position) (e : Outstanding) (s : State) : Bool :=
  decide (e.session = (sess p s).serial) && decide ((sess p s).state ≠ .idle)

/-- The entries of the list decided for the current session. -/
def currentList (p : Position) (s : State) : List Outstanding := (lane p s).list.filter (fun e => current p e s)

/-- Pledged value (section 2.3). -/
def pledged (p : Position) (s : State) : Nat := (sess p s).credit + ((currentList p s).map (·.value)).sum

/-- Pending arrivals at a destination, from both lists (R28). -/
def arrivals (d : Dest) (s : State) : Nat :=
  (((lane .A s).list ++ (lane .B s).list).filter (fun e => decide (e.dest = d))).length

/-- The destination of a coin of type c (R28). -/
def destination (c : Fin 8) (s : State) : Dest :=
  match (coinType c s).route with
  | none => .box
  | some t =>
    if (tube t s).ctype = some c ∧ (tube t s).state ≠ .jammed ∧ (tube t s).state ≠ .disabled ∧
        (tube t s).count + arrivals (.tube t) s < (tube t s).capacity then .tube t
    else .box

/-- The box can take another coin: present, its count plus pending arrivals below the limit (R28). -/
def boxTakes (s : State) : Bool :=
  s.change.box.present && decide (s.change.box.count + arrivals .box s < s.cash.limit)

/-- A coin of type c has a destination that can take it (R28, R38 condition 4). -/
def destinationOpen (c : Fin 8) (s : State) : Bool :=
  match destination c s with
  | .tube _ => true
  | .box => boxTakes s

/-! ### The verdict (R27–R30) -/

/-- The decision on a classified coin (R27–R29): its destination with the provisional plan it needs, or the rejection. -/
def decideCoin (p : Position) (c : Fin 8) (s : State) : Except RejectReason (Dest × Option (Plan × Nat)) :=
  let v := (coinType c s).value
  let due := (sess p s).due
  if (sess p s).state ≠ .collecting then .error .state
  else if Config.verdictCapacity ≤ (lane p s).list.length then .error .busy
  else if inMask (lane p s).spMask c.val = false then .error .inhibited
  else if destinationOpen c s = false then .error .boxFull
  else if due ≤ pledged p s then .error .paid
  else if pledged p s + v ≤ due then .ok (destination c s, none)
  else match planAt s p (pledged p s + v - due) with
    | some pl => .ok (destination c s, some (pl, pledged p s + v - due))
    | none => .error .change

def rejectIndex : RejectReason → Fin 9
  | .unknown => 0 | .ambiguous => 1 | .noise => 2 | .state => 3 | .busy => 4 | .inhibited => 5 | .boxFull => 6
  | .paid => 7 | .change => 8

/-- A VERDICT becomes ready at level 1 (R30). -/
def sendVerdict (p : Position) (seq : Byte) (v : Verdict) (s : State) : State :=
  onLink (fun l => { l with verdicts := l.verdicts ++ [⟨p, s.port.moment, seq, v⟩] }) s

/-- A REJECT: counted, recorded and sent (R26, R37). -/
def rejectCoin (p : Position) (seq : Byte) (r : RejectReason) (s : State) : State :=
  sendVerdict p seq (.reject r)
    (onLane p (fun l => { l with last := some (seq, .reject r),
                                 rejects := vmodify l.rejects (rejectIndex r) bump16 }) s)

/-- An ACCEPT: the entry opened, the provisional plan reserved, recorded and sent (R29, R30). -/
def acceptCoin (p : Position) (seq : Byte) (c : Fin 8) (d : Dest) (plan : Option (Plan × Nat)) (s : State) : State :=
  let s1 := onLane p (fun l =>
    { l with list := l.list ++ [⟨seq, c, (coinType c s).value, d, (sess p s).serial⟩],
             last := some (seq, .accept d) }) s
  let s2 := match plan with
    | some (pl, amount) => reserveProvisional p pl amount s1
    | none => s1
  sendVerdict p seq (.accept d) s2

/-- The verdict already given to a gate sequence number (R24). -/
def knownVerdict (p : Position) (seq : Byte) (s : State) : Option Verdict :=
  match (lane p s).list.find? (fun e => decide (e.seq = seq)) with
  | some e => some (.accept e.dest)
  | none =>
    match (lane p s).last with
    | some (q, v) => if q = seq then some v else none
    | none => none

/-- A COIN_AT_GATE report (R24–R30) and its part result. -/
def coinAtGate (p : Position) (seq : Byte) (r : GateReading) (s : State) : State × PartResult :=
  match knownVerdict p seq s with
  | some v => (sendVerdict p seq v s, .repeated)
  | none =>
    match classify s.cash.types r with
    | .error e => (rejectCoin p seq e s, .verdict (.reject e))
    | .ok c =>
      match decideCoin p c s with
      | .error e => (rejectCoin p seq e s, .verdict (.reject e))
      | .ok (d, plan) => (acceptCoin p seq c d plan s, .verdict (.accept d))

/-! ### Entries that leave the list (R34–R36) -/

def findEntry (p : Position) (seq : Byte) (s : State) : Option Outstanding :=
  (lane p s).list.find? (fun e => decide (e.seq = seq))

def removeEntry (p : Position) (seq : Byte) (s : State) : State :=
  onLane p (fun l => { l with list := l.list.filter (fun e => !decide (e.seq = seq)) }) s

/-- The provisional plan after a fall of the pledged value (R36). -/
def reviewPlan (p : Position) (s : State) : State :=
  if (resv p s).mode ≠ .provisional then s
  else if pledged p s ≤ (sess p s).due then dropToCover p s
  else match planAt s p (pledged p s - (sess p s).due) with
    | some pl => reserveProvisional p pl (pledged p s - (sess p s).due) s
    | none => dropToCover p s

/-- An accepted entry leaves the list without being routed (R34–R36). -/
def dropEntry (p : Position) (e : Outstanding) (s : State) : State :=
  let s1 := removeEntry p e.seq s
  if current p e s then reviewPlan p s1 else s1

def countReturn (p : Position) (r : ReturnReason) (s : State) : State :=
  onLane p (fun l =>
    match r with
    | .late => { l with returnedLate := bump16 l.returnedLate }
    | .failed => { l with returnedFailed := bump16 l.returnedFailed }) s

/-! ### Inhibit masks (R38–R41) -/

/-- The part's mask enables type c (R38). -/
def partEnables (p : Position) (s : State) (c : Fin 8) : Bool :=
  let v := (coinType c s).value
  let rest := (sess p s).due - pledged p s
  decide (0 < v) && decide ((sess p s).state = .collecting) && decide (pledged p s < (sess p s).due) &&
  destinationOpen c s && (decide (v ≤ rest) || (planAt s p (v - rest)).isSome)

/-- The part's mask (R38), empty while the link is lent. -/
def partMask (p : Position) (s : State) : BitVec 8 :=
  if lent s = true ∨ (sess p s).state ≠ .collecting then 0 else maskOf (partEnables p s)

/-- The effective mask (R38). -/
def effectiveMask (p : Position) (s : State) : BitVec 8 := partMask p s &&& (lane p s).spMask

/-- An INHIBIT of p's validator is in its exchange. -/
def inhibitOut (p : Position) (s : State) : Bool :=
  match s.link.line with
  | .sending ⟨_, .inhibit q _⟩ => decide (q = p)
  | .window ⟨_, .inhibit q _⟩ => decide (q = p)
  | _ => false

/-- A waiting INHIBIT takes a set and keeps its age; with none waiting one becomes ready (R41, R174). -/
def takeSet (m : BitVec 8) (s : State) (w : Option (Nat × BitVec 8)) : Option (Nat × BitVec 8) :=
  some ((w.map Prod.fst).getD s.port.moment, m)

/-- The effective mask is made ready as the validator's INHIBIT whatever it holds (R41); one in its exchange takes it too, for
the case that it is left unanswered. -/
def sendMask (p : Position) (m : BitVec 8) (s : State) : State :=
  if online (valAddr p) s = false then s
  else onLink (fun l =>
    { l with inhibit := l.inhibit.set p (takeSet m s (l.inhibit.get p)),
             inhibitKept := if inhibitOut p s then l.inhibitKept.set p (takeSet m s (l.inhibitKept.get p))
               else l.inhibitKept }) s

/-- An INHIBIT is withdrawn when its new set is the last the validator acknowledged (R41). -/
def withdraws (p : Position) (m : BitVec 8) (w : Option (Nat × BitVec 8)) (s : State) : Bool :=
  w.isSome && decide (s.link.acked.get p = some m)

/-- A changed effective mask (R41): the waiting command takes the new set or is withdrawn. While an INHIBIT is in its exchange that
is done to it, as it stays waiting if it is left unanswered, and the new set waits beside it whatever it holds (log 13). -/
def changeMask (p : Position) (m : BitVec 8) (s : State) : State :=
  if inhibitOut p s then
    if withdraws p m (s.link.inhibitKept.get p) s then
      onLink (fun l => { l with inhibitKept := l.inhibitKept.set p none }) (sendMask p m s)
    else sendMask p m s
  else if withdraws p m (s.link.inhibit.get p) s then onLink (fun l => { l with inhibit := l.inhibit.set p none }) s
  else sendMask p m s

/-- A rise of credit (R39): the position with its credit and due at the rise. -/
structure Rise where
  pos : Position
  credit : Nat
  due : Nat
deriving DecidableEq, Repr

/-- The mask of one position recomputed, with the CREDIT notice of a change or of a rise (R39). -/
def recompute (p : Position) (rise : Option Rise) (s : State) : State :=
  let m := effectiveMask p s
  let changed := decide (m ≠ (lane p s).lastMask)
  let s1 := if changed then changeMask p m (onLane p (fun l => { l with lastMask := m }) s) else s
  match rise with
  | some r =>
    if r.pos = p then notify 0 (.credit p r.credit r.due m) s1
    else if changed then notify 0 (.credit p (sess p s).credit (sess p s).due m) s1
    else s1
  | none => if changed then notify 0 (.credit p (sess p s).credit (sess p s).due m) s1 else s1

/-- Both masks recomputed (R39), once at the end of the event (log 12). -/
def masks (rise : Option Rise) (s : State) : State := recompute .B rise (recompute .A rise s)

/-- Both masks recomputed and sent whatever they hold: the start and the end of a lend (R41, R184, R187). -/
def resendMasks (s : State) : State :=
  let s1 := masks none s
  sendMask .B (effectiveMask .B s1) (sendMask .A (effectiveMask .A s1) s1)

end Sys2Proof.Machine
end

