-- ==== Sys2Proof/Machine/Cards.lean ====
section
/-! DEFINITION. The card transaction unit: the images it writes (R84, R89, R96), the pending-write table (R88), the deny
list (R80–R82) and the reads (R76–R78). What a session does with an outcome is the session controllers'. -/

namespace Sys2Proof.Machine

/-! ### Images written (R89, R96) -/

/-- The balance brought within 0 and the ceiling, and the amount above the ceiling cut off (R89, steps 1 and 2). -/
def clampBalance (ceiling : Nat) (b : Int) : Nat × Nat :=
  if b < 0 then (0, 0) else if (ceiling : Int) < b then (ceiling, b.toNat - ceiling) else (b.toNat, 0)

/-- Top-up day and day total after a top-up of the delta (R84). -/
def topUpDays (t : TopUpDelta) (x : CardImage) : CardImage :=
  match t.day with
  | some d => { x with topDay := d, dayTotal := (if x.topDay = d then x.dayTotal else 0) + t.amount }
  | none => { x with dayTotal := x.dayTotal + t.amount }

/-- A delta applied to the image a write is built from, and the amount cut off at the ceiling (R89). -/
def writeImage (ceiling : Nat) (d : Delta) (x : CardImage) : CardImage × Nat :=
  let b := clampBalance ceiling ((x.balance : Int) + d.value)
  let x1 := { x with balance := b.1 }
  let x2 := match d.pass with
    | some (i, q) => if i = 0 then { x1 with slot0 := some q } else { x1 with slot1 := some q }
    | none => x1
  let x3 := if d.block then { x2 with status := .blocked } else x2
  let x4 := match d.topUp with
    | some t => topUpDays t x3
    | none => x3
  ({ x4 with counter := x.counter + 1 }, b.2)

/-! ### The pending-write table (R76, R88) -/

/-- The lowest-numbered FREE entry (log 36). -/
def freeEntry (s : State) : Option (Fin 4) := fours.find? (fun e => decide ((entry e s).state = .free))

/-- The entry that holds a card id; an entry of RESERVED holds none (R88). -/
def entryOf (x : CardId) (s : State) : Option (Fin 4) :=
  fours.find? (fun e => decide ((entry e s).state ≠ .free) && decide ((entry e s).card = some x))

/-- Another entry than e holds the card id (R89). -/
def heldElsewhere (e : Fin 4) (x : CardId) (s : State) : Bool :=
  fours.any (fun i => decide (i ≠ e) && decide ((entry i s).state ≠ .free) && decide ((entry i s).card = some x))

def freeUp (e : Fin 4) (s : State) : State := onEntry e (fun _ => PendingEntry.free) s

/-- An entry held for a session, with no write (R76, R91, R97). Its creation time is day 0, 0:00:00 (log 89). -/
def reservedFor (o : Position × Nat) : PendingEntry := { PendingEntry.free with state := .reserved, owner := some o }

/-- A settled entry: RESERVED if it has an owning session and FREE if it has none (R91, R95, R96). -/
def settleEntry (e : Fin 4) (s : State) : State :=
  match (entry e s).owner with
  | some o => onEntry e (fun _ => reservedFor o) s
  | none => freeUp e s

/-- The entries of a session that ends (R88): RESERVED becomes FREE, any other keeps its state with owner none. -/
def disown (o : Position × Nat) (x : PendingEntry) : PendingEntry :=
  if x.owner = some o then (if x.state = .reserved then PendingEntry.free else { x with owner := none }) else x

def disownAll (o : Position × Nat) (s : State) : State :=
  onCards (fun c => { c with entries := vmap (disown o) c.entries }) s

/-- The session that owns an entry, where it is still the position's session. -/
def ownerOf (e : Fin 4) (s : State) : Option Position :=
  match (entry e s).owner with
  | some (p, n) => if (sess p s).serial = n ∧ (sess p s).state ≠ .idle then some p else none
  | none => none

/-- A write under entry e: the entry takes the card, the counter before, the delta and the customer value, and the WRITE
is handed to the device link for p's module (R83, R89, R93). -/
def startWrite (p : Position) (e : Fin 4) (purpose : WritePurpose) (owner : Option (Position × Nat)) (d : Delta)
    (customer : Nat) (x : CardImage) (s : State) : State :=
  let w := writeImage s.fare.live.params.ceiling d x
  let s1 := onEntry e (fun _ =>
    { state := .writing, owner := owner, card := some x.id, before := x.counter, delta := d, customer := customer,
      created := clockStamp s.fare.clock, excess := w.2 }) s
  pushCard p (.write ⟨e, purpose, x.counter, w.1, w.2⟩) s1

/-- The completion write of a torn entry, from the image just read (R96). What it cuts off at the ceiling is what its landing
would leave owed, should it tear too. -/
def startCompletion (p : Position) (e : Fin 4) (x : CardImage) (s : State) : State :=
  let w := writeImage s.fare.live.params.ceiling (entry e s).delta x
  let s1 := onEntry e (fun y => { y with state := .resolving, excess := w.2 }) s
  setRead p (.resolving e) (pushCard p (.write ⟨e, .completion, x.counter, w.1, w.2⟩) s1)

/-- Reads that wait on another write of card x send a fresh READ (R94). -/
def wakeReads (x : CardId) (s : State) : State :=
  let wake (p : Position) (s : State) : State :=
    if readOf p s = .awaiting x then pushCard p (.read (sess p s).serial x) (setRead p (.reading x) s) else s
  wake .B (wake .A s)

/-! ### The deny list (R80–R82) -/

/-- Membership by binary search over the ordered list (R80), in at most 12 halvings of 2,048 ids. -/
def searchIds (xs : List CardId) (x : CardId) : Nat → Nat → Nat → Bool
  | 0, _, _ => false
  | n + 1, lo, hi =>
    if hi ≤ lo then false
    else
      let mid := (lo + hi) / 2
      match xs[mid]? with
      | none => false
      | some y =>
        if y = x then true
        else if y.toNat < x.toNat then searchIds xs x n (mid + 1) hi
        else searchIds xs x n lo mid

def denied (xs : List CardId) (x : CardId) : Bool := searchIds xs x 12 0 xs.length

/-- An id at its place in the order (R81). -/
def insertId (x : CardId) : List CardId → List CardId
  | [] => [x]
  | y :: ys => if x.toNat < y.toNat then x :: y :: ys else y :: insertId x ys

/-- A chunk continues the list in ascending order (R82). -/
def chunkSorted (list chunk : List CardId) : Bool :=
  idsAscending chunk &&
  (match list.getLast?, chunk.head? with
   | some l, some c => decide (l.toNat < c.toNat)
   | _, _ => true)

/-! ### Reads (R76–R78) -/

/-- A read begins (R76): the first DETECT is ready at once and counts as a poll (R171). -/
def beginRead (p : Position) (serial : Nat) (s : State) : State :=
  pushCard p (.detect serial false)
    (setRead p .detecting (onPeriph (cardAddr p) (fun x => { x with pollDue := none }) s))

/-- A read ends (R78): what it has ready is withdrawn. -/
def endRead (p : Position) (s : State) : State := setRead p .none (dropReadCmds p s)

/-- A DETECT or READ of a read at p is ready. -/
def readCmdReady (p : Position) (s : State) : Bool :=
  s.link.cardReady.any (fun f => decide (f.pos = p) && isReadCmd f.cmd)

/-- A DETECT or READ of a read at p is in its exchange. -/
def readCmdOnLine (p : Position) (s : State) : Bool :=
  match s.link.line with
  | .sending ⟨_, .card q c⟩ => decide (q = p) && isReadCmd c
  | .window ⟨_, .card q c⟩ => decide (q = p) && isReadCmd c
  | _ => false

/-- The command that a read in progress sends again in its module's poll's place (R77, R171). -/
def readRetry (p : Position) (s : State) : Option CardCmd :=
  match readOf p s with
  | .detecting => some (.detect (sess p s).serial false)
  | .reading x => some (.read (sess p s).serial x)
  | .none => none
  | .awaiting _ => none
  | .resolving _ => none

/-- A due poll of p's module, once the read's DETECT or READ is not in its exchange: a read in progress has its command ready in
the poll's place, with the poll's age, unless one is ready already, and no POLL is sent (R77, R171; log 86). -/
def standIn (p : Position) (s : State) : State :=
  match (periph (cardAddr p) s).pollDue, readRetry p s with
  | some age, some c =>
    let taken := onPeriph (cardAddr p) (fun x => { x with pollDue := none }) s
    if readCmdReady p s then taken
    else if readCmdOnLine p s then s
    else onLink (fun l => { l with cardReady := l.cardReady ++ [⟨p, age, c⟩] }) taken
  | _, _ => s

end Sys2Proof.Machine
end

