-- ==== Sys2Proof/Machine/Print.lean ====
section
/-! DEFINITION. The print unit: templates and their expansion (R131–R133), the print queue (R134–R137, R145), the printer's
status (R138, R178), lines and cuts (R139), failures and the void stub (R140, R141), lends (R142) and job ends (R143,
R144). The ends of TICKET jobs are handed back as outcomes; the session controllers act on them. -/

namespace Sys2Proof.Machine

/-- The ends of TICKET jobs: the owning position, and whether the ticket was PRINTED (R143). -/
abbrev TicketEnds := List (Position × Bool)

/-! ### Text -/

/-- A character as the printer gets it: outside 20h–7Eh a space (R133). -/
def printable (b : Byte) : Byte := if 32 ≤ b.toNat ∧ b.toNat ≤ 126 then b else 32

def digit (n : Nat) : Byte := BitVec.ofNat 8 (48 + n % 10)

/-- The last k decimal digits, with leading zeros. -/
def padded : Nat → Nat → Text
  | 0, _ => []
  | k + 1, n => padded k (n / 10) ++ [digit n]

/-- The digits of a number in decimal without leading zeros, at most k of them. -/
def decimalUpTo : Nat → Nat → Text
  | 0, n => [digit n]
  | k + 1, n => if n < 10 then [digit n] else decimalUpTo k (n / 10) ++ [digit n]

/-- A number in decimal without leading zeros. -/
def decimal (n : Nat) : Text := decimalUpTo 20 n

/-- An amount with a point before its last n digits (R132). -/
def moneyText (places n : Nat) : Text :=
  if places = 0 then decimal n else decimal (n / 10 ^ places) ++ [46] ++ padded places n

/-! ### Templates (R131, R132) -/

/-- The template of a job (R131). -/
def templateIndex (j : Job) : Fin 8 :=
  match j.kind with
  | .ticket =>
    match j.sale with
    | some x => if x.kind = .period then 2 else if x.kind = .returnTrip then 1 else 0
    | none => 0
  | .receipt =>
    match j.sale with
    | some x => if x.payment = .storedValue ∧ x.free = false then 4 else 3
    | none => 3
  | .owedSlip => if j.pending then 6 else 5
  | .freeText => 7

/-- The text of a field of a job that has sale fields (R132). A slip carries no product, zones, class, price or
payment. CHANGE is left out of every sale whose PAY named STORED_VALUE, a free issue included (log 73). -/
def saleField (b : Bank) (money : Nat) (slip : Bool) (x : SaleFields) (f : TField) : Text :=
  match f with
  | .seq => []
  | .date => []
  | .time => []
  | .position => []
  | .productName =>
    if slip then []
    else match toFin? 32 x.product with
      | some i => nameText (vget b.products i).name
      | none => []
  | .zones =>
    if slip then []
    else match x.zones with
      | some (o, d) => decimal o ++ [45] ++ decimal d
      | none => []
  | .className =>
    if slip then []
    else match x.cls with
      | some c =>
        (match toFin? 8 c with
         | some i => nameText (vget b.classes i).name
         | none => [])
      | none => []
  | .price => if slip then [] else moneyText money (if x.payment = .coins then x.cash else x.price)
  | .paid => if slip then [] else moneyText money (if x.payment = .coins then x.credit else x.price)
  | .change => if slip = true ∨ x.payment = .storedValue then [] else moneyText money x.change
  | .owed => if x.owed = 0 then [] else moneyText money x.owed
  | .balance => match x.balance with
    | some n => moneyText money n
    | none => []
  | .validFrom => match x.days with
    | some (d, _) => padded 5 d
    | none => []
  | .validTo => match x.days with
    | some (_, d) => padded 5 d
    | none => []
  | .cardTail => match x.card with
    | some c => padded 4 c.toNat
    | none => []

/-- The text of a field mark (R132); nothing where the job has no value for it. -/
def fieldText (b : Bank) (money : Nat) (j : Job) (f : TField) : Text :=
  match f with
  | .seq => match j.seq with
    | some q => decimal q.toNat
    | none => []
  | .date => match j.time with
    | some t => padded 5 t.day
    | none => []
  | .time => match j.time with
    | some t => padded 2 (t.minute / 60) ++ [58] ++ padded 2 (t.minute % 60) ++ [58] ++ padded 2 t.second
    | none => []
  | .position => match j.pos with
    | some .A => [65]
    | some .B => [66]
    | none => []
  | g => match j.sale with
    | some x => saleField b money (decide (j.kind = .owedSlip)) x g
    | none => []

def itemText (b : Bank) (money : Nat) (j : Job) : TItem → Text
  | .text t => t
  | .mark f => fieldText b money j f

/-- The expansion of a template for a job (R133): lines of at most 48 printable characters. -/
def expandWith (b : Bank) (t : Template) (j : Job) : List Text :=
  t.lines.map (fun l => (((l.map (itemText b t.money j)).flatten).take 48).map printable)

/-- The lines of a job that begins (R133, R145). -/
def expand (b : Bank) (j : Job) : List Text :=
  match j.kind with
  | .freeText => j.lines.map (List.map printable)
  | .ticket => expandWith b (vget b.templates (templateIndex j)) j
  | .receipt => expandWith b (vget b.templates (templateIndex j)) j
  | .owedSlip => expandWith b (vget b.templates (templateIndex j)) j

/-! ### Ends of jobs (R143, R144) -/

def kindIndex : JobKind → Fin 4
  | .ticket => 0
  | .receipt => 1
  | .owedSlip => 2
  | .freeText => 3

def countPrinted (k : JobKind) (s : State) : State :=
  onPrint (fun u => { u with printed := vmodify u.printed (kindIndex k) bump16 }) s

def countFailed (k : JobKind) (s : State) : State :=
  onPrint (fun u => { u with failed := vmodify u.failed (kindIndex k) bump16 }) s

/-- The dropped counters of the two kinds that have one (R143). -/
def countDropped (k : JobKind) (s : State) : State :=
  onPrint (fun u =>
    match k with
    | .receipt => { u with droppedReceipt := bump16 u.droppedReceipt }
    | .owedSlip => { u with droppedSlip := bump16 u.droppedSlip }
    | .ticket => u
    | .freeText => u) s

/-- A receipt or slip that was not printed is noted (R143). -/
def noteJob (j : Job) (s : State) : State :=
  match j.kind with
  | .receipt => note false j.seq s
  | .owedSlip => note true j.seq s
  | .ticket => s
  | .freeText => s

/-- PRINT_DONE is offered under the event table entry of the printer's CUT_DONE (R144). -/
def printDone (j : Job) (o : JobOutcome) (s : State) : State :=
  let body := NoticeBody.printDone j.kind o j.queueNo j.pos j.seq j.tag
  match eventRule .printer 1 s with
  | (.consume, _) => s
  | (.forward, cls) => notify cls body s
  | (.both, cls) => notify cls body s

def ticketEnd (j : Job) (ok : Bool) : TicketEnds :=
  match j.kind, j.pos with
  | .ticket, some p => [(p, ok)]
  | _, _ => []

/-- A job ends FAILED (R143); its slot has been freed. -/
def jobFailed (j : Job) (s : State) : State := printDone j .failed (noteJob j (countFailed j.kind s))

/-! ### Beginning a job (R137, R141) -/

def eightSlots (s : State) : List (Fin 8 × Slot) := eights.map (fun i => (i, slotOf i s))

/-- The ACTIVE job. -/
def activeJob (s : State) : Option (Fin 8 × Job × Progress) :=
  (eightSlots s).findSome? (fun x =>
    match x.2 with
    | .active j g => some (x.1, j, g)
    | _ => none)

def waitingJobs (s : State) : List (Fin 8 × Job) :=
  (eightSlots s).filterMap (fun x =>
    match x.2 with
    | .waiting j => some (x.1, j)
    | _ => none)

/-- The job of the lowest queue number. -/
def oldestJob : List (Fin 8 × Job) → Option (Fin 8 × Job)
  | [] => none
  | x :: xs =>
    match oldestJob xs with
    | none => some x
    | some y => if y.2.queueNo.toNat < x.2.queueNo.toNat then some y else some x

/-- The job to begin (R137): a TICKET, else a RECEIPT or OWED_SLIP, else a FREE_TEXT, the oldest of its kind. -/
def chooseJob (s : State) : Option (Fin 8 × Job) :=
  let ws := waitingJobs s
  match oldestJob (ws.filter (fun x => decide (x.2.kind = .ticket))) with
  | some x => some x
  | none =>
    match oldestJob (ws.filter (fun x => decide (x.2.kind = .receipt) || decide (x.2.kind = .owedSlip))) with
    | some x => some x
    | none => oldestJob ws

/-- The printer can take a line: ONLINE with last status READY or PAPER_LOW, taken from an answer after any lend of the
printer, and the link not lent (R137, R142). -/
def printerReady (s : State) : Bool :=
  online .printer s && (decide (s.print.last = some .ready) || decide (s.print.last = some .paperLow)) &&
  !s.print.stale && !lent s

/-- The printer cannot serve a job: not ONLINE, PAPER_OUT or JAMMED (R104, R136, R140). -/
def printerDown (s : State) : Bool :=
  !online .printer s || decide (s.print.last = some .paperOut) || decide (s.print.last = some .jammed)

/-- A fresh progress: its first LINE, or its CUT where it has no lines, is ready (R139). -/
def freshProgress (lines : List Text) (s : State) : Progress :=
  { serial := s.print.serial + 1, lines := lines, taken := 0, ready := some (now s), cutSent := false,
    cutAnswered := false, limit := false }

/-- The print unit begins the void stub or a job when it can (R137, R141). -/
def tryBegin (s : State) : State :=
  if (activeJob s).isSome ∨ s.print.stub.isSome ∨ printerReady s = false then s
  else match s.print.void with
    | some j =>
      let g := freshProgress (expandWith s.fare.live (vget s.fare.live.templates 7) j) s
      onPrint (fun u => { u with stub := some g, serial := u.serial + 1 }) s
    | none =>
      match chooseJob s with
      | none => s
      | some (i, j) =>
        let g := freshProgress (expand s.fare.live j) s
        onPrint (fun u => { u with serial := u.serial + 1 }) (setSlot i (.active j g) s)

/-! ### Failures (R140, R141) -/

/-- The void-pending mark with the copy of the failing job; a mark that is set keeps its copy (R141). -/
def markVoid (j : Job) (s : State) : State :=
  onPrint (fun u => { u with void := match u.void with
    | some k => some k
    | none => some j }) s

/-- The ACTIVE job fails (R140): its slot becomes FREE; void-pending is set when a line of it was taken, or always after a
lend of the printer (R142). -/
def failActive (always : Bool) (s : State) : State × TicketEnds :=
  match activeJob s with
  | none => (s, [])
  | some (i, j, g) =>
    let s1 := setSlot i .free s
    let s2 := if always = true ∨ 0 < g.taken then markVoid j s1 else s1
    (jobFailed j s2, ticketEnd j false)

/-- The void stub fails; void-pending stays set (R141). -/
def failStub (s : State) : State := onPrint (fun u => { u with stub := none }) s

/-- Every WAITING job fails, in slot order (R140; log 24). -/
def failWaitingList : List (Fin 8 × Job) → State → State × TicketEnds
  | [], s => (s, [])
  | (i, j) :: rest, s =>
    let r := failWaitingList rest (jobFailed j (setSlot i .free s))
    (r.1, ticketEnd j false ++ r.2)

def failWaiting (s : State) : State × TicketEnds := failWaitingList (waitingJobs s) s

/-- The printer can serve nothing: the ACTIVE job, the stub and every WAITING job fail (R140, R141). -/
def failAll (s : State) : State × TicketEnds :=
  let a := failActive false s
  let w := failWaiting (failStub a.1)
  (w.1, a.2 ++ w.2)

/-- The lines of a progress are all taken. -/
def allTaken (g : Progress) : Bool := decide (g.lines.length ≤ g.taken)

/-! ### The printer's status (R138, R140, R178) -/

def statusFault : PrinterStatus → Option Flag
  | .ready => none
  | .paperLow => some .paperLow
  | .paperOut => some .paperOut
  | .jammed => some .jam

/-- A status taken from any answer of the printer (R138, R178): it becomes the last status, its flag is raised, a change
produces the event STATUS, a failing status fails jobs (R140), and the beginning of a job is examined (R137). A job or a
stub with all its lines taken goes on under PAPER_OUT; so does one that has no lines (log 85). The DEVICE_FAULT and the STATUS
event are queued before the PRINT_DONE notices of the jobs that fail (log 91). -/
def takeStatus (st : PrinterStatus) (s : State) : State × TicketEnds :=
  let old := s.print.last
  let s1 := onPrint (fun u => { u with last := some st, stale := false }) s
  let s2 := match statusFault st with
    | some f => raiseFault .printer f s1
    | none => s1
  let s3 := if old.isSome ∧ old ≠ some st then sortEvent .printer 2 (.status st) (.status st) s2 else s2
  match st with
  | .ready => (tryBegin s3, [])
  | .paperLow => (tryBegin s3, [])
  | .jammed => failAll s3
  | .paperOut =>
    let keepActive := match activeJob s3 with
      | some (_, _, g) => allTaken g
      | none => true
    let keepStub := match s3.print.stub with
      | some g => allTaken g
      | none => true
    let a := if keepActive then (s3, []) else failActive false s3
    let w := failWaiting (if keepStub then a.1 else failStub a.1)
    (w.1, a.2 ++ w.2)

/-! ### Lines and cuts (R139) -/

/-- The job or stub in progress, updated. -/
def onProgress (f : Progress → Progress) (s : State) : State :=
  match activeJob s with
  | some (i, j, g) => setSlot i (.active j (f g)) s
  | none => onPrint (fun u => { u with stub := u.stub.map f }) s

/-- The progress of the ACTIVE job, or of the void stub. -/
def progress (s : State) : Option Progress :=
  match activeJob s with
  | some (_, _, g) => some g
  | none => s.print.stub

/-- A LINE answered READY or PAPER_LOW is taken as printed, and the next command is ready (R139). -/
def lineTaken (serial : Nat) (s : State) : State :=
  match progress s with
  | some g =>
    if g.serial = serial then onProgress (fun g => { g with taken := g.taken + 1, ready := some (now s) }) s else s
  | none => s

/-- A CUT answered: its limit starts, unless the link is lent (R139, R142). -/
def cutTaken (serial : Nat) (s : State) : State :=
  match progress s with
  | some g =>
    if g.serial = serial then onProgress (fun g => { g with cutAnswered := true, limit := !lent s }) s else s
  | none => s

/-- A LINE or CUT left unanswered stays the printer's ready command (R139, R178). -/
def printAgain (serial : Nat) (age : Nat) (s : State) : State :=
  match progress s with
  | some g => if g.serial = serial then onProgress (fun g => { g with ready := some age }) s else s
  | none => s

/-- The printer's command at level 4: the next LINE, or the CUT (R139, R174). -/
def printFrame (g : Progress) : LinkFrame :=
  match g.lines[g.taken]? with
  | some t => .line g.serial t
  | none => .cut g.serial

/-- A CUT_DONE (R139): it ends the ACTIVE job or the stub whose CUT has been sent; none where it matches nothing. The
beginning of the next job is examined by the caller, after the outcome has been handed on. -/
def cutDone (s : State) : Option (State × TicketEnds) :=
  match activeJob s with
  | some (i, j, g) =>
    if g.cutSent then
      some (printDone j .printed (countPrinted j.kind (setSlot i .free s)), ticketEnd j true)
    else none
  | none =>
    match s.print.stub with
    | some g => if g.cutSent then some (onPrint (fun u => { u with stub := none, void := none }) s, []) else none
    | none => none

/-- The cut limit runs out (R139, R140). -/
def cutLimitOut (s : State) : State × TicketEnds :=
  let s1 := raiseFault .printer .jam s
  match activeJob s1 with
  | some _ => failActive false s1
  | none => (failStub s1, [])

/-- A cut limit is running. -/
def cutLimitRuns (s : State) : Bool :=
  match progress s with
  | some g => g.limit
  | none => false

/-! ### Queueing (R134–R136, R145) -/

def freeSlots (s : State) : List (Fin 8) := eights.filter (fun i => decide (slotOf i s = .free))

/-- The slot reserved for a position's session. -/
def reservedSlot (p : Position) (s : State) : Option (Fin 8) := eights.find? (fun i => decide (slotOf i s = .reserved p))

/-- The next queue number. -/
def bumpQueue (s : State) : State := onPrint (fun u => { u with queueNo := u.queueNo + 1 }) s

/-- The ticket queued in its session's reserved slot (R117, R135); it fails at once at a printer that cannot serve it
(R140). -/
def queueTicket (p : Position) (i : Fin 8) (x : SaleFields) (s : State) : State × TicketEnds :=
  let s1 := bumpQueue s
  let j : Job :=
    { kind := .ticket, pos := some p, queueNo := s1.print.queueNo, time := validTime s.fare.clock, sale := some x,
      seq := none, pending := false, tag := 0, lines := [] }
  if printerDown s1 then (jobFailed j (setSlot i .free s1), ticketEnd j false)
  else (tryBegin (setSlot i (.waiting j) s1), [])

/-- A RECEIPT or OWED_SLIP given at a close (R136). -/
def giveJob (k : JobKind) (p : Position) (x : SaleFields) (seq : Option (BitVec 32)) (pending : Bool) (s : State) : State :=
  let s1 := bumpQueue s
  let j : Job :=
    { kind := k, pos := some p, queueNo := s1.print.queueNo, time := validTime s.fare.clock, sale := some x,
      seq := seq, pending := pending, tag := 0, lines := [] }
  match freeSlots s1 with
  | [] => printDone j .dropped (noteJob j (countDropped k s1))
  | i :: _ => if printerDown s1 then jobFailed j s1 else tryBegin (setSlot i (.waiting j) s1)

/-- The checks of a FREE_TEXT (R145). -/
def freeTextCheck (lines : List Text) (s : State) : Option Result :=
  if lines = [] ∨ 12 < lines.length ∨ lines.any (fun l => decide (48 < l.length)) = true then some .badLength
  else if s.print.last = some .paperOut ∨ s.print.last = some .jammed then some .printerUnavailable
  else if (freeSlots s).length < Config.freeTextSlots then some .tableFull
  else none

/-- A FREE_TEXT job queued (R145). It is given no time, so a void stub of it prints neither DATE nor TIME (log 74). -/
def queueText (tag : Byte) (lines : List Text) (s : State) : State :=
  let s1 := bumpQueue s
  let j : Job :=
    { kind := .freeText, pos := none, queueNo := s1.print.queueNo, time := none, sale := none, seq := none,
      pending := false, tag := tag, lines := lines }
  match freeSlots s1 with
  | [] => s1
  | i :: _ => tryBegin (setSlot i (.waiting j) s1)

/-! ### Lends (R142) -/

/-- A lend begins: the cut limit stops. -/
def holdPrint (s : State) : State := onProgress (fun g => { g with limit := false }) s

/-- A lend ends (R142): after a lend of the printer the job in progress fails and void-pending is set; otherwise an
answered CUT gets a fresh limit. -/
def resumePrint (wasPrinter : Bool) (s : State) : State × TicketEnds :=
  if wasPrinter then
    let a := failActive true (failStub s)
    (onPrint (fun u => { u with stale := true }) a.1, a.2)
  else (tryBegin (onProgress (fun g => { g with limit := g.cutAnswered }) s), [])

end Sys2Proof.Machine
end

