-- ==== Sys2Proof/Machine/Session.lean ====
section
/-! DEFINITION. The session controllers: changes of state (R100), issuing (R113–R119), payouts, refunds and late coins
(R120–R123), closing (R124–R127), the ends of a quote's read (R78, R79, R105), card writes and resolutions as they reach a
session (R89–R97), and coins routed and returned (R32–R36). -/

namespace Sys2Proof.Machine

/-! ### Changes of state (R100) -/

/-- A change of state, with its SESSION notice. -/
def enter (p : Position) (st : SessState) (r : ChangeReason) (s : State) : State :=
  notify 0 (.session p st r) (onSess p (fun x => { x with state := st }) s)

/-! ### Reading a session's sale -/

def payOf (x : Session) : Payment := x.payment.getD .coins

def isFree (x : Session) : Bool :=
  match x.result with
  | some r => r.free
  | none => false

def priceOf (x : Session) : Nat :=
  match x.result with
  | some r => r.price
  | none => 0

def cashDue (x : Session) : Nat :=
  match x.result with
  | some r => r.cash
  | none => 0

def mediumOf (x : Session) : Medium :=
  match x.req with
  | some q => q.medium
  | none => .paper

def cardQuoteOf (x : Session) : Option CardQuote :=
  match x.result with
  | some r => r.card
  | none => none

/-- The top-up amount of a TOPUP sale. -/
def topUpOf (x : Session) : Nat :=
  match cardQuoteOf x with
  | some c => c.topUp.getD 0
  | none => 0

/-- The fields a job given at a close prints (R127, R132), with the change figure of its kind. -/
def saleFields (x : Session) (change : Nat) : SaleFields :=
  match x.result with
  | some r =>
    { product := r.product, kind := r.kind, zones := r.zones, cls := r.cls, payment := payOf x, free := r.free,
      price := r.price, cash := r.cash, credit := x.credit, change := change, owed := x.owed + x.cardOwed,
      balance := x.balanceAfter, days := r.days, card := r.card.map (·.id) }
  | none =>
    { product := 0, kind := .unused, zones := none, cls := none, payment := payOf x, free := false, price := 0,
      cash := 0, credit := x.credit, change := change, owed := x.owed + x.cardOwed, balance := none, days := none,
      card := none }

/-- The fields a TICKET prints (R117): the card and its balance only for a STORED_VALUE sale. -/
def ticketFields (x : Session) : SaleFields :=
  let f := saleFields x x.change
  if payOf x = .storedValue then f else { f with card := none, balance := none }

/-! ### Closing (R124–R127) -/

/-- The record of a session that ends (R125). -/
def saleRec (reason : EndReason) (x : Session) : SaleRec :=
  let c := cardQuoteOf x
  match x.result with
  | some r =>
    { reason := reason, product := r.product, zones := r.zones, cls := r.cls, medium := mediumOf x, payment := payOf x,
      price := r.price, cash := r.cash, clamped := r.clamped, reduced := r.reduced, free := r.free, credit := x.credit,
      changePaid := x.changePaid, refundPaid := x.refundPaid, priceKept := x.priceKept, owed := x.owed,
      cardOwed := x.cardOwed, pending := x.pending, debited := x.debited, creditedBack := x.creditedBack,
      card := c.map (·.id), balanceAfter := x.balanceAfter, passDays := if c.isSome then r.days else none,
      payouts := x.payouts }
  | none =>
    { reason := reason, product := 0, zones := none, cls := none, medium := mediumOf x, payment := payOf x, price := 0,
      cash := 0, clamped := false, reduced := false, free := false, credit := x.credit, changePaid := x.changePaid,
      refundPaid := x.refundPaid, priceKept := x.priceKept, owed := x.owed, cardOwed := x.cardOwed,
      pending := x.pending, debited := x.debited, creditedBack := x.creditedBack, card := none, balanceAfter := none,
      passDays := none, payouts := x.payouts }

/-- What a SALE, REFUND or INTERRUPTED record adds to the totals (R156). -/
structure TotalRise where
  change : Nat
  refund : Nat
  owed : Nat
  loaded : Nat
  debited : Nat
  sold : Option Nat
  free : Bool
  unresolved : Bool
deriving DecidableEq, Repr

def addRise (r : TotalRise) (t : Totals) : Totals :=
  { t with
    changePaid := add32 t.changePaid r.change
    refundsPaid := add32 t.refundsPaid r.refund
    owed := add32 t.owed r.owed
    loaded := add32 t.loaded r.loaded
    debited := add32 t.debited r.debited
    sales := match r.sold with
      | some n => (match toFin? 32 n with
        | some i => vmodify t.sales i (fun v => v + 1)
        | none => t.sales)
      | none => t.sales
    freeIssues := if r.sold.isSome && r.free then t.freeIssues + 1 else t.freeIssues
    unresolved := if r.unresolved then t.unresolved + 1 else t.unresolved }

/-- The rise of a SALE or REFUND record (R156). -/
def saleRise (refund : Bool) (reason : EndReason) (x : Session) : TotalRise :=
  { change := x.changePaid
    refund := x.refundPaid
    owed := x.owed + x.cardOwed
    loaded := if x.write = .done then x.loaded else 0
    debited := if payOf x = .storedValue then x.debited - x.creditedBack else 0
    sold := if refund = false ∧ reason = .sold then x.result.map (·.product) else none
    free := isFree x
    unresolved := decide (refund = false) && decide (reason = .writeUnresolved) }

def addTotals (r : TotalRise) (s : State) : State := onJournal (fun j => { j with running := addRise r j.running }) s

/-- A reserved print slot that was not used is released (R124, R135). -/
def releaseSlot (p : Position) (s : State) : State :=
  onPrint (fun u => { u with slots := vmap (fun x => if x = .reserved p then .free else x) u.slots }) s

/-- Steps 4 and 5 of a close (R124): reservations, slot, entry, held image and timers go, the record returns to IDLE, and
the SESSION notice carries the end reason. -/
def release (p : Position) (reason : EndReason) (s : State) : State :=
  let x := sess p s
  let s1 := disownAll (p, x.serial) (releaseSlot p (releaseResv p (endRead p s)))
  notify 0 (.session p .idle (.ended reason)) (onSess p (fun y => Session.idle y.serial) s1)

/-- The jobs a close gives the print unit (R127), a receipt first. -/
def closeJobs (p : Position) (refund : Bool) (reason : EndReason) (seq : Option (BitVec 32)) (x : Session)
    (s : State) : State :=
  let wants := match x.req with
    | some q => q.receipt
    | none => false
  let needs := match x.result with
    | some r => r.receipt
    | none => false
  let s1 := if refund = false ∧ reason = .sold ∧ (wants = true ∨ needs = true)
    then giveJob .receipt p (saleFields x x.changePaid) seq false s else s
  if 0 < x.owed + x.cardOwed then giveJob .owedSlip p (saleFields x x.changePaid) seq x.pending s1 else s1

/-- The close of a session that passed PAY (R124–R127). A free issue writes SALE whatever state it passed (R125; log 39). A
session that planned no refund because its credit was 0 writes no record. -/
def closeSession (p : Position) (s : State) : State :=
  let x := sess p s
  let reason := x.endReason.getD .sold
  let refund := x.refunded && !isFree x
  if refund && !x.planned then release p reason s
  else
    let seq := nextSeq s
    let body := if refund then RecordBody.refund (saleRec reason x) else RecordBody.sale (saleRec reason x)
    let s1 := append (some p) body (addTotals (saleRise refund reason x) s)
    release p reason (closeJobs p refund reason seq x s1)

/-- A session that would end is held while its coins are outstanding (R123). -/
def wantEnd (p : Position) (s : State) : State :=
  if currentList p s = [] then closeSession p s else onSess p (fun x => { x with stage := .held }) s

def setEnd (p : Position) (r : EndReason) (s : State) : State := onSess p (fun x => { x with endReason := some r }) s

/-! ### Payouts (R120, R121) -/

def addOwed (p : Position) (n : Nat) (s : State) : State := onSess p (fun x => { x with owed := x.owed + n }) s

/-- The further amount planned, or its short plan, as a further payout (R120). -/
def planFurther (p : Position) (s : State) : State :=
  let c := (sess p s).further
  let pl := planOrShort (denoms s) (avail s p) c
  beginPayout p (holdPlan p pl.1 (c - pl.2) pl.2 (onSess p (fun x => { x with further := 0, stage := .paying }) s))

/-- The further payout; when it ends at once, the session ends. -/
def payFurther (p : Position) (s : State) : State :=
  match advancePayout p (planFurther p s) with
  | (s1, none) => s1
  | (s1, some owed) => wantEnd p (handDispense (addOwed p owed s1))

/-- A payout has ended with an owed amount (R61, R120, R121). -/
def payoutEnded (p : Position) (owed : Nat) (s : State) : State :=
  let s1 := addOwed p owed s
  if 0 < (sess p s1).further then payFurther p s1 else wantEnd p s1

/-- A payout goes on with its next command, or ends. -/
def continuePayout (p : Position) (s : State) : State :=
  match advancePayout p s with
  | (s1, none) => s1
  | (s1, some owed) => payoutEnded p owed (handDispense s1)

/-- The change plan is paid (R120). -/
def enterPayingOut (p : Position) (s : State) : State :=
  continuePayout p (beginPayout p (onSess p (fun x => { x with stage := .paying }) (enter p .payingOut .issued s)))

/-- The refund planned and paid (R121). -/
def payRefund (p : Position) (s : State) : State :=
  let c := (sess p s).credit
  if c = 0 then closeSession p s
  else
    let pl := refundPlan s p c
    continuePayout p (beginPayout p (holdPlan p pl.1 (c - pl.2) pl.2
      (onSess p (fun x => { x with further := 0, planned := true, stage := .paying }) s)))

/-- A held session whose last coin has settled (R123). -/
def payHeld (p : Position) (s : State) : State :=
  if 0 < (sess p s).further then
    payFurther p (if (sess p s).state = .issuing then enter p .payingOut .issued s else s)
  else closeSession p s

/-- The position's list holds no entry of the session any more: a waiting refund is planned, a held session goes on (R121,
R123). -/
def listMoved (p : Position) (s : State) : State :=
  if currentList p s ≠ [] then s
  else match (sess p s).stage with
    | .refundWait => payRefund p s
    | .held => payHeld p s
    | _ => s

/-- REFUNDING is entered (R48 step 6, R121). -/
def enterRefund (p : Position) (r : EndReason) (s : State) : State :=
  let s1 := if (sess p s).state = .collecting then dropToCover p s else s
  let s2 := onSess p (fun x => { x with endReason := some r, refunded := true, stage := .refundWait,
                                        inactivity := none, tearWindow := none }) s1
  listMoved p (enter p .refunding (.ended r) s2)

/-! ### Issuing (R113–R119) -/

/-- Issuing succeeds: the price kept is fixed (R119, R126). -/
def issueSucceeded (p : Position) (s : State) : State :=
  let x := sess p s
  let kept :=
    if isFree x then 0
    else if payOf x = .coins then
      cashDue x - (if x.write = .done then topUpOf x - x.loaded else 0)
    else priceOf x
  let s1 := setEnd p .sold (onSess p (fun y => { y with issued := true, priceKept := kept, stage := .none }) s)
  if 0 < x.change ∨ 0 < x.further then enterPayingOut p s1 else wantEnd p s1

/-- The credit-back could not be made: the price is owed (R93, R118). -/
def notCredited (p : Position) (s : State) : State :=
  wantEnd p (onSess p (fun x => { x with owed := x.owed + priceOf x, stage := .none }) s)

/-- The credit-back is asked for (R93). -/
def askCredit (p : Position) (s : State) : State :=
  if online (cardAddr p) s = false then notCredited p s
  else pushCard p (.detect (sess p s).serial true) (onSess p (fun x => { x with stage := .creditDetect }) s)

/-- A ticket that failed (R118). -/
def ticketFailed (p : Position) (s : State) : State :=
  let s1 := onSess p (fun x => { x with ticket := .failed, stage := .none, slot := none }) s
  if isFree (sess p s1) then wantEnd p (setEnd p .ticketFailed s1)
  else if payOf (sess p s1) = .coins then enterRefund p .ticketFailed s1
  else askCredit p (setEnd p .ticketFailed s1)

/-- The end of a ticket job reaches its session (R117, R118). -/
def ticketEnded (s : State) (o : Position × Bool) : State :=
  if (sess o.1 s).stage ≠ .ticket then s
  else if o.2 then
    issueSucceeded o.1 (onSess o.1 (fun x => { x with ticket := .printed, slot := none }) s)
  else ticketFailed o.1 s

/-- What the print unit did, with the ends of tickets handed on. -/
def handTickets (r : State × TicketEnds) : State := r.2.foldl ticketEnded r.1

/-- The ticket step (R117), or the end of issuing for a sale without a ticket. -/
def ticketStep (p : Position) (s : State) : State :=
  if mediumOf (sess p s) = .card then issueSucceeded p s
  else
    let s1 := onSess p (fun x => { x with ticket := .queued, stage := .ticket }) s
    match reservedSlot p s1 with
    | some i => handTickets (queueTicket p i (ticketFields (sess p s1)) s1)
    | none => ticketFailed p s1

/-- The outcome DONE, with the image left on the card and the amount cut off at the ceiling (R114, R126). -/
def handedDone (p : Position) (x : CardImage) (excess : Nat) (s : State) : State :=
  ticketStep p (onSess p (fun y =>
    let money := min excess (topUpOf y)
    let free := isFree y
    let sv := decide (payOf y = .storedValue) && !free
    let read := match cardQuoteOf y with
      | some c => c.balance
      | none => 0
    { y with write := .done, held := some x, stage := .none, tearWindow := none, balanceAfter := some x.balance,
             debited := if sv then read - x.balance else y.debited,
             loaded := topUpOf y - money,
             owed := y.owed + (if sv then excess else if free then 0 else money),
             cardOwed := y.cardOwed + (if sv then 0 else if free then excess else excess - money) }) s)

/-- The outcome NOT_DONE (R114). -/
def handedNotDone (p : Position) (r : WriteFault) (s : State) : State :=
  let s1 := onSess p (fun x => { x with write := .notDone r, stage := .none, tearWindow := none }) s
  if payOf (sess p s1) = .coins then enterRefund p .writeFailed s1 else wantEnd p (setEnd p .writeFailed s1)

/-- A write taken as not done or left unresolved: its customer value is owed, and the change is paid (R114, R116). -/
def endUnwritten (p : Position) (r : EndReason) (s : State) : State :=
  let s1 := setEnd p r (onSess p (fun x =>
    if payOf x = .coins then { x with owed := x.owed + x.due }
    else { x with debited := priceOf x, owed := x.owed + priceOf x }) s)
  if payOf (sess p s1) = .coins ∧ (0 < (sess p s1).change ∨ 0 < (sess p s1).further) then enterPayingOut p s1
  else wantEnd p s1

/-- The outcome of a FOREIGN resolution (R114). -/
def handedForeign (p : Position) (s : State) : State :=
  endUnwritten p .writeForeign
    (onSess p (fun x => { x with write := .foreign, stage := .none, tearWindow := none }) s)

/-- The outcome TORN: the tear window starts (R92, R115). -/
def handedTorn (p : Position) (s : State) : State :=
  onSess p (fun x => { x with write := .torn, stage := .torn, tearWindow := some s.sales.timing.tearWindow }) s

/-- The delta of a sale's write (R89). -/
def saleDelta (x : Session) : Delta :=
  let up := match cardQuoteOf x with
    | some c => c.topUp
    | none => none
  { value := (if payOf x = .storedValue then - (priceOf x : Int) else 0) + ((up.getD 0 : Nat) : Int)
    topUp := up.map (fun a => ⟨(match cardQuoteOf x with
      | some c => c.topDay
      | none => none), a⟩)
    pass := match x.result, cardQuoteOf x, mediumOf x with
      | some r, some c, .card =>
        (match r.kind, c.slot, r.zones, r.days with
         | .period, some i, some (lo, hi), some (f, l) => some (i, ⟨r.product, lo, hi, f, l⟩)
         | _, _, _, _ => none)
      | _, _, _ => none
    block := false }

/-- A sale has a card write to make: a card in it, and a value or a pass in its delta (R89, R113). -/
def hasWrite (x : Session) : Bool :=
  (decide (mediumOf x = .card) || decide (payOf x = .storedValue)) &&
  (decide ((saleDelta x).value ≠ 0) || (saleDelta x).pass.isSome)

/-- The customer value of a sale's write (R88). -/
def customerValue (x : Session) : Nat := if payOf x = .coins then x.due else priceOf x

/-- The sale's card write is asked for (R89). -/
def askWrite (p : Position) (s : State) : State :=
  let x := sess p s
  match x.held, x.entry with
  | some img, some e =>
    if heldElsewhere e img.id s then handedNotDone p .counter s
    else if online (cardAddr p) s = false then handedNotDone p .error s
    else
      startWrite p e .sale (some (p, x.serial)) (saleDelta x) (customerValue x) img
        (onSess p (fun y => { y with stage := .cardWrite }) s)
  | _, _ => handedNotDone p .error s

/-- ISSUING is entered, and its first step made (R113). A sale that reads a card and has no delta goes straight to its ticket:
its write outcome stays NONE and it has no balance after (log 66). -/
def enterIssuing (p : Position) (r : ChangeReason) (s : State) : State :=
  let s1 := enter p .issuing r (onSess p (fun x => { x with inactivity := none }) s)
  if hasWrite (sess p s1) then askWrite p s1 else ticketStep p s1

/-! ### Cancelling (R110) -/

/-- A COLLECTING session is cancelled (R110). -/
def cancelCollecting (p : Position) (r : EndReason) (s : State) : State :=
  if (sess p s).credit = 0 ∧ pledged p s = 0 then release p r s else enterRefund p r s

/-- The answer of a deferred QUOTE (R105). -/
def answerQuote (p : Position) (r : Result) (s : State) : State := enqueue ⟨0, (sess p s).tag, 1, r, .empty, none⟩ s

/-- A session in READING ends, and its QUOTE is answered (R105). -/
def endReading (p : Position) (answer : Result) (r : EndReason) (s : State) : State :=
  release p r (answerQuote p answer s)

/-! ### The end of a read (R79) -/

/-- A quote is accepted (R106): the answer, QUOTED and its quote-life timer. -/
def acceptQuote (p : Position) (r : QuoteResult) (s : State) : State :=
  let s1 := enqueue ⟨0, (sess p s).tag, 1, .ok, .quote r, none⟩ s
  enter p .quoted .priced
    (onSess p (fun x => { x with result := some r, stage := .none, quoteLife := some s.sales.timing.quoteLife }) s1)

/-- A block write takes over the read's reserved entry (R83). The table holds no card id twice (R88): none is sent while another
entry holds the card (log 77). -/
def blockCard (p : Position) (x : CardImage) (s : State) : State :=
  match (sess p s).entry with
  | some e =>
    if online (cardAddr p) s = true ∧ heldElsewhere e x.id s = false then
      append (some p) (.cardBlocked x.id x.balance true)
        (startWrite p e .block none { Delta.zero with block := true } 0 x s)
    else append (some p) (.cardBlocked x.id x.balance false) s
  | none => append (some p) (.cardBlocked x.id x.balance false) s

/-- Steps 2 to 6 of a read's completion (R79). -/
def completeRead (p : Position) (x : CardImage) (s : State) : State :=
  match (sess p s).req with
  | none => s
  | some q =>
    let s1 := onSess p (fun y => { y with cardWait := none, held := some x }) (setRead p .none s)
    if x.status = .blocked then endReading p .cardBlocked .refused s1
    else if denied s1.cards.deny x.id then endReading p .cardDenied .refused (blockCard p x s1)
    else match quoteCard s1.fare.live s1.fare.clock s1.cash.unit q x with
      | .error r => endReading p r .refused s1
      | .ok r => acceptQuote p r s1

/-- A resolved write's record (R95, R96). -/
def recordResolved (p : Position) (e : Fin 4) (o : Resolved) (x : CardImage) (owed : Nat) (s : State) : State :=
  append (some p) (.writeResolved x.id o (entry e s).delta.value x.balance owed) s

/-- A resolution whose write landed or was overtaken (R95, R97): the record, the entry, its owner; the read goes on. -/
def settleTorn (p : Position) (e : Fin 4) (landed : Bool) (x : CardImage) (s : State) : State :=
  let owner := ownerOf e s
  let ent := entry e s
  let s1 := settleEntry e (recordResolved p e (if landed then .landed else .foreign) x
    (if landed then 0 else ent.customer) s)
  let s2 := match owner with
    | some q => if landed then handedDone q x ent.excess s1 else handedForeign q s1
    | none => s1
  completeRead p x s2

/-- An image taken as read at position p (R79 step 1, R94). -/
def takeImage (p : Position) (x : CardImage) (s : State) : State :=
  match entryOf x.id s with
  | none => completeRead p x s
  | some e =>
    if (entry e s).state = .torn then
      (if x.counter = (entry e s).before + 1 then settleTorn p e true x s
       else if x.counter = (entry e s).before then startCompletion p e x s
       else settleTorn p e false x s)
    else setRead p (.awaiting x.id) s

/-! ### Results of writes (R91–R93, R96) -/

inductive WriteResult where
  | ok
  | failed (r : WriteFault)
  | torn
deriving DecidableEq, Repr

/-- The entry of a write whose outcome is unknown (R92). -/
def tearEntry (e : Fin 4) (s : State) : State := onEntry e (fun x => { x with state := .torn }) s

/-- The result of a sale's write (R91, R92). -/
def saleWritten (w : CardWrite) (r : WriteResult) (s : State) : State :=
  match ownerOf w.entry s, r with
  | some q, .ok => handedDone q w.image w.excess (settleEntry w.entry s)
  | some q, .failed f => handedNotDone q f (settleEntry w.entry s)
  | some q, .torn => handedTorn q (tearEntry w.entry s)
  | none, .torn => tearEntry w.entry s
  | none, .ok => settleEntry w.entry s
  | none, .failed _ => settleEntry w.entry s

/-- The result of a block write (R83, R91, R92). -/
def blockWritten (w : CardWrite) (r : WriteResult) (s : State) : State :=
  match r with
  | .ok => freeUp w.entry s
  | .failed _ => freeUp w.entry s
  | .torn => tearEntry w.entry s

/-- The result of a credit-back write (R93). What its write cut off at the ceiling is card owed (log 28), and the
balance after that the session's record carries is the one it left on the card (log 88). -/
def creditWritten (w : CardWrite) (r : WriteResult) (s : State) : State :=
  match ownerOf w.entry s, r with
  | some q, .ok =>
    wantEnd q (onSess q (fun x =>
      { x with creditedBack := priceOf x, held := some w.image, balanceAfter := some w.image.balance,
               cardOwed := x.cardOwed + w.excess, stage := .none }) (settleEntry w.entry s))
  | some q, .failed _ => notCredited q (settleEntry w.entry s)
  | some q, .torn =>
    notCredited q (onSess q (fun x => { x with entry := none })
      (onEntry w.entry (fun x => { x with state := .torn, owner := none }) s))
  | none, .torn => tearEntry w.entry s
  | none, .ok => settleEntry w.entry s
  | none, .failed _ => settleEntry w.entry s

/-- The result of a completion write made at p's module (R96, R97). -/
def completionWritten (p : Position) (w : CardWrite) (r : WriteResult) (s : State) : State :=
  let waits := decide (readOf p s = .resolving w.entry)
  match r with
  | .ok =>
    let owner := ownerOf w.entry s
    let s1 := settleEntry w.entry (recordResolved p w.entry .completed w.image w.excess s)
    let s2 := match owner with
      | some q => handedDone q w.image w.excess s1
      | none => s1
    if waits then completeRead p w.image s2 else s2
  | .failed _ => (if waits then setRead p .detecting (tearEntry w.entry s) else tearEntry w.entry s)
  | .torn => (if waits then setRead p .detecting (tearEntry w.entry s) else tearEntry w.entry s)

/-- The end of a write made at p's module; reads that waited on its card go on (R91–R96). -/
def writeEnded (p : Position) (w : CardWrite) (r : WriteResult) (s : State) : State :=
  wakeReads w.image.id
    (match w.purpose with
     | .sale => saleWritten w r s
     | .block => blockWritten w r s
     | .creditBack => creditWritten w r s
     | .completion => completionWritten p w r s)

/-- The answer to a credit-back's DETECT (R93): the card present, or none. -/
def creditDetected (p : Position) (found : Option CardId) (s : State) : State :=
  let x := sess p s
  if x.stage ≠ .creditDetect then s
  else match x.held, x.entry with
    | some img, some e =>
      if found ≠ some img.id ∨ heldElsewhere e img.id s = true ∨ online (cardAddr p) s = false then notCredited p s
      else
        startWrite p e .creditBack (some (p, x.serial)) { Delta.zero with value := (priceOf x : Int) } 0 img
          (onSess p (fun y => { y with stage := .creditWrite }) s)
    | _, _ => notCredited p s

/-! ### Coins routed and returned (R32–R36, R109, R122) -/

/-- The credit of a coin of the session in COLLECTING (R103, R109). -/
def creditCoin (p : Position) (v : Nat) (s : State) : State :=
  let s1 := onSess p (fun x => { x with credit := x.credit + v, inactivity := some s.sales.timing.inactivity }) s
  if (sess p s1).credit < (sess p s1).due then s1
  else
    let c := (sess p s1).credit - (sess p s1).due
    enterIssuing p .paidInFull (fixChange p c (onSess p (fun x => { x with change := c }) s1))

/-- The value of a late coin (R122). -/
def creditLate (p : Position) (v : Nat) (s : State) : State :=
  listMoved p (onSess p (fun x =>
    { x with credit := x.credit + v, further := if x.stage = .refundWait then x.further else x.further + v }) s)

/-- A COIN_ROUTED report (R32, R33), its part result and the rise of credit. -/
def coinRouted (p : Position) (seq : Byte) (c : Fin 8) (d : Dest) (s : State) : State × PartResult × Option Rise :=
  match findEntry p seq s with
  | none =>
    let v := (coinType c s).value
    (append (some p) (.unclaimedCoin c v d) (addCoinTotals c v (countCoin c v d s)), .unclaimed p, none)
  | some e =>
    let isCurrent := current p e s
    let collecting := decide ((sess p s).state = .collecting)
    let s1 := removeEntry p seq s
    let s2 := countCoin e.ctype e.value e.dest s1
    let s3 := match e.dest with
      | .tube t =>
        if isCurrent && tubeTakes t e.ctype s1 then (if collecting then coverCoin p t s2 else coverLate p t s2) else s2
      | .box => s2
    let s4 := addCoinTotals e.ctype e.value s3
    let rise : Rise := ⟨p, (sess p s).credit + e.value, (sess p s).due⟩
    if isCurrent then
      (if collecting then (creditCoin p e.value s4, .credited p, some rise)
       else (creditLate p e.value s4, .lateCoin p, some rise))
    else (append (some p) (.unclaimedCoin e.ctype e.value e.dest) s4, .unclaimed p, none)

/-- A COIN_RETURNED report (R34) and its part result. -/
def coinReturned (p : Position) (seq : Byte) (r : ReturnReason) (s : State) : State × PartResult :=
  let s1 := countReturn p r s
  match findEntry p seq s1 with
  | none => (s1, .unmatched)
  | some e => (listMoved p (dropEntry p e s1), .matched)

/-! ### Payout reports (R58–R60) -/

/-- A payout whose DISPENSE has ended goes on; the changer is free for the other position's command (R57, R58). -/
def payoutOn (p : Position) (s : State) : State := handDispense (continuePayout p s)

/-- A PAYOUT_DONE (R58) and its part result. -/
def payoutDone (t : Fin 6) (n : Nat) (s : State) : State × PartResult :=
  match matchDispense t s with
  | none => (raiseFault .changer .moduleError s, .unmatched)
  | some d =>
    if n < d.count then (payoutOn d.pos (jam d.pos t n s), .paid d.pos n)
    else
      let s1 := payCoins d.pos t d.count s
      let s2 := if d.count < n then raiseFault .changer .moduleError s1 else s1
      (payoutOn d.pos s2, .paid d.pos d.count)

/-- A PAYOUT_JAM (R59) and its part result; a number at or above the commanded count matches nothing (log 21). -/
def payoutJam (t : Fin 6) (k : Nat) (s : State) : State × PartResult :=
  match matchDispense t s with
  | none => (raiseFault .changer .moduleError s, .unmatched)
  | some d =>
    if d.count ≤ k then (raiseFault .changer .moduleError s, .unmatched)
    else (payoutOn d.pos (jam d.pos t k s), .paid d.pos k)

/-- The outstanding DISPENSE ends as a jam with k = 0 (R60, R177). -/
def dispenseJam (d : Dispense) (s : State) : State := payoutOn d.pos (jam d.pos d.tube 0 s)

/-- A position's payout in progress ends at once, its remainder owed (R57). -/
def cutOne (p : Position) (s : State) : State :=
  if (resv p s).paying then
    let r := cutPayout p s
    payoutEnded p r.2 r.1
  else s

/-- The changer becomes MISSING: every payout in progress ends, and every DISPENSE outstanding or waiting with it (R57,
R60). Position A's payout ends before position B's (log 84). -/
def cutPayouts (s : State) : State :=
  cutOne .B (cutOne .A (onChange (fun c =>
    { c with dispense := none, misses := 0, resv := c.resv.map (fun r => { r with waiting := none }) }) s))

end Sys2Proof.Machine
end

