-- ==== Sys2Proof/Machine/Arbiter.lean ====
section
/-! DEFINITION. The device link: the arbiter (R174), exchanges and their ends (R165, R166, R169), peripherals that become
MISSING (R169), poll and ANNOUNCE answers with their events (R168, R172, R175–R178), and the lend (R184–R187). -/

namespace Sys2Proof.Machine

/-! ### Ready frames (R174) -/

/-- A WRITE is outstanding at p's card module, the controller's or one forwarded during a lend (R90, R166, R185). -/
def writeHeld (p : Position) (s : State) : Bool := (s.link.writeOut.get p).isSome || (s.link.passWrite.get p).isSome

/-- A WRITE is outstanding at the card module of the address (R90). -/
def writeOutAt (a : Addr) (s : State) : Bool :=
  match cardPos a with
  | some p => writeHeld p s
  | none => false

/-- Some card module has a WRITE outstanding (R166). -/
def anyWriteOut (s : State) : Bool := writeHeld .A s || writeHeld .B s

/-- A frame may go now: its peripheral has no WRITE outstanding (R90), and during a lend only the frames of R185 go. -/
def mayGo (level : Nat) (f : LinkFrame) (s : State) : Bool :=
  !writeOutAt (frameAddr f) s && (!lent s || decide (level = 1) || decide (level = 6))

/-- The older of two ready frames; of the same moment the lower address (R174). -/
def older (x y : ReadyFrame) : ReadyFrame :=
  if y.age < x.age then y
  else if y.age = x.age ∧ (addrIndex (frameAddr y.frame)).val < (addrIndex (frameAddr x.frame)).val then y
  else x

/-- The oldest of the frames that may go. -/
def oldestReady (level : Nat) (s : State) : List ReadyFrame → Option ReadyFrame
  | [] => none
  | x :: xs =>
    match mayGo level x.frame s, oldestReady level s xs with
    | true, some y => some (older x y)
    | true, none => some x
    | false, r => r

/-- Level 1: VERDICT and INHIBIT. Of a VERDICT and an INHIBIT that became ready for one validator at one moment the VERDICT
goes first (log 69). -/
def level1 (s : State) : List ReadyFrame :=
  s.link.verdicts.map (fun v => ⟨v.age, .verdict v.pos v.seq v.verdict⟩) ++
  [Position.A, Position.B].filterMap (fun p => (s.link.inhibit.get p).map (fun m => ⟨m.1, .inhibit p m.2⟩))

/-- Level 2: the DISPENSE handed over (R57). -/
def level2 (s : State) : List ReadyFrame :=
  match s.change.dispense with
  | some d => if d.sent then [] else [⟨d.age, .dispense d.pos d.tube d.count⟩]
  | none => []

/-- Level 3: DETECT, READ and WRITE. -/
def level3 (s : State) : List ReadyFrame := s.link.cardReady.map (fun c => ⟨c.age, .card c.pos c.cmd⟩)

/-- Level 4: LINE and CUT. -/
def level4 (s : State) : List ReadyFrame :=
  match progress s with
  | some g => (match g.ready with
    | some age => [⟨age, printFrame g⟩]
    | none => [])
  | none => []

/-- The poll of a peripheral: a POLL when ONLINE, an ANNOUNCE otherwise, and after a lend of it (R171, R187). -/
def pollFrame (a : Addr) (s : State) : LinkFrame :=
  if online a s && !(periph a s).announceNext then .poll a (periph a s).lastReport else .announce a

/-- Level 5: polls that are due. -/
def level5 (s : State) : List ReadyFrame :=
  allAddrs.filterMap (fun a => (periph a s).pollDue.map (fun age => ⟨age, pollFrame a s⟩))

/-- Level 6: the pass-through frames, the oldest accepted first: the first that may go. -/
def level6 (s : State) : Option ReadyFrame :=
  (s.link.passQueue.find? (fun f => mayGo 6 (.pass f) s)).map (fun f => ⟨0, .pass f⟩)

/-- An unanswered exchange has brought a streak to its threshold, or the third unanswered poll is reached with a DISPENSE
outstanding: that event comes before the next choice (R60, R169; log 14). -/
def eventDue (s : State) : Bool :=
  allAddrs.any (fun a => online a s && (periph a s).missingDue) ||
  (online .changer s && decide (3 ≤ s.change.misses) &&
   (match s.change.dispense with
    | some d => d.sent
    | none => false))

/-- The frame the arbiter chooses (R174). -/
def choose (s : State) : Option ReadyFrame :=
  match oldestReady 1 s (level1 s) with
  | some r => some r
  | none =>
    match oldestReady 2 s (level2 s) with
    | some r => some r
    | none =>
      match oldestReady 3 s (level3 s) with
      | some r => some r
      | none =>
        match oldestReady 4 s (level4 s) with
        | some r => some r
        | none =>
          match oldestReady 5 s (level5 s) with
          | some r => some r
          | none => level6 s

/-! ### Sending -/

/-- A frame leaves the place where it was ready. -/
def unready (r : ReadyFrame) (s : State) : State :=
  match r.frame with
  | .poll a _ => onPeriph a (fun x => { x with pollDue := none }) s
  | .announce a => onPeriph a (fun x => { x with pollDue := none, announceNext := false }) s
  | .verdict p q v => onLink (fun l => { l with verdicts := l.verdicts.erase ⟨p, r.age, q, v⟩ }) s
  | .inhibit p m =>
    onLink (fun l => { l with inhibit := l.inhibit.set p none, inhibitKept := l.inhibitKept.set p (some (r.age, m)) }) s
  | .dispense _ _ _ =>
    onChange (fun c => { c with dispense := c.dispense.map (fun d => { d with sent := true, acked := false }),
                                misses := 0 }) s
  | .card p c => onLink (fun l => { l with cardReady := l.cardReady.erase ⟨p, r.age, c⟩ }) s
  | .line _ _ => onProgress (fun g => { g with ready := none }) s
  | .cut _ => onProgress (fun g => { g with ready := none, cutSent := true }) s
  | .pass f => onLink (fun l => { l with passQueue := l.passQueue.erase f }) s

def onCounters (a : Addr) (f : LinkCounters → LinkCounters) (s : State) : State :=
  onPeriph a (fun x => { x with counters := f x.counters }) s

/-- The frame about to be sent finds the line busy (R166): it goes back with its age, the deferral is counted, and with
no WRITE outstanding CONTENTION is raised. The controller reads the frame on the line. -/
def defer (r : ReadyFrame) (s : State) : State :=
  let a := frameAddr r.frame
  let s1 := onCounters a (fun c => { c with deferrals := bump16 c.deferrals }) s
  let s2 := if anyWriteOut s then s1 else raiseFault a .contention s1
  onLink (fun l => { l with line := .foreign }) s2

/-- A frame as it goes on the line: a pass-through frame sent during a lend is a frame of the lend, whenever it was accepted
(R169, R185). -/
def asSent (r : ReadyFrame) (s : State) : ReadyFrame :=
  match r.frame with
  | .pass f => { r with frame := .pass { f with unfiltered := f.unfiltered || lent s } }
  | _ => r

/-- The arbiter hands the idle line to the frame it chooses (R174); `busy` says that the controller finds a frame begun on
the line (R166). -/
def handOut (busy : Bool) (s : State) : State :=
  match s.link.line with
  | .idle =>
    if eventDue s then s
    else match choose s with
      | none => s
      | some r =>
        if busy then defer r s else onLink (fun l => { l with line := .sending (asSent r s) }) (unready r s)
  | .sending _ => s
  | .window _ => s
  | .foreign => s

/-- The arbiter chooses anew: reads in progress stand in for the due polls of their modules (R171), and the idle line is handed out
(R174). -/
def arbitrate (busy : Bool) (s : State) : State := handOut busy (standIn .B (standIn .A s))

/-- The end of a command that may have made frames ready or freed the line. -/
def settle (busy : Bool) (s : State) : State := finish (arbitrate busy s)

def freeLine (s : State) : State := onLink (fun l => { l with line := .idle }) s

/-! ### Ends of exchanges (R166, R169, R173) -/

/-- An answer is taken: the streak becomes 0 (R169, R173). -/
def answered (a : Addr) (s : State) : State :=
  onPeriph a (fun x => { x with streak := 0, counters := { x.counters with answers := bump16 x.counters.answers } }) s

/-- The frame is one of a lend, sent during it to the lent peripheral: its answers and unanswered exchanges change no count (R185). -/
def lendFrame (f : LinkFrame) : Bool :=
  match f with
  | .pass q => q.unfiltered
  | _ => false

/-- The answer of a frame is taken, where it counts (R169, R185). -/
def countAnswered (f : LinkFrame) (s : State) : State := if lendFrame f then s else answered (frameAddr f) s

/-- A PASS answer: the peripheral's reply, or the mark that no answer came (R180). -/
def passReply (f : QueuedPass) (r : Option DeviceReply) (s : State) : State := enqueue ⟨2, f.tag, 1, .ok, .reply r, none⟩ s

/-- The streak and the counter of an unanswered exchange (R169). Exchanges of a lend's frames are not counted (R185). -/
def countUnanswered (f : LinkFrame) (s : State) : State :=
  if lendFrame f then s
  else
    onPeriph (frameAddr f) (fun x =>
      let n := min 255 (x.streak + 1)
      { x with streak := n, counters := { x.counters with unanswered := bump16 x.counters.unanswered },
               missingDue := x.missingDue || (decide (x.state = .online) && decide (s.link.timing.missing ≤ n)) }) s

/-- What an unanswered exchange means for the block that owns its frame (R41, R60, R77, R93, R139, R175, R177, R180). -/
def settleUnanswered (r : ReadyFrame) (s : State) : State :=
  match r.frame with
  | .poll a _ =>
    if a = .changer ∧ (match s.change.dispense with
      | some d => d.sent
      | none => false) = true then onChange (fun c => { c with misses := c.misses + 1 }) s
    else s
  | .announce _ => s
  | .verdict _ _ _ => s
  | .inhibit p _ =>
    onLink (fun l => { l with inhibit := if online (valAddr p) s then l.inhibit.set p (l.inhibitKept.get p) else l.inhibit,
                              inhibitKept := l.inhibitKept.set p none }) s
  | .dispense _ _ _ => s
  | .card p (.detect n credit) =>
    if credit = true ∧ (sess p s).serial = n then creditDetected p none s else s
  | .card _ (.read _ _) => s
  | .card _ (.write _) => s
  | .line n _ => printAgain n r.age s
  | .cut n => printAgain n r.age s
  | .pass f => passReply f none s

/-- The exchange in progress ends unanswered, and the line is free (R169). -/
def unanswered (r : ReadyFrame) (s : State) : State := settleUnanswered r (countUnanswered r.frame (freeLine s))

/-- A frame discarded in the answer window (R165): a check error, an unanswered exchange, and MODULE_ERROR for a frame that
does not fit it. -/
def discardInWindow (r : ReadyFrame) (misfit : Bool) (s : State) : State :=
  let a := frameAddr r.frame
  let s1 := onCounters a (fun c => { c with checkErrors := bump16 c.checkErrors }) s
  unanswered r (if misfit then raiseFault a .moduleError s1 else s1)

/-- A frame from address a with an answer kind arrives: f takes it where it fits the exchange in progress; otherwise it
is discarded (R165, R166). A frame on an idle line, or while the controller sends, has no effect. -/
def receive (a : Addr) (kind : Nat) (busy : Bool) (f : ReadyFrame → State → State) (s : State) : State :=
  if running s = false then s
  else match s.link.line with
    | .window r =>
      if fits r.frame a kind then settle busy (masks none (f r (countAnswered r.frame (freeLine s))))
      else settle busy (masks none (discardInWindow r true s))
    | .foreign => settle busy (freeLine s)
    | .sending _ => s
    | .idle => s

/-- The answer to a forwarded frame: it goes to the sale processor (R180), and the status in an answer of the printer becomes its
last status, unless the frame is one of a lend (R138, R178, R185). -/
def passAnswered (q : QueuedPass) (reply : DeviceReply) (s : State) : State :=
  let s1 := passReply q (some reply) s
  match q.addr, q.unfiltered, replyStatus reply with
  | .printer, false, some st => handTickets (takeStatus st s1)
  | _, _, _ => s1

/-- A reply to a forwarded frame is handed on; the controller's own frames go to f. -/
def forwardOr (reply : DeviceReply) (f : ReadyFrame → State → State) (r : ReadyFrame) (s : State) : State :=
  match r.frame with
  | .pass q => passAnswered q reply s
  | _ => f r s

/-! ### A peripheral becomes MISSING (R169) -/

/-- The commands waiting for a card module are settled (R78, R91, R93, R96). -/
def cardMissing (p : Position) (s : State) : State :=
  let mine := s.link.cardReady.filter (fun c => decide (c.pos = p))
  let s1 := onLink (fun l => { l with cardReady := l.cardReady.filter (fun c => !decide (c.pos = p)) }) s
  let s2 := mine.foldl (fun s c =>
    match c.cmd with
    | .write w => writeEnded p w (.failed .error) s
    | .detect n credit => if credit = true ∧ (sess p s).serial = n then creditDetected p none s else s
    | .read _ _ => s) s1
  if (sess p s2).state = .reading then endReading p .noCard .noCard s2 else s2

/-- What waited for a peripheral is settled by its owner (R169). -/
def settleMissing (a : Addr) (s : State) : State :=
  let dropMask (p : Position) (s : State) : State :=
    onLink (fun l => { l with verdicts := l.verdicts.filter (fun v => !decide (v.pos = p)),
                              inhibit := l.inhibit.set p none, inhibitKept := l.inhibitKept.set p none,
                              acked := l.acked.set p none }) s
  match a with
  | .valA => dropMask .A s
  | .valB => dropMask .B s
  | .cardA => cardMissing .A s
  | .cardB => cardMissing .B s
  | .changer => cutPayouts s
  | .printer => handTickets (failAll s)

/-- Pass-through frames that satisfy a condition are removed and answered with a result (R169, R184, R187). -/
def removePass (cond : QueuedPass → Bool) (r : Result) (s : State) : State :=
  let gone := s.link.passQueue.filter cond
  let s1 := onLink (fun l => { l with passQueue := l.passQueue.filter (fun f => !cond f) }) s
  gone.foldl (fun s f => enqueue ⟨2, f.tag, 1, r, .empty, none⟩ s) s1

/-- The peripheral becomes MISSING (R169): the DEVICE_FAULT is queued before what the settling queues (log 91). -/
def becomeMissing (a : Addr) (s : State) : State :=
  let s1 := raiseFault a .missing (onPeriph a (fun x => { x with state := .missing, missingDue := false }) s)
  removePass (fun f => decide (f.addr = a)) .peripheralMissing (settleMissing a s1)

/-! ### Events of poll answers (R172, R175–R178, R181) -/

/-- One event of a validator. Its DEVICE_EVENT is queued after what its handling queues (log 91). The masks are recomputed at its
end. -/
def validatorEvent (p : Position) (s : State) (e : ValidatorEvent) : State :=
  let a := valAddr p
  match e with
  | .coinAtGate q r =>
    let o := coinAtGate p q r s
    masks none (sortEvent a 1 (.validator e) o.2 o.1)
  | .coinRouted q c d =>
    let o := coinRouted p q c d s
    masks o.2.2 (sortEvent a 2 (.validator e) o.2.1 o.1)
  | .coinReturned q r =>
    let o := coinReturned p q r s
    masks none (sortEvent a 3 (.validator e) o.2 o.1)
  | .returnLever =>
    if (sess p s).state = .collecting then
      masks none (sortEvent a 4 (.validator e) .cancelTaken (cancelCollecting p .lever s))
    else sortEvent a 4 (.validator e) .notUsed s
  | .unknown c _ => sortEvent a c (.validator e) .notUsed s

def moduleEvent (p : Position) (s : State) (e : ModuleEvent) : State :=
  let a := cardAddr p
  match e with
  | .fieldFault => sortEvent a 1 (.cardModule e) .moduleError (raiseFault a .moduleError s)
  | .unknown c _ => sortEvent a c (.cardModule e) .notUsed s

/-- One event of the changer. The masks are recomputed at its end (R39), at a GAUGE reading that moves only the estimate of a tube
in DOUBT too, which R39 does not name (log 82). -/
def changerEvent (s : State) (e : ChangerEvent) : State :=
  let sort (r : State × PartResult) : State :=
    masks none (sortEvent .changer (changerCode e) (.changer e) r.2 r.1)
  match e with
  | .payoutDone t n => sort (payoutDone t n s)
  | .payoutJam t k => sort (payoutJam t k s)
  | .gauge t g parity => sort (gauge t g parity s)
  | .boxState present => sort (boxState present s)
  | .unknown c _ => sortEvent .changer c (.changer e) .notUsed s

/-- One event of the printer: a CUT_DONE that ends a job is reported as its PRINT_DONE (R181). -/
def printerEvent (s : State) (e : PrinterEvent) : State :=
  match e with
  | .cutDone =>
    match cutDone s with
    | some r => masks none (tryBegin (handTickets r))
    | none => sortEvent .printer 1 (.printer e) .unmatched (raiseFault .printer .moduleError s)
  | .unknown c _ => sortEvent .printer c (.printer e) .notUsed s

/-- What the changer's busy state says of the DISPENSE (R177), after the events of a new answer: a busy changer leaves it
outstanding (log 22). -/
def changerBusy (busy : Option (Fin 6)) (s : State) : State :=
  match s.change.dispense with
  | none => s
  | some d =>
    if d.sent = false then s
    else match busy with
      | some _ => s
      | none =>
        if d.acked then masks none (dispenseJam d (raiseFault .changer .moduleError s))
        else onChange (fun c => { c with dispense := some { d with sent := false } }) s

/-- The events of a new poll answer, oldest first (R172). -/
def handEvents (body : PollBody) (s : State) : State :=
  match body with
  | .validator p es => es.foldl (validatorEvent p) s
  | .cardModule p _ es => es.foldl (moduleEvent p) s
  | .changer busy es => changerBusy busy (es.foldl changerEvent s)
  | .printer _ es => es.foldl printerEvent s

/-- The status a poll answer carries (R176, R178). -/
def pollStatus (body : PollBody) (s : State) : State :=
  match body with
  | .validator _ _ => s
  | .cardModule p fault _ => if fault then raiseFault (cardAddr p) .moduleError s else s
  | .changer _ _ => s
  | .printer st _ => masks none (handTickets (takeStatus st s))

/-- A poll answer is taken (R172): a repeat, whose events are discarded, or new. -/
def takePoll (report : Byte) (body : PollBody) (s : State) : State :=
  let a := bodyAddr body
  let s1 := if a = .changer then onChange (fun c => { c with misses := 0 }) s else s
  if (periph a s1).lastReport = some report then
    pollStatus body (onCounters a (fun c => { c with repeats := bump16 c.repeats }) s1)
  else
    pollStatus body (handEvents body (onPeriph a (fun x => { x with lastReport := some report }) s1))

/-! ### ANNOUNCE answers (R168) -/

/-- The contents of an ANNOUNCE answer handed on, then the event ANNOUNCED. -/
def handAnnounce (a : Addr) (k : Announced) (rev : Byte) (s : State) : State :=
  let s1 := match k with
    | .changer present => masks none (boxState present s).1
    | .printer st => masks none (handTickets (takeStatus st s))
    | .validator =>
      (match a with
       | .valA => sendMask .A (effectiveMask .A s) s
       | .valB => sendMask .B (effectiveMask .B s) s
       | _ => s)
    | .cardModule => s
    | .unknown _ => s
  sortEvent a 0 (.announced (addrKind a) rev) (.announced (addrKind a) rev) s1

/-- An ANNOUNCE answer (R168): taken when it gives the kind of the address, otherwise unanswered with MODULE_ERROR. The
exchange has been counted as answered by the caller only for an answer that is taken. -/
def announceTaken (a : Addr) (k : Announced) (rev : Byte) (s : State) : State :=
  handAnnounce a k rev
    (onPeriph a (fun x => { x with state := .online, revision := some rev, streak := 0, lastReport := none,
                                   missingDue := false }) s)

/-! ### The lend (R184–R187) -/

/-- A sale, block, credit-back or completion WRITE is waiting or outstanding at a card module (R184). -/
def writePending (s : State) : Bool :=
  (s.link.writeOut.get .A).isSome || (s.link.writeOut.get .B).isSome || s.link.cardReady.any (fun c => match c.cmd with
    | .write _ => true
    | _ => false) ||
  (match s.link.line with
   | .sending ⟨_, .card _ (.write _)⟩ => true
   | _ => false)

/-- A DISPENSE is waiting or outstanding (R184). -/
def dispensePending (s : State) : Bool :=
  s.change.dispense.isSome || (resv .A s).waiting.isSome || (resv .B s).waiting.isSome

/-- The checks of LEND_LINK (R184), and the address it grants. -/
def lendCheck (addr limit : Nat) (s : State) : Except Result Addr :=
  match addrOf addr with
  | none => .error .range
  | some a =>
    if limit < 10 ∨ 900 < limit then .error .range
    else if lent s then .error .state
    else if online a s = false then .error .peripheralMissing
    else if bothIdle s = false ∨ dispensePending s = true ∨ writePending s = true ∨ (lane .A s).list ≠ [] ∨
        (lane .B s).list ≠ [] then .error .busy
    else .ok a

/-- A lend is granted in one step (R184). -/
def grantLend (a : Addr) (limit : Nat) (s : State) : State :=
  removePass (fun f => !decide (f.addr = a)) .linkLent
    (resendMasks (holdPrint (onLink (fun l => { l with lend := some ⟨a, limit, .lent⟩ }) s)))

/-- A lend in phase LENT is reclaimed (R186). -/
def reclaim (c : ReclaimCause) (s : State) : State :=
  match s.link.lend with
  | some d =>
    (match d.phase with
     | .lent =>
       notify 1 (.linkReclaim d.addr c false)
         (onLink (fun l => { l with lend := some { d with phase := .reclaiming c } }) s)
     | .reclaiming _ => s)
  | none => s

/-- A peripheral's poll falls due at a moment; one that is due and not yet sent is not made due a second time (R171). -/
def fallDue (moment : Nat) (x : Peripheral) : Peripheral := { x with pollDue := some (x.pollDue.getD moment) }

/-- Every poll falls due at once, and one that was due when the lend began keeps its age (log 94); the lent peripheral's first is an
ANNOUNCE (R187). -/
def allPollsDue (lentAddr : Addr) (s : State) : State :=
  onLink (fun l => { l with periph := vmap (fallDue s.port.moment) l.periph })
    (onPeriph lentAddr (fun x => { x with announceNext := true }) s)

/-- The end of a lend (R187). -/
def endLend (d : Lend) (s : State) : State :=
  let s1 := removePass (fun f => f.unfiltered) .tooLate (onLink (fun l => { l with lend := none }) s)
  resendMasks (handTickets (resumePrint (decide (d.addr = .printer)) (allPollsDue d.addr s1)))

end Sys2Proof.Machine
end

