-- ==== Sys2Proof/Machine/Start.lean ====
section
/-! DEFINITION. Starts: the INTERRUPTED records (R130), the warm restart (R161), the cold start (R162) and the choice at
power-up (R160). After a start the six polls are due at once and the arbiter gives the idle line to the first (R167,
R171, R174), and the sale link port its free line (R192). -/

namespace Sys2Proof.Machine

/-! ### INTERRUPTED records (R130) -/

/-- A session that had taken money, or was on its way to its end (R130). -/
def hadMoney (x : Session) : Bool :=
  match x.state with
  | .idle => false
  | .reading => false
  | .quoted => false
  | .collecting => true
  | .issuing => true
  | .payingOut => true
  | .refunding => true

/-- The debited amount at a restart (R130): the price where the debit write had been sent and not answered WRITE_FAILED. A
WRITE handed to the device link counts as sent (log 29). -/
def debitedAtRestart (x : Session) : Nat :=
  match x.write with
  | .done => priceOf x
  | .foreign => priceOf x
  | .torn => priceOf x
  | .notDone _ => 0
  | .none => if x.stage = .cardWrite then priceOf x else 0

/-- The price kept counts only where issuing had succeeded (R130). -/
def keptAtRestart (x : Session) : Nat := if x.issued then x.priceKept else 0

/-- The unpaid balance with what was already owed (R130). -/
def owedAtRestart (x : Session) : Nat :=
  (if payOf x = .coins then x.credit - keptAtRestart x - x.changePaid - x.refundPaid
   else debitedAtRestart x - keptAtRestart x - x.creditedBack) + x.owed + x.cardOwed

def interruptedRec (x : Session) : InterruptedRec :=
  { product := match x.result with
      | some r => r.product
      | none => 0
    payment := payOf x
    due := x.due
    price := priceOf x
    free := isFree x
    issued := x.issued
    write := x.write
    topUp := match cardQuoteOf x with
      | some c => c.topUp
      | none => none
    credit := x.credit
    changePaid := x.changePaid
    refundPaid := x.refundPaid
    debited := if payOf x = .storedValue then debitedAtRestart x else 0
    creditedBack := x.creditedBack
    card := x.held.map (·.id)
    payouts := x.payouts
    owed := owedAtRestart x }

/-- The rise of an INTERRUPTED record (R156). -/
def interruptedRise (x : Session) : TotalRise :=
  { change := x.changePaid
    refund := x.refundPaid
    owed := owedAtRestart x
    loaded := if x.write = .done then x.loaded else 0
    debited := if payOf x = .storedValue then debitedAtRestart x - x.creditedBack else 0
    sold := if x.issued then x.result.map (·.product) else none
    free := isFree x
    unresolved := false }

def interrupt (p : Position) (s : State) : State :=
  if hadMoney (sess p s) then
    append (some p) (.interrupted (interruptedRec (sess p s))) (addTotals (interruptedRise (sess p s)) s)
  else s

/-! ### Step 2: print jobs still in the queue (R134, R161) -/

def noteSlot (s : State) (x : Slot) : State :=
  match x with
  | .waiting j => noteJob j s
  | .active j _ => noteJob j s
  | .free => s
  | .reserved _ => s

def noteQueue (s : State) : State := s.print.slots.toList.foldl noteSlot s

/-! ### Step 3 and 4 -/

/-- A pending-write entry at a warm restart (R88). -/
def restartEntry (x : PendingEntry) : PendingEntry :=
  match x.state with
  | .free => PendingEntry.free
  | .reserved => PendingEntry.free
  | .writing => { x with state := .torn, owner := none }
  | .torn => { x with owner := none }
  | .resolving => { x with state := .torn, owner := none }

/-- Every state outside the retained store at its value after a start (R159, R161 step 4), and the mode by the door line
(R161 step 5). -/
def clearUnretained (s : State) : State :=
  { s with
    power := true
    coins := Pair.both Lane.start
    change := { s.change with resv := Pair.both Reserve.start, dispense := none, misses := 0, parityErrors := 0 }
    cards := { s.cards with reads := Pair.both .none }
    sales := Sales.start
    print := PrintUnit.start
    link := Link.start
    port := Port.start s.doorLine }

/-- A warm restart (R161). -/
def warmStart (cause : StartCause) (powered busy : Bool) (s : State) : State :=
  let s1 := interrupt .B (interrupt .A s)
  let s2 := if powered then noteQueue s1 else s1
  let s3 := onCards (fun c => { c with entries := vmap restartEntry c.entries }) s2
  let s4 := onJournal (fun j => { j with lastStart := ⟨false, cause⟩ }) (clearUnretained s3)
  settle busy s4

/-- A cold start (R162). -/
def coldStart (cause : StartCause) (busy : Bool) (s : State) : State :=
  settle busy
    (clearUnretained { s with fare := Fare.cold, cash := Cash.cold, change := ChangeStore.cold, cards := Cards.cold,
                              journal := Journal.cold cause })

/-- The start a request asked for (R163, R164). -/
def requestedStart (cause : StartCause) (busy : Bool) (s : State) : State :=
  match cause with
  | .factoryClear => coldStart .factoryClear busy s
  | c => warmStart c true busy s

/-- The start at power-up (R160). -/
def powerUpStart (backupLost markerHolds busy : Bool) (s : State) : State :=
  if backupLost then coldStart .backupLost busy s
  else if s.journal.marker && markerHolds then warmStart .powerUp false busy s
  else coldStart .markerLost busy s

end Sys2Proof.Machine
end

