-- ==== Sys2Proof/Machine/Requests.lean ====
section
/-! DEFINITION. How a request is taken from the receive buffer (R189, R190), and the meanings of the sale requests QUOTE,
PAY, CANCEL and TOUCH (R104–R111). -/

namespace Sys2Proof.Machine

/-- The outcome of a command. -/
abbrev Out := Host.Outcome State Fault Refusal

/-! ### Taking a request (R189, R190; log 5) -/

/-- The frame at the head of the receive buffer is the request's: its channel, tag and kind, and a body that spells it (R190).
A request whose frame the queue of commands alone stands for finds an empty buffer. -/
def headIs (c : Instr) (rx : List RxFrame) : Bool :=
  match requestHead c, rx with
  | none, _ => false
  | some _, [] => true
  | some (channel, tag, kind), f :: _ =>
    decide (f.channel = channel) && decide (f.tag = tag) && decide (f.kind = kind) && spells f c

/-- A request can be taken (R189, R192, R164). -/
def takes (c : Instr) (s : State) : Bool :=
  running s && s.port.startReq.isNone && decide (s.port.answers.length < Config.answerCapacity) && headIs c s.port.rx

/-- The frame leaves the buffer and is counted (R189). -/
def takeFrame (s : State) : State :=
  onPort (fun t => { t with rx := t.rx.drop 1, counters := { t.counters with taken := t.counters.taken + 1 } }) s

/-- A request taken, its effect, and the transmit line; a request that cannot be taken changes nothing. -/
def request (c : Instr) (f : State → State) (s : State) : Out :=
  if takes c s then .next (finish (f (takeFrame s))) else .next s

/-- The answer of a SALE request. -/
def saleAnswer (tag kind : Byte) (r : Result) (s : State) : State := answerNow 0 tag kind r .empty s

/-! ### QUOTE (R104, R105) -/

/-- The session controller's own checks (R104). -/
def quoteRefusal (p : Position) (q : QuoteReq) (s : State) : Option Result :=
  if (sess p s).state ≠ .idle then some .state
  else if s.port.mode ≠ .inService then some .outOfService
  else if lent s then some .linkLent
  else if Config.journalGate ≤ s.journal.records.length then some .journalFull
  else if q.payment = .coins ∧ online (valAddr p) s = false then some .noCoins
  else if q.medium = .paper ∧ printerDown s = true then some .printerUnavailable
  else none

/-- The record of a session that begins. -/
def newSession (p : Position) (tag : Byte) (q : QuoteReq) (s : State) : State :=
  onSess p (fun x => { Session.idle (x.serial + 1) with tag := tag, req := some q }) s

/-- A quote's read begins (R76, R105). -/
def startReading (p : Position) (tag : Byte) (q : QuoteReq) (e : Fin 4) (busy : Bool) (s : State) : State :=
  let s1 := newSession p tag q s
  let n := (sess p s1).serial
  let s2 := onSess p (fun x => { x with entry := some e, cardWait := some s.sales.timing.cardWait })
    (onEntry e (fun _ => reservedFor (p, n)) s1)
  arbitrate busy (beginRead p n (enter p .reading .quote s2))

/-- A QUOTE for a position (R104, R105, R76). -/
def quoteTaken (p : Position) (tag : Byte) (q : QuoteReq) (busy : Bool) (s : State) : State :=
  match quoteRefusal p q s with
  | some r => saleAnswer tag 1 r s
  | none =>
    if readsCard q then
      match stage1 s.fare.live s.fare.clock q with
      | some r => saleAnswer tag 1 r s
      | none =>
        match freeEntry s with
        | none => saleAnswer tag 1 .cardWritesBlocked s
        | some e => if online (cardAddr p) s then startReading p tag q e busy s else saleAnswer tag 1 .noCard s
    else
      match quotePlain s.fare.live s.fare.clock s.cash.unit q with
      | .error r => saleAnswer tag 1 r s
      | .ok r => acceptQuote p r (newSession p tag q s)

def execQuote (tag : Byte) (pos : Option Position) (q : QuoteReq) (s : State) (busy : Bool := false) : Out :=
  request (.quote tag pos q busy) (fun s =>
    match pos with
    | none => saleAnswer tag 1 .range s
    | some p => quoteTaken p tag q busy s) s

/-! ### PAY (R107, R108) -/

def payRefusal (p : Position) (pay : Payment) (s : State) : Option Result :=
  let x := sess p s
  let named := match x.req with
    | some q => q.payment
    | none => .coins
  if x.state ≠ .quoted then some .state
  else if s.port.mode ≠ .inService then some .outOfService
  else if pay = .storedValue ∧ named = .coins then some .state
  else if pay = .coins ∧ 0 < priceOf x ∧ online (valAddr p) s = false then some .noCoins
  else if mediumOf x = .paper ∧ (printerDown s = true ∨ freeSlots s = []) then some .printerUnavailable
  else none

/-- The slot reserved for a PAPER sale's ticket (R108, R135). -/
def reserveSlot (p : Position) (s : State) : State :=
  if mediumOf (sess p s) = .card then s
  else match freeSlots s with
    | [] => s
    | i :: _ => onSess p (fun x => { x with slot := some i }) (setSlot i (.reserved p) s)

/-- A PAY that is taken (R108). -/
def payTaken (p : Position) (pay : Payment) (s : State) : State :=
  let s1 := reserveSlot p (onSess p (fun x => { x with quoteLife := none, payment := some pay, due := 0 }) s)
  if isFree (sess p s1) ∨ pay = .storedValue then enterIssuing p .pay s1
  else
    enter p .collecting .pay
      (startCover p (onSess p (fun x =>
        { x with due := cashDue x, credit := 0, inactivity := some s.sales.timing.inactivity }) s1))

def execPay (tag : Byte) (pos : Option Position) (pay : Payment) (s : State) (busy : Bool := false) : Out :=
  request (.pay tag pos pay busy) (fun s =>
    match pos with
    | none => saleAnswer tag 2 .range s
    | some p =>
      match payRefusal p pay s with
      | some r => saleAnswer tag 2 r s
      | none => arbitrate busy (masks none (payTaken p pay (saleAnswer tag 2 .ok s)))) s

/-! ### CANCEL (R110) -/

/-- A CANCEL for a position: the answer, then the effect by state (R110). -/
def cancelTaken (p : Position) (tag : Byte) (busy : Bool) (s : State) : State :=
  let ok := saleAnswer tag 3 .ok s
  match (sess p s).state with
  | .idle => saleAnswer tag 3 .state s
  | .reading => arbitrate busy (masks none (endReading p .state .cancelled ok))
  | .quoted => arbitrate busy (masks none (release p .cancelled ok))
  | .collecting => arbitrate busy (masks none (cancelCollecting p .cancelled ok))
  | .issuing => saleAnswer tag 3 .tooLate s
  | .payingOut => saleAnswer tag 3 .tooLate s
  | .refunding => saleAnswer tag 3 .tooLate s

def execCancel (tag : Byte) (pos : Option Position) (s : State) (busy : Bool := false) : Out :=
  request (.cancel tag pos busy) (fun s =>
    match pos with
    | none => saleAnswer tag 3 .range s
    | some p => cancelTaken p tag busy s) s

/-! ### TOUCH (R111) -/

def touchTaken (p : Position) (tag : Byte) (s : State) : State :=
  match (sess p s).state with
  | .quoted =>
    saleAnswer tag 4 .ok (onSess p (fun x => { x with quoteLife := some s.sales.timing.quoteLife }) s)
  | .collecting =>
    saleAnswer tag 4 .ok (onSess p (fun x => { x with inactivity := some s.sales.timing.inactivity }) s)
  | .idle => saleAnswer tag 4 .state s
  | .reading => saleAnswer tag 4 .state s
  | .issuing => saleAnswer tag 4 .state s
  | .payingOut => saleAnswer tag 4 .state s
  | .refunding => saleAnswer tag 4 .state s

def execTouch (tag : Byte) (pos : Option Position) (s : State) : Out :=
  request (.touch tag pos) (fun s =>
    match pos with
    | none => saleAnswer tag 4 .range s
    | some p => touchTaken p tag s) s

end Sys2Proof.Machine
end

