-- ==== Sys2Proof/Machine/Banks.lean ====
section
/-! DEFINITION. The meanings of the requests over the fare banks and the cash tables: LOAD_TABLE to CASH_CONFIG (R199–R204,
R207), and the service requests TUBE_ADJUST and TUBE_CLEAR (R68, R69). -/

namespace Sys2Proof.Machine

def mgmt (tag kind : Byte) (r : Result) (b : AnswerBody) (s : State) : State := answerNow 1 tag kind r b s

def requested (s : State) : Option (Nat × Nat) := s.fare.act.map (fun a => (a.day, a.minute))

/-! ### Loading and reading (R199–R201) -/

def execLoadTable (tag : Byte) (table index : Nat) (body : List Byte) (s : State) : Out :=
  request (.loadTable tag table index body) (fun s =>
    if s.fare.act.isSome then mgmt tag 1 .activationPending .empty s
    else match loadInto table index body s.fare.staged with
      | .error r => mgmt tag 1 r .empty s
      | .ok b => mgmt tag 1 .ok (.check (bankCheck b)) (onFare (fun f => { f with staged := b }) s)) s

def execClearStaged (tag : Byte) (s : State) : Out :=
  request (.clearStaged tag) (fun s =>
    if s.fare.act.isSome then mgmt tag 2 .activationPending .empty s
    else mgmt tag 2 .ok (.check (bankCheck clearedBank)) (onFare (fun f => { f with staged := clearedBank }) s)) s

def execStagedCheck (tag : Byte) (s : State) : Out :=
  request (.stagedCheck tag) (fun s => mgmt tag 3 .ok (.staged (bankCheck s.fare.staged) (requested s)) s) s

/-- The cash tables as CASH_CONFIG carries them (R200, R207). -/
def cashTables (s : State) : CashTables :=
  { types := s.cash.types
    tubes := vmap (fun x => { ctype := x.ctype, capacity := x.capacity, perStep := x.perStep, tolerance := x.tolerance })
      s.change.tubes
    unit := s.cash.unit
    limit := s.cash.limit }

/-- The contents READ_TABLE returns; none is RANGE (R200). The cash tables have code 10 and index 0. -/
def readTableBytes (src : TableSource) (table index : Nat) (s : State) : Option (List Byte) :=
  match src with
  | .live => tableBytes s.fare.live table index
  | .staged => tableBytes s.fare.staged table index
  | .cash => if table = 10 ∧ index = 0 then some (cashBytes (cashTables s)) else none

def execReadTable (tag : Byte) (src : TableSource) (table index : Nat) (s : State) : Out :=
  request (.readTable tag src table index) (fun s =>
    match readTableBytes src table index s with
    | none => mgmt tag 4 .range .empty s
    | some bs => mgmt tag 4 .ok (.table bs) s) s

/-! ### Activation (R202–R204) -/

/-- Checks 1 and 2 of R202. -/
def activateTime (time : ActTime) (s : State) : Option Result :=
  match time with
  | .now => none
  | .day _ m => if 1439 < m then some .range else if s.fare.clock.valid = false then some .timeNotSet else none

/-- An ACTIVATE that passes its checks (R202): a swap at once, or a pending activation. -/
def activateTaken (tag : Byte) (check : BitVec 16) (time : ActTime) (s : State) : State :=
  match time with
  | .now => mgmt tag 5 .ok (.swapped false) (swap .now false s)
  | .day d m =>
    let c := s.fare.clock
    if dayMinute d m ≤ dayMinute c.day c.minute then
      mgmt tag 5 .ok (.swapped (decide (dayMinute d m < dayMinute c.day c.minute)))
        (swap (.day d m) (decide (dayMinute d m < dayMinute c.day c.minute)) s)
    else mgmt tag 5 .ok .scheduled (onFare (fun f => { f with act := some ⟨d, m, check⟩ }) s)

def execActivate (tag : Byte) (check : BitVec 16) (time : ActTime) (s : State) : Out :=
  request (.activate tag check time) (fun s =>
    match activateTime time s with
    | some r => mgmt tag 5 r .empty s
    | none =>
      if bankCheck s.fare.staged ≠ check then
        mgmt tag 5 .checkMismatch (.check (bankCheck s.fare.staged)) s
      else match consistency s.fare.staged s.cash.unit with
        | some (n, t) => mgmt tag 5 .badTable (.badTable n t) s
        | none => activateTaken tag check time s) s

def execCancelActivation (tag : Byte) (s : State) : Out :=
  request (.cancelActivation tag) (fun s =>
    if s.fare.act.isNone then mgmt tag 6 .state .empty s
    else mgmt tag 6 .ok .empty (onFare (fun f => { f with act := none }) s)) s

/-! ### CASH_CONFIG (R207) -/

/-- Check 4 on one tube: a tube that holds coins keeps its type, and the value of its type (R207). -/
def tubeKeeps (types : Vector CoinType 8) (g : TubeConfig) (x : Tube) (s : State) : Bool :=
  decide (x.count = 0) ||
  (decide (g.ctype = x.ctype) &&
   (match x.ctype with
    | some c => decide ((vget types c).value = (coinType c s).value)
    | none => true))

/-- Checks 1 to 5 of R207 on the bytes of a CASH_CONFIG. -/
def cashRefusal (body : List Byte) (s : State) : Option Result :=
  let t := cashOf body
  if s.port.mode ≠ .serviceOpen then some .protectedReq
  else if cashInRange body = false then some .range
  else if s.fare.live.params.topStep % t.unit ≠ 0 ∨
      (s.fare.act.isSome = true ∧ s.fare.staged.params.topStep % t.unit ≠ 0) then some .tableConflict
  else if sixes.all (fun i => tubeKeeps t.types (vget t.tubes i) (tube i s) s) = false then some .state
  else if sixes.any (fun i => decide ((vget t.tubes i).capacity < (tube i s).count)) then some .range
  else none

/-- The cash tables replaced in one step (R23, R70, R207). -/
def applyCash (t : CashTables) (s : State) : State :=
  onChange (fun c => { c with tubes := vtab (fun i => configTube t.types (vget t.tubes i) (vget c.tubes i)) })
    (onCash (fun _ => { types := t.types, unit := t.unit, limit := t.limit }) s)

def execCashConfig (tag : Byte) (body : List Byte) (s : State) (busy : Bool := false) : Out :=
  request (.cashConfig tag body busy) (fun s =>
    if body.length ≠ 163 then mgmt tag 7 .badLength .empty s
    else match cashRefusal body s with
      | some r => mgmt tag 7 r .empty s
      | none => arbitrate busy (masks none (mgmt tag 7 .ok .empty (applyCash (cashOf body) s)))) s

/-! ### Tubes (R68, R69) -/

/-- The checks of TUBE_ADJUST (R68). -/
def adjustRefusal (t : Option (Fin 6)) (n : Int) (s : State) : Except Result (Fin 6) :=
  if s.port.mode ≠ .serviceOpen then .error .protectedReq
  else match t with
    | none => .error .range
    | some i =>
      if n < -250 ∨ 250 < n ∨ n = 0 then .error .range
      else if (tube i s).state = .disabled then .error .state
      else if (tube i s).count + n < 0 ∨ ((tube i s).capacity : Int) < (tube i s).count + n then .error .range
      else if n < 0 ∧ (tube i s).count + n < ((vget (resv .A s).reserved i + vget (resv .B s).reserved i : Nat) : Int) then
        .error .busy
      else .ok i

/-- A tube adjusted (R68). -/
def adjustTube (n : Int) (x : Tube) : Tube :=
  { x with
    count := (x.count + n).toNat
    doubt := 0
    clear := 0
    added := if 0 < n then add32 x.added n.toNat else x.added
    removed := if n < 0 then add32 x.removed (-n).toNat else x.removed }

def execTubeAdjust (tag : Byte) (t : Nat) (n : Int) (s : State) (busy : Bool := false) : Out :=
  request (.tubeAdjust tag t n busy) (fun s =>
    match adjustRefusal (toFin? 6 t) n s with
    | .error r => mgmt tag 8 r .empty s
    | .ok i =>
      let s1 := onTube i (adjustTube n) s
      let s2 := append none (.tubeAdjust i n (tube i s1).count) s1
      arbitrate busy (masks none (mgmt tag 8 .ok (.count (tube i s1).count) s2))) s

def execTubeClear (tag : Byte) (t : Nat) (s : State) (busy : Bool := false) : Out :=
  request (.tubeClear tag t busy) (fun s =>
    if s.port.mode ≠ .serviceOpen then mgmt tag 9 .protectedReq .empty s
    else match toFin? 6 t with
      | none => mgmt tag 9 .range .empty s
      | some i =>
        if (tube i s).state ≠ .jammed then mgmt tag 9 .state .empty s
        else arbitrate busy (masks none (mgmt tag 9 .ok .empty
          (onTube i (fun x => { x with state := .active, doubt := 0, clear := 0 }) s)))) s

end Sys2Proof.Machine
end

