-- ==== Sys2Proof/Machine/Records.lean ====
section
/-! DEFINITION. The meanings of the requests over the deny list (R81, R82), the journal (R152, R153), the totals (R157,
R158) and the sticky faults (R183). -/

namespace Sys2Proof.Machine

/-! ### The deny list (R81, R82) -/

def setDeny (xs : List CardId) (s : State) : State := onCards (fun c => { c with deny := xs }) s

/-- The answer of a deny list request: the number of ids the list then holds. -/
def denyAnswer (tag kind : Byte) (unchanged : Bool) (s : State) : State :=
  mgmt tag kind .ok (.deny s.cards.deny.length unchanged) s

def execDenyAdd (tag : Byte) (card : CardId) (s : State) : Out :=
  request (.denyAdd tag card) (fun s =>
    if denied s.cards.deny card then denyAnswer tag 10 true s
    else if Config.denyCapacity ≤ s.cards.deny.length then mgmt tag 10 .tableFull (.count s.cards.deny.length) s
    else denyAnswer tag 10 false (setDeny (insertId card s.cards.deny) s)) s

def execDenyRemove (tag : Byte) (card : CardId) (s : State) : Out :=
  request (.denyRemove tag card) (fun s =>
    if denied s.cards.deny card then denyAnswer tag 11 false (setDeny (s.cards.deny.filter (fun x => x ≠ card)) s)
    else denyAnswer tag 11 true s) s

/-- The checks of DENY_LOAD (R82). A chunk of no ids, or of more than 146, has a bad length (log 42). -/
def denyLoadRefusal (list chunk : List CardId) : Option Result :=
  if chunk = [] ∨ Config.denyChunk < chunk.length then some .badLength
  else if chunkSorted list chunk = false then some .unsorted
  else if Config.denyCapacity < list.length + chunk.length then some .tableFull
  else none

def execDenyLoad (tag : Byte) (chunk : List CardId) (s : State) : Out :=
  request (.denyLoad tag chunk) (fun s =>
    match denyLoadRefusal s.cards.deny chunk with
    | some r => mgmt tag 12 r .empty s
    | none => denyAnswer tag 12 false (setDeny (s.cards.deny ++ chunk) s)) s

def execDenyClear (tag : Byte) (s : State) : Out :=
  request (.denyClear tag) (fun s => denyAnswer tag 13 false (setDeny [] s)) s

/-! ### The journal (R152, R153) -/

/-- The records of a list, from its head, that fit in a number of bytes, each in its layout (R152, section 9.7). -/
def fitting : Nat → List Record → List Record
  | _, [] => []
  | room, r :: rs =>
    let n := 14 + kindLength r.body
    if n ≤ room then r :: fitting (room - n) rs else []

/-- The records of a READ_JOURNAL answer (R152). -/
def journalPage (n : Nat) (rs : List Record) : List Record := fitting (Config.saleBody - Config.readJournalHead) (rs.take n)

def execReadJournal (tag : Byte) (n : Nat) (s : State) : Out :=
  request (.readJournal tag n) (fun s =>
    if n < 1 ∨ 64 < n then mgmt tag 14 .range .empty s
    else mgmt tag 14 .ok (.journal s.journal.records.length s.journal.notWritten (journalPage n s.journal.records)) s) s

/-- The distance of a sequence number back from the newest (R153). -/
def distance (j : Journal) (q : BitVec 32) : Nat := (j.next - 1 - q).toNat

/-- Every record from the oldest through the confirmed one is removed (R153). -/
def confirmThrough (q : BitVec 32) (s : State) : State :=
  onJournal (fun j => { j with records := j.records.drop (j.records.length - distance j q) }) s

/-- The answer of CONFIRM_JOURNAL (R153). -/
def confirmAnswer (tag : Byte) (r : Result) (s : State) : State :=
  mgmt tag 15 r (.confirmed s.journal.records.length (oldestSeq s.journal)) s

def execConfirmJournal (tag : Byte) (q : BitVec 32) (s : State) : Out :=
  request (.confirmJournal tag q) (fun s =>
    if distance s.journal q < s.journal.records.length then confirmAnswer tag .ok (confirmThrough q s)
    else if distance s.journal q < 2147483648 then confirmAnswer tag .ok s
    else confirmAnswer tag .range s) s

/-! ### The totals (R157, R158) -/

def vsub {n : Nat} (a b : Vector (BitVec 32) n) : Vector (BitVec 32) n := vtab (fun i => vget a i - vget b i)

/-- The since-latch values (R158). -/
def since (a b : Totals) : Totals :=
  { coinsIn := vsub a.coinsIn b.coinsIn, valueIn := a.valueIn - b.valueIn, changePaid := a.changePaid - b.changePaid,
    refundsPaid := a.refundsPaid - b.refundsPaid, owed := a.owed - b.owed, loaded := a.loaded - b.loaded,
    debited := a.debited - b.debited, sales := vsub a.sales b.sales, freeIssues := a.freeIssues - b.freeIssues,
    unresolved := a.unresolved - b.unresolved }

/-- What READ_TOTALS returns (R158). -/
def totalsReport (s : State) : TotalsReport :=
  { running := s.journal.running
    since := since s.journal.running s.journal.latched
    latchCount := s.journal.latchCount
    notWritten := s.journal.notWritten
    rejects := s.coins.map (·.rejects)
    returned := s.coins.map (fun l => (l.returnedLate, l.returnedFailed))
    tubes := s.change.tubes
    denominations := vtab (fun t => denomOf s t)
    parityErrors := s.change.parityErrors
    printed := s.print.printed
    failed := s.print.failed
    dropped := (s.print.droppedReceipt, s.print.droppedSlip)
    notesLost := s.print.notesLost }

def execReadTotals (tag : Byte) (s : State) : Out :=
  request (.readTotals tag) (fun s => mgmt tag 16 .ok (.totals (totalsReport s)) s) s

/-- The latch and its record (R157). -/
def closeShift (s : State) : State :=
  let s1 := onJournal (fun j => { j with latched := j.running, latchCount := bump16 j.latchCount }) s
  append none (.shiftClose s1.journal.latchCount s1.journal.latched) s1

def execCloseShift (tag : Byte) (s : State) : Out :=
  request (.closeShift tag) (fun s =>
    if bothIdle s = false then mgmt tag 17 .busy .empty s
    else if Config.journalGate ≤ s.journal.records.length then mgmt tag 17 .journalFull .empty s
    else mgmt tag 17 .ok (.shift s.journal.next (bump16 s.journal.latchCount)) (closeShift s)) s

/-! ### The sticky faults (R183) -/

/-- The flags named are cleared. -/
def clearFaults (sets : Vector Flags 6) (overrun : Bool) (s : State) : State :=
  onLink (fun l =>
    { l with periph := vtab (fun i => { vget l.periph i with flags := flagsClear (vget l.periph i).flags (vget sets i) })
             overrun := l.overrun && !overrun }) s

def execAckFaults (tag : Byte) (sets : Vector Flags 6) (overrun : Bool) (s : State) : Out :=
  request (.ackFaults tag sets overrun) (fun s =>
    let s1 := clearFaults sets overrun s
    mgmt tag 18 .ok (.faults (vmap (·.flags) s1.link.periph) s1.link.overrun) s1) s

end Sys2Proof.Machine
end

