-- ==== Sys2Proof/Machine/Control.lean ====
section
/-! DEFINITION. The meanings of the requests that lend the link (R184, R186), set the clock, the periods and the mode (R3,
R101, R170, R197), report the status (R198), request a start (R163, R164) and discard a pending write (R98), of pass
frames (R40, R145, R179) and of frames that no request matches (R190). -/

namespace Sys2Proof.Machine

/-! ### Lending (R184, R186, R187) -/

def execLendLink (tag : Byte) (addr limit : Nat) (s : State) (busy : Bool := false) : Out :=
  request (.lendLink tag addr limit busy) (fun s =>
    match lendCheck addr limit s with
    | .error r => mgmt tag 19 r .empty s
    | .ok a => arbitrate busy (grantLend a limit (mgmt tag 19 .ok .empty s))) s

def execReturnLink (tag : Byte) (s : State) (busy : Bool := false) : Out :=
  request (.returnLink tag busy) (fun s =>
    match s.link.lend with
    | none => mgmt tag 20 .state .empty s
    | some d => arbitrate busy (endLend d (mgmt tag 20 .ok .empty s))) s

/-! ### The clock and the periods (R3, R101, R170) -/

/-- The clock set, and the activation watch at a change of minute (R1, R3, R204; log 31). -/
def setClock (day : BitVec 16) (minute second : Nat) (s : State) : State :=
  let c := s.fare.clock
  let s1 := onFare (fun f => { f with clock := { day := day.toNat, minute := minute, second := second, valid := true } }) s
  if c.valid ∧ c.day = day.toNat ∧ c.minute = minute then s1 else activationWatch s1

def execSetTime (tag : Byte) (day : BitVec 16) (minute second : Nat) (s : State) : Out :=
  request (.setTime tag day minute second) (fun s =>
    if 1439 < minute ∨ 59 < second then mgmt tag 21 .range .empty s
    else mgmt tag 21 .ok .empty (setClock day minute second s)) s

def execSetTiming (tag : Byte) (t : SessTiming) (s : State) : Out :=
  request (.setTiming tag t) (fun s =>
    if sessTimingInRange t then mgmt tag 22 .ok .empty (onSales (fun x => { x with timing := t }) s)
    else mgmt tag 22 .range .empty s) s

def execLinkTiming (tag : Byte) (t : LinkTiming) (s : State) : Out :=
  request (.linkTiming tag t) (fun s =>
    if linkTimingInRange t then mgmt tag 23 .ok .empty (onLink (fun l => { l with timing := t }) s)
    else mgmt tag 23 .range .empty s) s

/-! ### The mode and the status (R197, R198) -/

def setMode (m : Mode) (s : State) : State := onPort (fun t => { t with mode := m }) s

def execSetMode (tag : Byte) (target : Option Mode) (s : State) : Out :=
  request (.setMode tag target) (fun s =>
    if s.port.mode = .serviceOpen then mgmt tag 24 .protectedReq .empty s
    else match target with
      | some .inService => mgmt tag 24 .ok (.mode .inService) (setMode .inService s)
      | some .outOfService => mgmt tag 24 .ok (.mode .outOfService) (setMode .outOfService s)
      | some .serviceOpen => mgmt tag 24 .range .empty s
      | none => mgmt tag 24 .range .empty s) s

/-- The pending writes of a status report (R88, R198). -/
def entryReports (s : State) : List EntryReport :=
  (fours.filter (fun e => decide ((entry e s).state ≠ .free))).map (fun e =>
    { index := e, card := (entry e s).card, state := (entry e s).state, owner := (entry e s).owner,
      created := (entry e s).created })

/-- What READ_STATUS returns (R198). -/
def statusReport (s : State) : StatusReport :=
  { vendor := 0x5A
    part := 0x0220
    revision := Config.revision
    mode := s.port.mode
    doorOpen := s.port.doorOpen
    lastStart := s.journal.lastStart
    sessions := s.sales.sess.map (·.state)
    periph := vmap (fun x => { state := x.state, revision := x.revision, flags := x.flags, counters := x.counters })
      s.link.periph
    overrun := s.link.overrun
    records := s.journal.records.length
    oldest := oldestSeq s.journal
    next := s.journal.next
    notWritten := s.journal.notWritten
    nextNotice := s.port.nextNotice
    lost := s.port.lost
    counters := s.port.counters
    clock := s.fare.clock
    liveCheck := s.fare.liveCheck
    act := requested s
    lend := s.link.lend.map (fun d => (d.addr, d.phase))
    entries := entryReports s
    deny := s.cards.deny.length }

def execReadStatus (tag : Byte) (s : State) : Out :=
  request (.readStatus tag) (fun s => mgmt tag 25 .ok (.status (statusReport s)) s) s

/-! ### Requested starts (R163, R164, R192) -/

/-- The answer of a request for a start, which begins when the answer has been sent; no further frame is taken (R189). -/
def askStart (tag kind : Byte) (c : StartCause) (s : State) : State :=
  enqueue ⟨1, tag, kind, .ok, .empty, some c⟩ (onPort (fun t => { t with startReq := some c }) s)

def execRestart (tag : Byte) (s : State) : Out := request (.restart tag) (askStart tag 26 .restartRequest) s

/-- The checks of FACTORY_CLEAR (R163). -/
def factoryRefusal (s : State) : Option Result :=
  if s.port.mode ≠ .serviceOpen then some .protectedReq
  else if bothIdle s = false ∨ lent s = true then some .busy
  else if s.journal.records ≠ [] ∨ fours.any (fun e => decide ((entry e s).state ≠ .free)) = true then some .state
  else none

def execFactoryClear (tag : Byte) (s : State) : Out :=
  request (.factoryClear tag) (fun s =>
    match factoryRefusal s with
    | some r => mgmt tag 27 r .empty s
    | none => askStart tag 27 .factoryClear s) s

/-! ### DISCARD_PENDING (R98) -/

/-- The checks of DISCARD_PENDING (R98), and the entry it frees. -/
def discardCheck (card : CardId) (s : State) : Except Result (Fin 4) :=
  if s.port.mode ≠ .serviceOpen then .error .protectedReq
  else match entryOf card s with
    | none => .error .range
    | some e => if (entry e s).state ≠ .torn ∨ (entry e s).owner.isSome = true then .error .busy else .ok e

/-- The record of a discarded write, and the entry freed. -/
def discardEntry (card : CardId) (e : Fin 4) (s : State) : State :=
  let x := entry e s
  freeUp e (append none (.discardedPending card x.before x.delta.value x.customer x.created) s)

def execDiscardPending (tag : Byte) (card : CardId) (s : State) : Out :=
  request (.discardPending tag card) (fun s =>
    match discardCheck card s with
    | .error r => mgmt tag 28 r .empty s
    | .ok e => mgmt tag 28 .ok .empty (discardEntry card e s)) s

/-! ### Pass frames (R40, R145, R179, R180) -/

def passAnswer (tag : Byte) (r : Result) (b : AnswerBody) (s : State) : State := answerNow 2 tag 1 r b s

/-- A frame accepted into the pass-through queue, or refused BUSY by a full one (R180). -/
def acceptPass (tag : Byte) (a : Addr) (f : PassFrame) (unfiltered : Bool) (s : State) : State :=
  if Config.passCapacity ≤ s.link.passQueue.length then passAnswer tag .busy .empty s
  else onLink (fun l => { l with passQueue := l.passQueue ++ [⟨tag, a, f.code, f.body, unfiltered⟩] }) s

/-- The verdict of the live pass table; a code with no entry takes DROP (section 9.7). -/
def passVerdict (a : Addr) (code : Byte) (s : State) : PassVerdict :=
  match s.fare.live.pass.find? (fun r => decide (r.kind = addrKind a) && decide (r.code = code)) with
  | some r => r.verdict
  | none => .drop

/-- MERGE: the sale processor's mask for a validator (R40). -/
def mergeMask (tag : Byte) (a : Addr) (set : BitVec 8) (s : State) : State :=
  match a with
  | .valA => passAnswer tag .ok .empty (onLane .A (fun l => { l with spMask := set }) s)
  | .valB => passAnswer tag .ok .empty (onLane .B (fun l => { l with spMask := set }) s)
  | .cardA => passAnswer tag .refusedByTable .empty s
  | .cardB => passAnswer tag .refusedByTable .empty s
  | .changer => passAnswer tag .refusedByTable .empty s
  | .printer => passAnswer tag .refusedByTable .empty s

/-- QUEUE: a FREE_TEXT frame (R145). -/
def freeText (tag : Byte) (a : Addr) (lines : List Text) (s : State) : State :=
  if a ≠ .printer then passAnswer tag .refusedByTable .empty s
  else match freeTextCheck lines s with
    | some r => passAnswer tag r .empty s
    | none => passAnswer tag .ok (.queued (s.print.queueNo + 1)) (queueText tag lines s)

/-- Checks 3 to 6 of R179. -/
def passTaken (tag : Byte) (a : Addr) (f : PassFrame) (s : State) : State :=
  match s.link.lend with
  | some d => if d.addr = a then acceptPass tag a f true s else passAnswer tag .linkLent .empty s
  | none =>
    if online a s = false then passAnswer tag .peripheralMissing .empty s
    else match passVerdict a f.code s with
      | .drop => passAnswer tag .refusedByTable .empty s
      | .merge => mergeMask tag a f.enable s
      | .queue => freeText tag a f.lines s
      | .pass => acceptPass tag a f false s

def execPassFrame (tag : Byte) (f : PassFrame) (s : State) (busy : Bool := false) : Out :=
  request (.passFrame tag f busy) (fun s =>
    if Config.linkBody < f.body.length then passAnswer tag .badLength .empty s
    else match addrOf f.addr with
      | none => passAnswer tag .range .empty s
      | some a => arbitrate busy (masks none (passTaken tag a f s))) s

/-! ### Frames that match no request (R190)

A frame taken is this command when its channel or kind is listed nowhere, and when its body does not fit its request. -/

def execUnknownRequest (channel tag kind : Byte) (s : State) : Out :=
  request (.unknownRequest channel tag kind) (fun s =>
    answerNow channel tag kind
      (if knownKind channel.toNat kind.toNat then .badLength else .unknownRequest) .empty s) s

end Sys2Proof.Machine
end

