-- ==== Sys2Proof/Machine/Signals.lean ====
section
/-! DEFINITION. The meanings of the events at the part's own lines: sale link frames received and sent (R188, R189, R192),
the service door (R128, R129, R196), the reset line (R164), main power (R160, R164) and the second of the clock (R1). -/

namespace Sys2Proof.Machine

/-! ### The receive line (R188, R189; log 19) -/

inductive Received where
  | checkError
  | overLength
  | kept (f : RxFrame)
deriving DecidableEq, Repr

/-- A frame of the receive line, from its channel to its check (R189). -/
def receivedFrame (bs : List Byte) : Received :=
  if saleCheckRight bs = false then .checkError
  else if Config.saleBody < fieldAt bs 3 2 then .overLength
  else if bs.length ≠ fieldAt bs 3 2 + 7 then .checkError
  else match bs with
    | ch :: tag :: kind :: _ :: _ :: rest => .kept ⟨ch, tag, kind, rest.take (fieldAt bs 3 2)⟩
    | _ => .checkError

def onSaleCounters (f : SaleCounters → SaleCounters) (s : State) : State :=
  onPort (fun t => { t with counters := f t.counters }) s

/-- What becomes of a frame at the port (R189). While the reset line is held no frame is taken (R164). -/
def rxFrame (bs : List Byte) (s : State) : State :=
  if s.resetHeld then onSaleCounters (fun c => { c with checkErrors := c.checkErrors + 1 }) s
  else match receivedFrame bs with
    | .checkError => onSaleCounters (fun c => { c with checkErrors := c.checkErrors + 1 }) s
    | .overLength => onSaleCounters (fun c => { c with overLength := c.overLength + 1 }) s
    | .kept f =>
      if Config.rxCapacity ≤ s.port.rx.length then onSaleCounters (fun c => { c with overruns := c.overruns + 1 }) s
      else onPort (fun t => { t with rx := t.rx ++ [f] }) s

def execSaleFrameReceived (bytes : List Byte) (s : State) : Out :=
  .next (if s.power then finish (rxFrame bytes s) else s)

/-! ### The transmit line (R192) -/

/-- The frame on the transmit line has been sent: it is counted, and the line is free; or the start it asked for begins. -/
def txSent (busy : Bool) (s : State) : State :=
  match s.port.tx with
  | .idle => s
  | .answer a =>
    (match a.start with
     | some c => requestedStart c busy s
     | none =>
       finish (onPort (fun t =>
         { t with tx := .idle, counters := { t.counters with answersSent := t.counters.answersSent + 1 } }) s))
  | .notice _ _ =>
    finish (onPort (fun t =>
      { t with tx := .idle, counters := { t.counters with noticesSent := t.counters.noticesSent + 1 } }) s)

def execSaleFrameSent (s : State) (busy : Bool := false) : Out := .next (if s.power then txSent busy s else s)

/-! ### The service door (R128, R129, R186, R196) -/

/-- A session at the opening of the door (R128). -/
def doorSession (p : Position) (s : State) : State :=
  match (sess p s).state with
  | .reading => endReading p .outOfService .doorOpened s
  | .quoted => release p .doorOpened s
  | .collecting => cancelCollecting p .doorOpened s
  | .idle => s
  | .issuing => s
  | .payingOut => s
  | .refunding => s

/-- The door's state and the mode at the port (R196). -/
def setDoor (isOpen : Bool) (s : State) : State :=
  onPort (fun t => { t with doorOpen := isOpen, mode := if isOpen then .serviceOpen else .outOfService }) s

def setDoorLine (isOpen : Bool) (s : State) : State := { s with doorLine := isOpen }

/-- The opening of the door. Of the two positions' sessions, which R128 lets be treated in either order, A's is treated first
(log 67). -/
def execDoorOpened (s : State) (busy : Bool := false) : Out :=
  let s1 := setDoorLine true s
  .next
    (if s1.power = true ∧ s1.port.doorOpen = false then
       settle busy (masks none (reclaim .door (doorSession .B (doorSession .A (setDoor true s1)))))
     else s1)

def execDoorClosed (s : State) (busy : Bool := false) : Out :=
  let s1 := setDoorLine false s
  .next
    (if s1.power = true ∧ s1.port.doorOpen = true then settle busy (masks none (reclaim .door (setDoor false s1)))
     else s1)

/-! ### The reset line and main power (R160, R164) -/

def setReset (held : Bool) (s : State) : State := { s with resetHeld := held }

def execResetLineAsserted (s : State) : Out := .next (setReset true s)

/-- The reset line returns high (R164), and a start begins even where the part was powered up while the line was low (log 93). -/
def execResetLineReleased (s : State) (busy : Bool := false) : Out :=
  .next
    (if s.power = true ∧ s.resetHeld = true then warmStart .resetLine true busy (setReset false s) else setReset false s)

/-- Main power comes up: the start R160 chooses begins at once, with the reset line low too (log 93). -/
def execPowerUp (backupLost markerHolds : Bool) (s : State) (busy : Bool := false) : Out :=
  .next (if s.power then s else powerUpStart backupLost markerHolds busy s)

def execPowerLoss (s : State) : Out := .next { s with power := false }

/-! ### The clock timebase (R1, R204) -/

def execClockSecond (s : State) : Out :=
  let s1 := onFare (fun f => { f with clock := clockTick f.clock }) s
  .next (if s.power = true ∧ minuteChanges s.fare.clock = true then finish (activationWatch s1) else s1)

end Sys2Proof.Machine
end

