-- ==== Sys2Proof/Machine/Timers.lean ====
section
/-! DEFINITION. The meanings of the timers that expire: the four session timers (R78, R102, R103, R116), the settle limit
(R35), the cut limit (R139), the lend limit and the reclaim grace (R186). An expiry of a timer that does not run does not
occur (log 4). -/

namespace Sys2Proof.Machine

/-- An expiry that occurs, with what it may have changed for the masks and the line; any other changes nothing. -/
def expiry (occurs : Bool) (f : State → State) (busy : Bool) (s : State) : Out :=
  .next (if s.power && occurs then settle busy (masks none (f s)) else s)

def execQuoteLifeExpiry (p : Position) (s : State) (busy : Bool := false) : Out :=
  expiry (decide ((sess p s).state = .quoted) && (sess p s).quoteLife.isSome) (release p .quoteExpired) busy s

def execInactivityExpiry (p : Position) (s : State) (busy : Bool := false) : Out :=
  expiry (decide ((sess p s).state = .collecting) && (sess p s).inactivity.isSome) (cancelCollecting p .inactive) busy s

def execCardWaitExpiry (p : Position) (s : State) (busy : Bool := false) : Out :=
  expiry (decide ((sess p s).state = .reading) && (sess p s).cardWait.isSome) (endReading p .noCard .noCard) busy s

/-- The session stops waiting for its torn write (R116): the entry's owner becomes none. -/
def stopWaiting (p : Position) (s : State) : State :=
  let s1 := match (sess p s).entry with
    | some e => onEntry e (fun x => { x with owner := none }) s
    | none => s
  endUnwritten p .writeUnresolved
    (onSess p (fun x => { x with entry := none, pending := true, tearWindow := none, stage := .none }) s1)

def execTearWindowExpiry (p : Position) (s : State) (busy : Bool := false) : Out :=
  expiry (decide ((sess p s).stage = .torn) && (sess p s).tearWindow.isSome) (stopWaiting p) busy s

/-- An entry dropped at its settle limit (R35). -/
def settleLimit (p : Position) (seq : Byte) (s : State) : State :=
  match findEntry p seq s with
  | some e => listMoved p (dropEntry p e (raiseFault (valAddr p) .lostCoin s))
  | none => s

def execSettleLimitExpiry (p : Position) (seq : Byte) (s : State) (busy : Bool := false) : Out :=
  expiry (findEntry p seq s).isSome (settleLimit p seq) busy s

def execCutLimitExpiry (s : State) (busy : Bool := false) : Out :=
  expiry (cutLimitRuns s) (fun s => tryBegin (handTickets (cutLimitOut s))) busy s

/-- A lend in phase LENT is in force: its limit timer runs. -/
def lendRuns (s : State) : Bool :=
  match s.link.lend with
  | some d => decide (d.phase = .lent)
  | none => false

def execLendLimitExpiry (s : State) (busy : Bool := false) : Out := expiry (lendRuns s) (reclaim .limit) busy s

/-- The grace is over (R186, R187): the lend ends, and then its LINK_RECLAIM is queued, after the PRINT_DONE notices of that end
(log 92). -/
def graceOver (s : State) : State :=
  match s.link.lend with
  | some d =>
    (match d.phase with
     | .reclaiming c => notify 1 (.linkReclaim d.addr c true) (endLend d s)
     | .lent => s)
  | none => s

def graceRuns (s : State) : Bool :=
  match s.link.lend with
  | some d => decide (d.phase ≠ .lent)
  | none => false

def execReclaimGraceExpiry (s : State) (busy : Bool := false) : Out := expiry (graceRuns s) graceOver busy s

end Sys2Proof.Machine
end

