-- ==== Sys2Proof/Machine/Device.lean ====
section
/-! DEFINITION. The meanings of the device link's events: polls due (R171), exchanges left unanswered (R169), thresholds
(R60, R169), write answer times (R92), frames discarded (R165), and the answers of the peripherals (R73–R75, R168,
R172–R178, R180). -/

namespace Sys2Proof.Machine

/-! ### Polls (R171) -/

def makeDue (a : Addr) (s : State) : State := onPeriph a (fallDue s.port.moment) s

/-- A peripheral's poll falls due (R171). During a lend and while a WRITE is outstanding at the module it does not. A card read's
command takes its place in `standIn`. -/
def pollFallsDue (a : Addr) (s : State) : State := if lent s || writeOutAt a s then s else makeDue a s

def execPollDue (a : Addr) (busy : Bool) (s : State) : Out :=
  .next (if s.power then settle busy (pollFallsDue a s) else s)

/-! ### Exchanges left unanswered (R60, R92, R165, R169) -/

def timedOut (busy : Bool) (s : State) : State :=
  match s.link.line with
  | .window r => settle busy (masks none (unanswered r s))
  | .idle => s
  | .sending _ => s
  | .foreign => s

def execAnswerTimeout (busy : Bool) (s : State) : Out := .next (if s.power then timedOut busy s else s)

def execMissingThreshold (a : Addr) (s : State) (busy : Bool := false) : Out :=
  expiry (online a s && (periph a s).missingDue) (becomeMissing a) busy s

/-- Three polls of the changer in a row have gone unanswered with a DISPENSE outstanding (R60). -/
def pollLimitReached (s : State) : Option Dispense :=
  match s.change.dispense with
  | some d =>
    if d.sent = true ∧ 3 ≤ s.change.misses ∧ online .changer s = true ∧ (periph .changer s).missingDue = false then some d
    else none
  | none => none

def pollLimit (s : State) : State :=
  match pollLimitReached s with
  | some d => dispenseJam d (onChange (fun c => { c with misses := 0 }) s)
  | none => s

def execDispensePollLimit (s : State) (busy : Bool := false) : Out := expiry (pollLimitReached s).isSome pollLimit busy s

/-- A WRITE is no longer outstanding at its module (R90). -/
def writeOver (p : Position) (s : State) : State := onLink (fun l => { l with writeOut := l.writeOut.set p none }) s

/-- A WRITE ends with a result, and then its module's poll falls due (R90, R171): a read that goes on at the module sends its
own command in the poll's place. -/
def endWrite (p : Position) (w : CardWrite) (r : WriteResult) (s : State) : State :=
  pollFallsDue (cardAddr p) (writeEnded p w r (writeOver p s))

/-- A forwarded WRITE ends with its answer, or with none (R166, R180, R185): the sale processor alone is told. -/
def endPassWrite (p : Position) (f : QueuedPass) (reply : Option DeviceReply) (s : State) : State :=
  pollFallsDue (cardAddr p) (passReply f reply (onLink (fun l => { l with passWrite := l.passWrite.set p none }) s))

def writeTimedOut (p : Position) (s : State) : State :=
  match s.link.writeOut.get p, s.link.passWrite.get p with
  | some w, _ => endWrite p w .torn s
  | none, some f => endPassWrite p f none s
  | none, none => s

def execWriteAnswerTimeout (p : Position) (s : State) (busy : Bool := false) : Out :=
  expiry (writeHeld p s) (writeTimedOut p) busy s

/-! ### Frames discarded (R165, R166) -/

/-- A right frame whose address and kind fit the exchange is an answer, and not discarded. -/
def fitsBytes (f : LinkFrame) (bs : List Byte) : Bool :=
  match addrOf (fieldAt bs 0 1) with
  | some a => fits f a (fieldAt bs 1 1)
  | none => false

/-- A right frame that fits the exchange. One that comes as the command of its answer changes nothing here. Of any other the kind
and body go to the sale processor where the exchange is a forwarded frame's (R180); as the answer to a frame of the controller's
own its body does not hold what its kind carries, and it does not fit the exchange (log 81). -/
def otherAnswer (bs : List Byte) (r : ReadyFrame) (busy : Bool) (s : State) : State :=
  match bs with
  | _ :: kind :: _ :: rest =>
    let body := rest.take (fieldAt bs 2 1)
    if hasCommand (frameAddr r.frame) kind.toNat body then s
    else match r.frame with
      | .pass q => settle busy (masks none (passAnswered q (.other kind body) (countAnswered r.frame (freeLine s))))
      | _ => settle busy (masks none (discardInWindow r true s))
  | _ => s

def discarded (bs : List Byte) (busy : Bool) (s : State) : State :=
  match s.link.line with
  | .window r =>
    if linkFrameTaken bs = false then settle busy (masks none (discardInWindow r false s))
    else if fitsBytes r.frame bs then otherAnswer bs r busy s
    else settle busy (masks none (discardInWindow r true s))
  | .foreign => settle busy (freeLine s)
  | .idle => s
  | .sending _ => s

def execDeviceFrameDiscarded (bytes : List Byte) (busy : Bool) (s : State) : Out :=
  .next (if running s then discarded bytes busy s else s)

/-! ### Answers to POLL and ANNOUNCE (R168, R172) -/

def execPollAnswer (report : Byte) (body : PollBody) (busy : Bool) (s : State) : Out :=
  .next (receive (bodyAddr body) 129 busy (forwardOr (.poll report body) (fun _ s => takePoll report body s)) s)

/-- An ANNOUNCE answer that gives another kind than its address has is not taken (R168). -/
def wrongKind (a : Addr) (k : Announced) (f : LinkFrame) : Bool :=
  match f with
  | .announce b => decide (a = b) && decide (announcedKind k ≠ some (addrKind a))
  | _ => false

/-- The exchange whose ANNOUNCE was answered with another kind, where there is one. -/
def wrongAnnounce (a : Addr) (k : Announced) (s : State) : Option ReadyFrame :=
  match s.link.line with
  | .window r => if wrongKind a k r.frame then some r else none
  | .idle => none
  | .sending _ => none
  | .foreign => none

def execAnnounceAnswer (a : Addr) (k : Announced) (revision : Byte) (busy : Bool) (s : State) : Out :=
  .next
    (match running s, wrongAnnounce a k s with
     | true, some r => settle busy (masks none (unanswered r (raiseFault a .moduleError s)))
     | _, _ =>
       receive a 130 busy (forwardOr (.announce k revision) (fun _ s => announceTaken a k revision s)) s)

/-! ### Acknowledgements (R41, R175, R177) -/

/-- The validator a forwarded INHIBIT addresses, sent outside a lend. -/
def inhibitTo (f : QueuedPass) : Option Position :=
  match f.addr with
  | .valA => if f.code.toNat = 4 ∧ f.unfiltered = false then some .A else none
  | .valB => if f.code.toNat = 4 ∧ f.unfiltered = false then some .B else none
  | _ => none

/-- The set an acknowledgement of an INHIBIT carries is the validator's last acknowledged set (R175). -/
def setAcked (p : Position) (m : BitVec 8) (s : State) : State := onLink (fun l => { l with acked := l.acked.set p (some m) }) s

/-- What an acknowledgement means for the frame it answers. One that carries no set acknowledges the set that the controller's own
INHIBIT carried (log 63), and leaves the last acknowledged set as it is after a forwarded one (log 90). -/
def acknowledged (set : Option (BitVec 8)) (r : ReadyFrame) (s : State) : State :=
  match r.frame with
  | .pass q =>
    passReply q (some (.ack set)) (match inhibitTo q, set with
      | some p, some m => setAcked p m s
      | _, _ => s)
  | .inhibit p m =>
    setAcked p (set.getD m) (onLink (fun l => { l with inhibitKept := l.inhibitKept.set p none }) s)
  | .dispense _ _ _ => onChange (fun c => { c with dispense := c.dispense.map (fun d => { d with acked := true }) }) s
  | _ => s

def execAcknowledgement (a : Addr) (set : Option (BitVec 8)) (busy : Bool) (s : State) : Out :=
  .next (receive a 131 busy (acknowledged set) s)

/-! ### Answers to DETECT and READ (R73, R74, R77, R79, R93) -/

/-- A card is present (R77, R93). An answer to a DETECT of an ended read is discarded (R78). -/
def cardPresent (card : CardId) (r : ReadyFrame) (s : State) : State :=
  match r.frame with
  | .card p (.detect n credit) =>
    if (sess p s).serial ≠ n then s
    else if credit then creditDetected p (some card) s
    else if readOf p s = .detecting then pushCard p (.read n card) (setRead p (.reading card) s)
    else s
  | _ => s

def execPresent (p : Position) (card : CardId) (busy : Bool) (s : State) : Out :=
  .next (receive (cardAddr p) 132 busy (forwardOr (.present card) (cardPresent card)) s)

/-- No card, or more than one, is present (R73, R77, R93). -/
def cardAbsent (r : ReadyFrame) (s : State) : State :=
  match r.frame with
  | .card p (.detect n credit) => if credit = true ∧ (sess p s).serial = n then creditDetected p none s else s
  | _ => s

def execNone (p : Position) (busy : Bool) (s : State) : Out :=
  .next (receive (cardAddr p) 133 busy (forwardOr .noCard cardAbsent) s)

/-- A COLLISION is counted (R73, R173), except for a frame of a lend (R185). -/
def collided (p : Position) (f : ReadyFrame → State → State) (r : ReadyFrame) (s : State) : State :=
  f r (if lendFrame r.frame then s
    else onCounters (cardAddr p) (fun c => { c with collisions := bump16 c.collisions }) s)

def execCollision (p : Position) (busy : Bool) (s : State) : Out :=
  .next (receive (cardAddr p) 134 busy (collided p (forwardOr .collision cardAbsent)) s)

/-- The READ that r carries belongs to the read in progress (R78). -/
def readCurrent (p : Position) (n : Nat) (x : CardId) (s : State) : Bool :=
  decide ((sess p s).serial = n) && decide (readOf p s = .reading x)

/-- A READ sent for the sale processor outside a lend has failed at the module (R71, R74): a lend alone sets that aside (R185). -/
def forwardedFault (failed : Bool) (q : QueuedPass) (s : State) : State :=
  if failed = true ∧ q.unfiltered = false then raiseFault q.addr .moduleError s else s

/-- An image returned (R71, R77, R79). -/
def imageReturned (body : List Byte) (r : ReadyFrame) (s : State) : State :=
  match r.frame with
  | .pass q => passReply q (some (.image body)) (forwardedFault (imageOf body).isNone q s)
  | .card p (.read n x) =>
    if readCurrent p n x s then
      (match imageOf body with
       | some img => takeImage p img s
       | none => setRead p .detecting (raiseFault (cardAddr p) .moduleError s))
    else s
  | _ => s

def execImage (p : Position) (body : List Byte) (busy : Bool) (s : State) : Out :=
  .next (receive (cardAddr p) 135 busy (imageReturned body) s)

/-- A READ that failed (R74, R77). -/
def readNotDone (f : ReadFault) (r : ReadyFrame) (s : State) : State :=
  match r.frame with
  | .pass q => passReply q (some (.readFailed f)) (forwardedFault (decide (f = .error)) q s)
  | .card p (.read n x) =>
    if readCurrent p n x s then
      setRead p .detecting (if f = .error then raiseFault (cardAddr p) .moduleError s else s)
    else s
  | _ => s

def execReadFailed (p : Position) (f : ReadFault) (busy : Bool) (s : State) : Out :=
  .next (receive (cardAddr p) 136 busy (readNotDone f) s)

/-! ### Answers to WRITE (R75, R91, R92, R176) -/

/-- A WRITE answer as a forwarded frame's reply. -/
def writeReply (card : CardId) : WriteResult → DeviceReply
  | .ok => .writeOk card
  | .failed r => .writeFailed card r
  | .torn => .writeUncertain card

/-- A WRITE answer that no WRITE of the controller awaits is discarded, with MODULE_ERROR unless its card is that of the last
WRITE (R176). Of a WRITE sent before the start no card is known (log 70). -/
def writeUnmatched (p : Position) (card : CardId) (s : State) : State :=
  if s.link.lastWrite.get p = some card then s else raiseFault (cardAddr p) .moduleError s

/-- A WRITE answer on the line while no answer window is open (R176): taken when the module has a WRITE outstanding and the
card id matches, handed to the sale processor when a forwarded WRITE is outstanding there (R185), discarded otherwise. -/
def writeAnswer (p : Position) (card : CardId) (r : WriteResult) (s : State) : State :=
  match s.link.writeOut.get p, s.link.passWrite.get p with
  | some w, _ =>
    if w.image.id = card then
      let s1 := answered (cardAddr p) s
      endWrite p w r (if r = .failed .error then raiseFault (cardAddr p) .moduleError s1 else s1)
    else writeUnmatched p card s
  | none, some f => endPassWrite p f (some (writeReply card r)) (countAnswered (.pass f) s)
  | none, none => writeUnmatched p card s

/-- A WRITE answer of a module (R166, R176). In an answer window it is a frame that does not fit the exchange (R165), unless it
answers a forwarded frame with an unknown code (R180). -/
def writeAnswered (p : Position) (card : CardId) (r : WriteResult) (busy : Bool) (s : State) : State :=
  match s.link.line with
  | .idle => settle busy (masks none (writeAnswer p card r s))
  | .foreign => settle busy (masks none (writeAnswer p card r (freeLine s)))
  | .window _ =>
    receive (cardAddr p) (replyKind (writeReply card r)) busy (forwardOr (writeReply card r) (fun _ s => s)) s
  | .sending _ => s

def execWriteOk (p : Position) (card : CardId) (busy : Bool) (s : State) : Out :=
  .next (if running s then writeAnswered p card .ok busy s else s)

def execWriteFailed (p : Position) (card : CardId) (r : WriteFault) (busy : Bool) (s : State) : Out :=
  .next (if running s then writeAnswered p card (.failed r) busy s else s)

def execWriteUncertain (p : Position) (card : CardId) (busy : Bool) (s : State) : Out :=
  .next (if running s then writeAnswered p card .torn busy s else s)

/-! ### The printer's answers (R138, R139, R178) -/

/-- A status answer to LINE, CUT or TEXT (R139, R178). -/
def statusTaken (st : PrinterStatus) (r : ReadyFrame) (s : State) : State :=
  match r.frame with
  | .line n _ => handTickets (takeStatus st (if st = .ready ∨ st = .paperLow then lineTaken n s else s))
  | .cut n => handTickets (takeStatus st (if st = .jammed then s else cutTaken n s))
  | .pass q => passAnswered q (.status st) s
  | _ => s

def execStatusAnswer (st : PrinterStatus) (busy : Bool) (s : State) : Out :=
  .next (receive .printer 140 busy (statusTaken st) s)

/-! ### A frame of the controller ends (R90, R166, R173) -/

/-- The answer window opens; a WRITE, the controller's or a forwarded one, ends its exchange at once and is outstanding (R90,
R166, R176). -/
def frameSent (busy : Bool) (s : State) : State :=
  match s.link.line with
  | .sending r =>
    let s1 := onCounters (frameAddr r.frame) (fun c => { c with sent := bump16 c.sent }) s
    (match r.frame with
     | .card p (.write w) =>
       settle busy (onLink (fun l => { l with line := .idle, writeOut := l.writeOut.set p (some w),
                                              lastWrite := l.lastWrite.set p (some w.image.id) }) s1)
     | .pass f =>
       (match writeTo f with
        | some p =>
          settle busy (onLink (fun l => { l with line := .idle, passWrite := l.passWrite.set p (some f) }) s1)
        | none => finish (onLink (fun l => { l with line := .window r }) s1))
     | _ => finish (onLink (fun l => { l with line := .window r }) s1))
  | .idle => s
  | .window _ => s
  | .foreign => s

def execDeviceFrameSent (busy : Bool) (s : State) : Out := .next (if s.power then frameSent busy s else s)

end Sys2Proof.Machine
end

