-- ==== Sys2Proof/Machine/Dispatch.lean ====
section
/-! DEFINITION. The meaning of every command, one arm for each row of the table. -/

namespace Sys2Proof.Machine

def exec (i : Instr) (s : State) : Host.Outcome State Fault Refusal :=
  match i with
  | .quote tag pos q busy => Sys2Proof.Machine.execQuote tag pos q s busy
  | .pay tag pos payment busy => Sys2Proof.Machine.execPay tag pos payment s busy
  | .cancel tag pos busy => Sys2Proof.Machine.execCancel tag pos s busy
  | .touch tag pos => Sys2Proof.Machine.execTouch tag pos s
  | .loadTable tag table index body => Sys2Proof.Machine.execLoadTable tag table index body s
  | .clearStaged tag => Sys2Proof.Machine.execClearStaged tag s
  | .stagedCheck tag => Sys2Proof.Machine.execStagedCheck tag s
  | .readTable tag src table index => Sys2Proof.Machine.execReadTable tag src table index s
  | .activate tag check time => Sys2Proof.Machine.execActivate tag check time s
  | .cancelActivation tag => Sys2Proof.Machine.execCancelActivation tag s
  | .cashConfig tag body busy => Sys2Proof.Machine.execCashConfig tag body s busy
  | .tubeAdjust tag tube n busy => Sys2Proof.Machine.execTubeAdjust tag tube n s busy
  | .tubeClear tag tube busy => Sys2Proof.Machine.execTubeClear tag tube s busy
  | .denyAdd tag card => Sys2Proof.Machine.execDenyAdd tag card s
  | .denyRemove tag card => Sys2Proof.Machine.execDenyRemove tag card s
  | .denyLoad tag chunk => Sys2Proof.Machine.execDenyLoad tag chunk s
  | .denyClear tag => Sys2Proof.Machine.execDenyClear tag s
  | .readJournal tag n => Sys2Proof.Machine.execReadJournal tag n s
  | .confirmJournal tag seq => Sys2Proof.Machine.execConfirmJournal tag seq s
  | .readTotals tag => Sys2Proof.Machine.execReadTotals tag s
  | .closeShift tag => Sys2Proof.Machine.execCloseShift tag s
  | .ackFaults tag sets overrun => Sys2Proof.Machine.execAckFaults tag sets overrun s
  | .lendLink tag addr limit busy => Sys2Proof.Machine.execLendLink tag addr limit s busy
  | .returnLink tag busy => Sys2Proof.Machine.execReturnLink tag s busy
  | .setTime tag day minute second => Sys2Proof.Machine.execSetTime tag day minute second s
  | .setTiming tag t => Sys2Proof.Machine.execSetTiming tag t s
  | .linkTiming tag t => Sys2Proof.Machine.execLinkTiming tag t s
  | .setMode tag target => Sys2Proof.Machine.execSetMode tag target s
  | .readStatus tag => Sys2Proof.Machine.execReadStatus tag s
  | .restart tag => Sys2Proof.Machine.execRestart tag s
  | .factoryClear tag => Sys2Proof.Machine.execFactoryClear tag s
  | .discardPending tag card => Sys2Proof.Machine.execDiscardPending tag card s
  | .passFrame tag f busy => Sys2Proof.Machine.execPassFrame tag f s busy
  | .unknownRequest channel tag kind => Sys2Proof.Machine.execUnknownRequest channel tag kind s
  | .saleFrameReceived bytes => Sys2Proof.Machine.execSaleFrameReceived bytes s
  | .saleFrameSent busy => Sys2Proof.Machine.execSaleFrameSent s busy
  | .doorOpened busy => Sys2Proof.Machine.execDoorOpened s busy
  | .doorClosed busy => Sys2Proof.Machine.execDoorClosed s busy
  | .resetLineAsserted => Sys2Proof.Machine.execResetLineAsserted s
  | .resetLineReleased busy => Sys2Proof.Machine.execResetLineReleased s busy
  | .powerUp backupLost markerHolds busy => Sys2Proof.Machine.execPowerUp backupLost markerHolds s busy
  | .powerLoss => Sys2Proof.Machine.execPowerLoss s
  | .clockSecond => Sys2Proof.Machine.execClockSecond s
  | .quoteLifeExpiry p busy => Sys2Proof.Machine.execQuoteLifeExpiry p s busy
  | .inactivityExpiry p busy => Sys2Proof.Machine.execInactivityExpiry p s busy
  | .cardWaitExpiry p busy => Sys2Proof.Machine.execCardWaitExpiry p s busy
  | .tearWindowExpiry p busy => Sys2Proof.Machine.execTearWindowExpiry p s busy
  | .settleLimitExpiry p seq busy => Sys2Proof.Machine.execSettleLimitExpiry p seq s busy
  | .cutLimitExpiry busy => Sys2Proof.Machine.execCutLimitExpiry s busy
  | .lendLimitExpiry busy => Sys2Proof.Machine.execLendLimitExpiry s busy
  | .reclaimGraceExpiry busy => Sys2Proof.Machine.execReclaimGraceExpiry s busy
  | .pollDue a busy => Sys2Proof.Machine.execPollDue a busy s
  | .answerTimeout busy => Sys2Proof.Machine.execAnswerTimeout busy s
  | .missingThreshold a busy => Sys2Proof.Machine.execMissingThreshold a s busy
  | .dispensePollLimit busy => Sys2Proof.Machine.execDispensePollLimit s busy
  | .writeAnswerTimeout p busy => Sys2Proof.Machine.execWriteAnswerTimeout p s busy
  | .deviceFrameDiscarded bytes busy => Sys2Proof.Machine.execDeviceFrameDiscarded bytes busy s
  | .pollAnswer report body busy => Sys2Proof.Machine.execPollAnswer report body busy s
  | .announceAnswer a kind revision busy => Sys2Proof.Machine.execAnnounceAnswer a kind revision busy s
  | .acknowledgement a set busy => Sys2Proof.Machine.execAcknowledgement a set busy s
  | .present p card busy => Sys2Proof.Machine.execPresent p card busy s
  | .noCard p busy => Sys2Proof.Machine.execNone p busy s
  | .collision p busy => Sys2Proof.Machine.execCollision p busy s
  | .image p body busy => Sys2Proof.Machine.execImage p body busy s
  | .readFailed p r busy => Sys2Proof.Machine.execReadFailed p r busy s
  | .writeOk p card busy => Sys2Proof.Machine.execWriteOk p card busy s
  | .writeFailed p card r busy => Sys2Proof.Machine.execWriteFailed p card r busy s
  | .writeUncertain p card busy => Sys2Proof.Machine.execWriteUncertain p card busy s
  | .statusAnswer st busy => Sys2Proof.Machine.execStatusAnswer st busy s
  | .deviceFrameSent busy => Sys2Proof.Machine.execDeviceFrameSent busy s

end Sys2Proof.Machine
end

