-- ==== Sys2Proof/Machine/Step.lean ====
section
/-! DEFINITION. One step: the command at the front of the queue is taken, and its meaning run with the rest of the queue. -/

namespace Sys2Proof.Machine

/-- The state with another queue of waiting commands. -/
def setPending (cs : List Instr) (s : State) : State := { s with pending := cs }

/-- The step of the block. An empty queue idles (log 2). -/
def step (s : State) : Host.Outcome State Fault Refusal :=
  match s.pending with
  | [] => .next s
  | c :: cs => exec c (setPending cs s)

/-- The state with the command that a word spells put at the front of the queue. -/
def State.withFetchWord (s : State) (nbits w : Nat) : State :=
  match decodeTableWord nbits w with
  | some c => setPending (c :: s.pending) s
  | none => s

end Sys2Proof.Machine
end

