-- ==== Sys2Proof/Safety.lean ====
section
/-! DEFINITION. What counts as a safe run, in the terms the claims use: the bounds and orders the spec states of the
machine's lists, clock and mode, which every step keeps, and the observers that claims read a step's effect with. -/

namespace Sys2Proof.Machine

/-! ### Invariants -/

/-- The journal holds at most 512 records, and their numbers run consecutively up to the next sequence number less 1
(R146). -/
def JournalOk (j : Journal) : Prop :=
  j.records.length ≤ Config.journalCapacity ∧
  ∀ i, ∀ h : i < j.records.length, (j.records[i]'h).seq = j.next - BitVec.ofNat 32 (j.records.length - i)

/-- The deny list is strictly ascending and holds at most 2,048 card ids (R80). -/
def DenyOk (c : Cards) : Prop := c.deny.Pairwise (fun a b => a.toNat < b.toNat) ∧ c.deny.length ≤ Config.denyCapacity

/-- The clock's fields lie in their ranges (R1). -/
def ClockOk (c : Clock) : Prop := c.day ≤ 65535 ∧ c.minute ≤ 1439 ∧ c.second ≤ 59

/-- The queues of the sale link port hold no more than they may, and an answer waits outside the answer queue only while
that queue is full (R189, R192, R194). -/
def PortOk (t : Port) : Prop :=
  t.rx.length ≤ Config.rxCapacity ∧ t.answers.length ≤ Config.answerCapacity ∧
  t.notices.length ≤ Config.noticeCapacity ∧ (t.overflow ≠ [] → t.answers.length = Config.answerCapacity)

/-- An open door is SERVICE_OPEN and no other mode is, and with main power present the port's door state is that of the
door line (R196). -/
def DoorOk (s : State) : Prop :=
  (s.port.mode = .serviceOpen ↔ s.port.doorOpen = true) ∧ (s.power = true → s.port.doorOpen = s.doorLine)

/-- An outstanding-verdict list holds at most 4 entries and no gate sequence number twice (R30). -/
def LaneOk (l : Lane) : Prop := l.list.length ≤ Config.verdictCapacity ∧ (l.list.map (·.seq)).Nodup

/-- Both lists of outstanding verdicts, and the pass-through queue (R30, R180). -/
def QueuesOk (s : State) : Prop :=
  LaneOk s.coins.a ∧ LaneOk s.coins.b ∧ s.link.passQueue.length ≤ Config.passCapacity

/-- No two pending-write entries hold the same card id, and an entry that is FREE or RESERVED holds none (R88). -/
def EntriesOk (c : Cards) : Prop :=
  (∀ e, (vget c.entries e).state = .free ∨ (vget c.entries e).state = .reserved → (vget c.entries e).card = none) ∧
  (∀ e f x, (vget c.entries e).card = some x → (vget c.entries f).card = some x → e = f)

/-- The timer periods and the link settings lie in their ranges (R101, R170). -/
def SettingsOk (s : State) : Prop :=
  sessTimingInRange s.sales.timing = true ∧ linkTimingInRange s.link.timing = true

/-! ### Observers -/

/-- The request has been taken from the receive buffer and answered, and nothing else has changed before the transmit line
is served. -/
def answeredOnly (channel tag kind : Byte) (r : Result) (b : AnswerBody) (s : State) : State :=
  finish (enqueue ⟨channel, tag, kind, r, b, none⟩ s)

/-- The printer is ONLINE and reports neither PAPER_OUT nor JAMMED (R104, R107). -/
abbrev PrinterServes (s : State) : Prop :=
  (periph .printer s).state = .online ∧ s.print.last ≠ some .paperOut ∧ s.print.last ≠ some .jammed

/-- The six checks that a QUOTE for a position makes first pass (R104). -/
abbrev QuoteOpen (p : Position) (q : QuoteReq) (s : State) : Prop :=
  (sess p s).state = .idle ∧ s.port.mode = .inService ∧ s.link.lend = none ∧ s.journal.records.length < 496 ∧
  (q.payment = .coins → (periph (valAddr p) s).state = .online) ∧ (q.medium = .paper → PrinterServes s)

/-- The exchange whose answer window is open is that of frame f, and frames of either link are taken. -/
def Awaits (f : LinkFrame) (s : State) : Prop := running s = true ∧ ∃ age, s.link.line = .window ⟨age, f⟩

/-- The exchange with a peripheral has been answered: the line is free, the streak ends, and the answer is counted (R169,
R173). -/
def heard (a : Addr) (s : State) : State :=
  onPeriph a (fun x => { x with streak := 0, counters := { x.counters with answers := x.counters.answers + 1 } })
    { s with link := { s.link with line := .idle } }

/-- The answer a is on its way to the sale processor: queued, waiting outside a full queue, or on the transmit line (R192). -/
def Answering (a : Answer) (s : State) : Prop := a ∈ s.port.answers ∨ a ∈ s.port.overflow ∨ s.port.tx = .answer a

/-- The device link right after a start: the first ANNOUNCE is on the line, or it found a frame begun there, waits on, and has
its deferral counted and CONTENTION raised (R166, R167). -/
def startedLink (busy : Bool) : Link :=
  if busy then
    { Link.start with
      periph := vset Link.start.periph 0 { Peripheral.start with
        flags := { Flags.none with contention := true }, counters := { LinkCounters.zero with deferrals := 1 } }
      line := .foreign }
  else Link.reset

/-- The sale link port right after a start: the notice of a CONTENTION goes on the free transmit line (R166, R182, R192). -/
def startedPort (busy doorOpen : Bool) : Port :=
  { Port.start doorOpen with
    tx := if busy then .notice 0 ⟨1, 0, .deviceFault .valA .contention⟩ else .idle
    nextNotice := if busy then 1 else 0
    moment := 1 }

/-- The running totals t rise to u by the figures of one SALE, REFUND or INTERRUPTED record: its money, one sale of the product sold,
one free issue where that sale is free, and one unresolved write (R156). -/
def Raised (change refund owed loaded debited : Nat) (sold : Option Nat) (free unresolved : Bool) (t u : Totals) : Prop :=
  u.coinsIn = t.coinsIn ∧ u.valueIn = t.valueIn ∧
  u.changePaid = t.changePaid + BitVec.ofNat 32 change ∧ u.refundsPaid = t.refundsPaid + BitVec.ofNat 32 refund ∧
  u.owed = t.owed + BitVec.ofNat 32 owed ∧ u.loaded = t.loaded + BitVec.ofNat 32 loaded ∧
  u.debited = t.debited + BitVec.ofNat 32 debited ∧
  (∀ i : Fin 32, vget u.sales i = vget t.sales i + (if sold = some i.val then 1 else 0)) ∧
  u.freeIssues = t.freeIssues + (if sold.isSome = true ∧ free = true then 1 else 0) ∧
  u.unresolved = t.unresolved + (if unresolved = true then 1 else 0)

/-- The reservations of position p in t, after the entries off have stayed on its list in s and one has left it without being
routed: a provisional plan is dropped, or replaced by one of the new change amount where the planner finds one (R36). -/
def PlanReviewed (p : Position) (off : List Outstanding) (s t : State) : Prop :=
  let left := (sess p s).credit + ((off.filter (fun e => current p e s)).map (·.value)).sum
  let cover := { resv p s with mode := .cover, plan := [], amount := 0, reserved := (resv p s).cover }
  ((resv p s).mode ≠ .provisional → resv p t = resv p s) ∧
  ((resv p s).mode = .provisional →
    (left ≤ (sess p s).due → resv p t = cover) ∧
    ((sess p s).due < left → planAt s p (left - (sess p s).due) = none → resv p t = cover) ∧
    (∀ pl, (sess p s).due < left → planAt s p (left - (sess p s).due) = some pl →
      resv p t = { resv p s with
        plan := pl, amount := left - (sess p s).due
        reserved := vtab (fun i => max (vget (resv p s).cover i) (planCount pl i)) }))

/-- A session that collects is cancelled while a coin of it is outstanding: it waits in REFUNDING, back at its cover (R48, R110,
R121). -/
def refundWaits (p : Position) (r : EndReason) (s : State) : State :=
  notify 0 (.session p .refunding (.ended r))
    { s with
      sales := { s.sales with sess := s.sales.sess.set p { sess p s with
        state := .refunding, stage := .refundWait, endReason := some r, refunded := true,
        inactivity := none, tearWindow := none } }
      change := { s.change with resv := s.change.resv.set p { resv p s with
        mode := .cover, plan := [], amount := 0, reserved := (resv p s).cover } } }

/-- A session of position p that collects has credit and no coin outstanding, its credit plans with k coins of tube t first, and
the changer is free to be sent them. -/
def RefundPayable (p : Position) (t : Fin 6) (k : Nat) (rest : Plan) (s : State) : Prop :=
  (sess p s).state = .collecting ∧ 0 < (sess p s).credit ∧ currentList p s = [] ∧ (periph .changer s).state = .online ∧
  planAt s p (sess p s).credit = some ((t, k) :: rest) ∧ 0 < k ∧ (tube t s).state = .active ∧ s.change.dispense = none ∧
  (resv p.other s).waiting = none

/-- Its refund is begun in u with end reason r: the credit is planned, the plan is held, and the first DISPENSE of at most 25 coins
goes to the changer (R56, R57, R121). -/
def RefundBegun (p : Position) (r : EndReason) (t : Fin 6) (k : Nat) (rest : Plan) (s u : State) : Prop :=
  sess p u = { sess p s with
    state := .refunding, stage := .paying, endReason := some r, refunded := true, planned := true,
    further := 0, inactivity := none, tearWindow := none } ∧
  sess p.other u = sess p.other s ∧
  (resv p u).mode = .hold ∧ (resv p u).plan = (t, k) :: rest ∧ (resv p u).amount = (sess p s).credit ∧
  (resv p u).paying = true ∧ (resv p u).short = 0 ∧
  (∀ i, vget (resv p u).reserved i = planCount ((t, k) :: rest) i) ∧
  (∃ d, u.change.dispense = some d ∧ d.pos = p ∧ d.tube = t ∧ d.count = min 25 k) ∧
  u.change.tubes = s.change.tubes ∧ u.change.box = s.change.box ∧ u.journal = s.journal ∧ u.fare = s.fare ∧
  u.cash = s.cash ∧ u.cards = s.cards

/-- A session of position p that collects by coins has credit and no coin outstanding, the changer is not ONLINE, and the journal
has room. -/
def RefundUnpayable (p : Position) (s : State) : Prop :=
  (sess p s).state = .collecting ∧ 0 < (sess p s).credit ∧ currentList p s = [] ∧ (periph .changer s).state ≠ .online ∧
  (∀ r, (sess p s).result = some r → r.free = false) ∧ (sess p s).payment = some .coins ∧
  s.journal.records.length < 512

/-- Its refund is owed in u: the session has closed with a REFUND record of end reason r that owes all of its credit, and the
totals have risen by that record's figures (R57, R61, R121, R125, R156). -/
def RefundOwed (p : Position) (r : EndReason) (s u : State) : Prop :=
  (sess p u).state = .idle ∧ u.change.tubes = s.change.tubes ∧
  (∀ d, u.change.dispense = some d → d.pos = p.other ∨
    ∃ e, s.change.dispense = some e ∧ d = { e with sent := d.sent, acked := d.acked }) ∧
  ∃ x, u.journal.records.map Record.body = s.journal.records.map Record.body ++ [.refund x] ∧
    u.journal.records.getLast?.map (fun y => (y.pos, y.seq)) = some (some p, s.journal.next) ∧
    x.reason = r ∧ x.credit = (sess p s).credit ∧ x.refundPaid = (sess p s).refundPaid ∧
    x.owed = (sess p s).owed + (sess p s).credit ∧ x.cardOwed = (sess p s).cardOwed ∧
    Raised x.changePaid x.refundPaid (x.owed + x.cardOwed) (if (sess p s).write = .done then (sess p s).loaded else 0) 0
      none false false s.journal.running u.journal.running

/-- The close in u of a session of position p whose ticket failed after a stored-value debit: a SALE record with what was credited
back and what is owed for it, and the totals risen by that record's figures (R93, R118, R124, R125, R156). -/
def TicketFailedClosed (p : Position) (back owed cardOwed : Nat) (after : Option Nat) (s u : State) : Prop :=
  (sess p u).state = .idle ∧
  ∃ x, u.journal.records.map Record.body = s.journal.records.map Record.body ++ [.sale x] ∧
    u.journal.records.getLast?.map (fun y => (y.pos, y.seq)) = some (some p, s.journal.next) ∧
    x.reason = .ticketFailed ∧ x.debited = (sess p s).debited ∧ x.creditedBack = back ∧
    x.owed = (sess p s).owed + owed ∧ x.cardOwed = (sess p s).cardOwed + cardOwed ∧ x.balanceAfter = after ∧
    Raised x.changePaid x.refundPaid (x.owed + x.cardOwed) (if (sess p s).write = .done then (sess p s).loaded else 0)
      (x.debited - back) none false false s.journal.running u.journal.running

/-- The DETECT or READ that a read in progress at position p sends (R77). -/
def ReadSends (p : Position) (c : CardCmd) (s : State) : Prop :=
  (readOf p s = .detecting ∧ c = .detect (sess p s).serial false) ∨
  (∃ x, readOf p s = .reading x ∧ c = .read (sess p s).serial x)

/-- No DETECT or READ of a read at position p is ready. -/
def NoReadReady (p : Position) (s : State) : Prop := ∀ f ∈ s.link.cardReady, f.pos = p → isReadCmd f.cmd = false

/-- The command c for position p's card module is ready with an age, or on the line with it. -/
def CardWaits (p : Position) (age : Nat) (c : CardCmd) (s : State) : Prop :=
  ⟨p, age, c⟩ ∈ s.link.cardReady ∨ s.link.line = .sending ⟨age, .card p c⟩

/-- A stored-value sale of position p whose ticket has failed and whose record is to be a SALE; the journal has room (R118). -/
def TicketFailedSale (p : Position) (s : State) : Prop :=
  (sess p s).endReason = some .ticketFailed ∧ (sess p s).payment = some .storedValue ∧ (sess p s).refunded = false ∧
  s.journal.records.length < 512

/-- The selection `sel` of an amount c and what remains of it: each denomination held, largest first, with as many coins as there
are, `has`, and as the amount still takes (R52). -/
def GreedySelection (den : Vector Nat 6) (has : Nat → Nat) (c : Nat) (sel : List (Nat × Nat)) (left : Nat) : Prop :=
  let value (l : List (Nat × Nat)) : Nat := (l.map (fun e => e.2 * e.1)).sum
  (sel.map Prod.fst).Pairwise (fun a b => b < a) ∧
  (∀ d, d ∈ sel.map Prod.fst ↔ d ≠ 0 ∧ ∃ t, vget den t = d) ∧
  (∀ xs d k ys, sel = xs ++ (d, k) :: ys → k = min (has d) ((c - value xs) / d)) ∧
  value sel + left = c

/-- The summed availability, with denomination x limited to n coins (R53). -/
def limitedTo (den av : Vector Nat 6) (x n : Nat) (d : Nat) : Nat := if d = x then min n (summed den av d) else summed den av d

/-- The plan of a selection: each denomination's coins from its tubes, a tube of more availability giving all it has before the
next gives any, and of equal ones the lower; entries above 0 only, in the order of payout (R54). -/
def AllocatedPlan (den av : Vector Nat 6) (sel : List (Nat × Nat)) (pl : Plan) : Prop :=
  (∀ d k, (d, k) ∈ sel → (sixes.map (fun t => if vget den t = d then planCount pl t else 0)).sum = k) ∧
  (∀ t u, vget den t = vget den u → vget av u < vget av t ∨ (vget av t = vget av u ∧ t.val < u.val) →
    0 < planCount pl u → planCount pl t = vget av t) ∧
  (∀ e ∈ pl, 0 < e.2 ∧ vget den e.1 ≠ 0) ∧ (∀ t, planCount pl t ≤ vget av t) ∧ (pl.map Prod.fst).Nodup ∧
  pl.Pairwise (fun e f => vget den f.1 < vget den e.1 ∨ (vget den f.1 = vget den e.1 ∧ e.1.val < f.1.val))

/-- The print queue holds a WAITING or ACTIVE job of kind k against the record with number q. -/
def jobFor (k : JobKind) (q : BitVec 32) (s : State) : Bool :=
  s.print.slots.toList.any (fun x => match x with
    | .waiting j => decide (j.kind = k ∧ j.seq = some q)
    | .active j _ => decide (j.kind = k ∧ j.seq = some q)
    | .free => false
    | .reserved _ => false)

/-- The ranges of a template's line (R199). -/
def LineFits (l : List TItem) : Prop :=
  ((l.map itemBytes).flatten).length ≤ 80 ∧ (∀ x, TItem.text x ∈ l → 1 ≤ x.length ∧ x.length ≤ 48) ∧
  (l.map (fun i => match i with | .text x => x.length | .mark _ => 0)).sum ≤ 48

/-- The ranges of the cash tables (R207). -/
def CashFits (t : CashTables) : Prop :=
  (∀ c, let x := vget t.types c
    x.value ≤ 50000 ∧ x.diaLo ≤ 1023 ∧ x.diaHi ≤ 1023 ∧ x.thickLo ≤ 1023 ∧ x.thickHi ≤ 1023 ∧ x.matLo ≤ 1023 ∧
    x.matHi ≤ 1023 ∧ x.noise ≤ 255) ∧
  (∀ i, let x := vget t.tubes i
    10 ≤ x.capacity ∧ x.capacity ≤ 250 ∧ 1 ≤ x.perStep ∧ x.perStep ≤ 8 ∧ x.tolerance ≤ 20) ∧
  1 ≤ t.unit ∧ t.unit ≤ 100 ∧ 1 ≤ t.limit ∧ t.limit ≤ 2000

/-- The changes that serving the masks and the device link may make: to the sale link port, the device link, the change
store's commanded DISPENSE and the progress of the printed job. Everything else is as in s. -/
def OnlyServed (s t : State) : Prop :=
  t.power = s.power ∧ t.resetHeld = s.resetHeld ∧ t.doorLine = s.doorLine ∧ t.fare = s.fare ∧ t.cash = s.cash ∧
  t.change.tubes = s.change.tubes ∧ t.change.box = s.change.box ∧ t.change.resv = s.change.resv ∧
  t.change.parityErrors = s.change.parityErrors ∧ t.cards = s.cards ∧ t.sales = s.sales ∧ t.journal = s.journal ∧
  t.pending = s.pending ∧ t.port.mode = s.port.mode ∧ t.port.doorOpen = s.port.doorOpen ∧ t.port.rx = s.port.rx ∧
  t.port.startReq = s.port.startReq ∧ t.port.counters = s.port.counters ∧ t.link.lend = s.link.lend ∧
  t.link.timing = s.link.timing ∧ t.link.overrun = s.link.overrun ∧ t.link.writeOut = s.link.writeOut ∧
  t.link.acked = s.link.acked ∧ t.link.lastWrite = s.link.lastWrite ∧ t.link.passWrite = s.link.passWrite ∧
  (∀ p, (lane p t).list = (lane p s).list ∧ (lane p t).spMask = (lane p s).spMask ∧ (lane p t).last = (lane p s).last ∧
    (lane p t).rejects = (lane p s).rejects ∧ (lane p t).returnedLate = (lane p s).returnedLate ∧
    (lane p t).returnedFailed = (lane p s).returnedFailed) ∧
  t.print.queueNo = s.print.queueNo ∧ t.print.last = s.print.last ∧ t.print.void = s.print.void ∧
  t.print.printed = s.print.printed ∧ t.print.failed = s.print.failed

end Sys2Proof.Machine
end

