-- ==== Sys2Proof/Certificates/Slice0/Obligations.lean ====
section
/-! DEFINITION. The statements for the provers. Where a statement's conclusion is an equation with the state that a command
leaves, every field that the equation does not name is unchanged; `finish` and `enqueue` act on the sale link port alone,
and what serving the masks and the device link may change is the statement `ServingKeepsTheRest`. In such an equation `masks`
recomputes the masks once, after all else (log 12), `settle` queues a CONTENTION's notice last (log 91), and `finish` raises the
moment, a field of the model's own (log 17): choices of the model. -/

open Sys2Proof Sys2Proof.Machine

/-! ### The queue of commands and the sale link port -/

/-- A step runs the command at the front of the queue with the queue's rest, and idles on an empty queue. The model's choice
(log 2). -/
def Obligations.StepTakesFrontCommand : Prop :=
  (∀ (c : Instr) (cs : List Instr) (s : State), step (setPending (c :: cs) s) = exec c (setPending cs s)) ∧
  (∀ s : State, s.pending = [] → step s = .next s)

/-- Every command has a next state in every state, and none touches the queue of waiting commands; a request that cannot be
taken (no power, the reset line held, a requested start, a full answer queue, or a frame at the head of the receive buffer that
is not the request's own) changes nothing. The model's choice (logs 2, 4 and 5). -/
def Obligations.EveryCommandCompletes : Prop :=
  (∀ (c : Instr) (s : State), ∃ t, exec c s = .next t ∧ t.pending = s.pending) ∧
  (∀ (c : Instr) (s : State), requestHead c ≠ none → takes c s = false → exec c s = .next s)

/-- What serving the masks, the device link and the transmit line can change, and what a recomputed mask is: it enables a coin
type that has a value and a destination that can take it, while the session collects and its change can be made, no lend is in
force and the sale processor enables it. A mask that differs from the last becomes the last, is made ready as the INHIBIT of
an ONLINE validator or withdraws the waiting one that would say what it last acknowledged, and queues a CREDIT notice, as a
rise of credit does; an INHIBIT in its exchange takes the set or is withdrawn as it would stay waiting if it is left
unanswered (R28, R38, R39, R41, R174, R192). That one CREDIT notice is queued where a rise of credit and a change of the mask
fall together, and that it carries the credit and due of the rise, is the model's choice (log 12). Read from the spec are the
age that an INHIBIT takes and the set that waits beside one in its exchange (log 13); the CREDIT notices and the last mask
while a validator is not ONLINE are read from it too (log 48). -/
def Obligations.ServingKeepsTheRest : Prop :=
  (∀ (busy : Bool) (rise : Option Rise) (s : State), OnlyServed s (settle busy (masks rise s))) ∧
  (∀ (p : Position) (c : Fin 8) (s : State),
     let v := (coinType c s).value
     let rest := (sess p s).due - pledged p s
     let coming (d : Dest) : Nat := (((lane .A s).list ++ (lane .B s).list).filter (fun e => decide (e.dest = d))).length
     let tubeOpen := ∃ t, (coinType c s).route = some t ∧ (tube t s).ctype = some c ∧ (tube t s).state ≠ .jammed ∧
       (tube t s).state ≠ .disabled ∧ (tube t s).count + coming (.tube t) < (tube t s).capacity
     let boxOpen := s.change.box.present = true ∧ s.change.box.count + coming .box < s.cash.limit
     ((effectiveMask p s).getLsbD c.val = true ↔
       s.link.lend = none ∧ 0 < v ∧ (sess p s).state = .collecting ∧ pledged p s < (sess p s).due ∧
       (tubeOpen ∨ boxOpen) ∧ (v ≤ rest ∨ ∃ pl, planAt s p (v - rest) = some pl) ∧
       (lane p s).spMask.getLsbD c.val = true)) ∧
  (∀ (p : Position) (rise : Option Rise) (s : State),
     let m := effectiveMask p s
     let t := recompute p rise s
     let last (u : State) := onLane p (fun l => { l with lastMask := m }) u
     let ready (x : Option (Nat × BitVec 8)) (u : State) := onLink (fun l => { l with inhibit := l.inhibit.set p x }) u
     let kept (x : Option (Nat × BitVec 8)) (u : State) := onLink (fun l => { l with inhibitKept := l.inhibitKept.set p x }) u
     let takes (x : Option (Nat × BitVec 8)) := some ((x.map Prod.fst).getD s.port.moment, m)
     let ends (x : Option (Nat × BitVec 8)) := x.isSome = true ∧ s.link.acked.get p = some m
     let sent :=
       if inhibitOut p s = true then
         (if ends (s.link.inhibitKept.get p) then kept none
          else if (periph (valAddr p) s).state = .online then kept (takes (s.link.inhibitKept.get p)) else id)
         ((if (periph (valAddr p) s).state = .online then ready (takes (s.link.inhibit.get p)) else id) (last s))
       else if ends (s.link.inhibit.get p) then ready none (last s)
       else if (periph (valAddr p) s).state = .online then ready (takes (s.link.inhibit.get p)) (last s)
       else last s
     ((∀ r, rise = some r → r.pos ≠ p) →
       (m = (lane p s).lastMask → t = s) ∧
       (m ≠ (lane p s).lastMask → t = notify 0 (.credit p (sess p s).credit (sess p s).due m) sent)) ∧
     (∀ r, rise = some r → r.pos = p →
       (m = (lane p s).lastMask → t = notify 0 (.credit p r.credit r.due m) s) ∧
       (m ≠ (lane p s).lastMask → t = notify 0 (.credit p r.credit r.due m) sent)))

/-- A free transmit line takes the oldest answer, else the first notice, which is of the lowest class queued and takes the
next notice number; a frame on the line stays; an answer that finds 16 waiting waits outside them (R192, R194). -/
def Obligations.AnswersGoBeforeNotices : Prop :=
  (∀ s : State,
    finish s = { s with port := (finish s).port } ∧
    (∀ a rest, s.port.tx = .idle → s.port.answers = a :: rest →
      (finish s).port = { s.port with tx := .answer a, answers := rest ++ s.port.overflow.take 1,
                                      overflow := s.port.overflow.drop 1, moment := s.port.moment + 1 }) ∧
    (∀ n, s.port.tx = .idle → s.port.answers = [] → firstNotice s.port.notices = some n →
      (finish s).port = { s.port with tx := .notice s.port.nextNotice n, notices := s.port.notices.erase n,
                                      nextNotice := s.port.nextNotice + 1, moment := s.port.moment + 1 }) ∧
    (s.port.tx = .idle → s.port.answers = [] → s.port.notices = [] →
      (finish s).port = { s.port with moment := s.port.moment + 1 }) ∧
    (s.port.tx ≠ .idle → (finish s).port = { s.port with moment := s.port.moment + 1 })) ∧
  (∀ ns : List Notice, (∀ m ∈ ns, m.cls ≤ 3) →
    (∀ n, firstNotice ns = some n → n ∈ ns ∧ ∀ m ∈ ns, n.cls ≤ m.cls) ∧ (ns ≠ [] → (firstNotice ns).isSome = true)) ∧
  (∀ (a : Answer) (s : State),
    enqueue a s = { s with port := (enqueue a s).port } ∧
    (s.port.answers.length < 16 → s.port.overflow = [] →
      (enqueue a s).port = { s.port with answers := s.port.answers ++ [a] }) ∧
    (16 ≤ s.port.answers.length ∨ s.port.overflow ≠ [] →
      (enqueue a s).port = { s.port with overflow := s.port.overflow ++ [a] }))

/-- A frame made as R188 gives is kept in a buffer with room and counted as an overrun by a full one; a frame whose last two
bytes are not its check is counted as a check error; a frame that has been sent is counted and frees the line, and an answer
that a start waits for begins that start (R188, R189, R192). That the check is looked at before the length field, and that a
frame counts as sent at the end of its sending, are read from the spec (logs 19 and 18). -/
def Obligations.SaleFramesReceivedAndSent : Prop :=
  (∀ s : State, s.power = true → s.resetHeld = false →
    (∀ (ch tag kind : Byte) (body : List Byte), body.length ≤ 1024 → s.port.rx.length < 2 →
      exec (.saleFrameReceived (saleFrameBytes ch tag kind body)) s =
        .next (finish { s with port := { s.port with rx := s.port.rx ++ [⟨ch, tag, kind, body⟩] } })) ∧
    (∀ (ch tag kind : Byte) (body : List Byte), body.length ≤ 1024 → 2 ≤ s.port.rx.length →
      exec (.saleFrameReceived (saleFrameBytes ch tag kind body)) s =
        .next (finish { s with port := { s.port with
          counters := { s.port.counters with overruns := s.port.counters.overruns + 1 } } })) ∧
    (∀ bs, saleCheckRight bs = false →
      exec (.saleFrameReceived bs) s =
        .next (finish { s with port := { s.port with
          counters := { s.port.counters with checkErrors := s.port.counters.checkErrors + 1 } } }))) ∧
  (∀ (busy : Bool) (s : State), s.power = true →
    (∀ a, s.port.tx = .answer a → a.start = none →
      exec (.saleFrameSent busy) s = .next (finish { s with port := { s.port with
        tx := .idle, counters := { s.port.counters with answersSent := s.port.counters.answersSent + 1 } } })) ∧
    (∀ no n, s.port.tx = .notice no n →
      exec (.saleFrameSent busy) s = .next (finish { s with port := { s.port with
        tx := .idle, counters := { s.port.counters with noticesSent := s.port.counters.noticesSent + 1 } } })) ∧
    (∀ a, s.port.tx = .answer a → a.start = some .restartRequest →
      exec (.saleFrameSent busy) s = .next (warmStart .restartRequest true busy s)) ∧
    (∀ a, s.port.tx = .answer a → a.start = some .factoryClear →
      exec (.saleFrameSent busy) s = .next (coldStart .factoryClear busy s)))

/-- A notice joins the tail while there is room; a full queue replaces the CREDIT or SESSION notice of the same kind and
position nearest its tail, in place, and drops and counts any other (R195). -/
def Obligations.FullNoticeQueue : Prop :=
  ∀ (cls : Nat) (b : NoticeBody) (s : State),
    (s.port.notices.length < 32 →
      (notify cls b s).port = { s.port with notices := s.port.notices ++ [⟨cls, s.port.moment, b⟩] }) ∧
    (∀ xs m ys, 32 ≤ s.port.notices.length → s.port.notices = xs ++ m :: ys → replaces b m.body = true →
      (∀ n ∈ ys, replaces b n.body = false) →
      (notify cls b s).port = { s.port with notices := xs ++ { m with body := b } :: ys }) ∧
    (32 ≤ s.port.notices.length → (∀ n ∈ s.port.notices, replaces b n.body = false) →
      (notify cls b s).port = { s.port with lost := s.port.lost + 1 })

/-! ### Starts, the reset line, main power and the door -/

/-- The reset line's two commands, the loss of main power, and the start that the backup-lost line and the marker choose at
power-up (R160, R164). Two of its clauses are read from the spec: BACKUP_LOST is the cause where both causes are present (log 41),
and a marker that is not written is never read as holding (log 7). That the loss of main power clears nothing by itself
(log 40), and that a power-up with the reset line low starts at once and its release starts again (log 93), are the model's choice. -/
def Obligations.ResetLineAndMainPower : Prop :=
  ∀ (busy : Bool) (s : State),
    exec .resetLineAsserted s = .next { s with resetHeld := true } ∧
    exec .powerLoss s = .next { s with power := false } ∧
    (s.power = true → s.resetHeld = true →
      exec (.resetLineReleased busy) s = .next (warmStart .resetLine true busy { s with resetHeld := false })) ∧
    (s.power = false → ∀ markerHolds : Bool,
      exec (.powerUp true markerHolds busy) s = .next (coldStart .backupLost busy s) ∧
      (s.journal.marker = true → exec (.powerUp false true busy) s = .next (warmStart .powerUp false busy s)) ∧
      (s.journal.marker = false → exec (.powerUp false markerHolds busy) s = .next (coldStart .markerLost busy s)) ∧
      exec (.powerUp false false busy) s = .next (coldStart .markerLost busy s))

/-- What a cold start leaves (R162, R2, R5, R22, R42, R45, R88, R99, R146, R154, R189, R196). Its device link at the end of the
start (the first ANNOUNCE on the line, or deferred by a frame found there: logs 1 and 15) and its sale link port (a frame on the
transmit line dropped: log 80; the moment: log 17) are the model's choice, as is the empty set as the last mask (log 83). -/
def Obligations.ColdStartLeaves : Prop :=
  ∀ (cause : StartCause) (busy : Bool) (s : State),
    let t := coldStart cause busy s
    t.journal.records = [] ∧ t.journal.next = 0 ∧ t.journal.notWritten = 0 ∧ t.journal.running = Totals.zero ∧
    t.journal.latched = Totals.zero ∧ t.journal.latchCount = 0 ∧ t.journal.marker = true ∧
    t.journal.lastStart = ⟨true, cause⟩ ∧
    (∀ i, (tube i t).state = .disabled ∧ (tube i t).count = 0 ∧ (tube i t).ctype = none ∧ (tube i t).capacity = 10 ∧
      (tube i t).routedIn = 0 ∧ (tube i t).paidOut = 0 ∧ (tube i t).added = 0 ∧ (tube i t).removed = 0 ∧
      (tube i t).writtenOff = 0 ∧ (tube i t).estimate = none) ∧
    t.change.box.present = false ∧ t.change.box.count = 0 ∧ (∀ c, vget t.change.box.values c = 0) ∧
    (∀ e, (entry e t).state = .free) ∧ t.cards.deny = [] ∧ t.fare.live = clearedBank ∧ t.fare.staged = clearedBank ∧
    t.fare.act = none ∧ t.cash.unit = 1 ∧ t.cash.limit = 2000 ∧ (∀ c, (coinType c t).value = 0) ∧
    t.fare.clock = { day := 0, minute := 0, second := 0, valid := false } ∧
    (∀ p, sess p t = Session.idle 0 ∧ resv p t = Reserve.start ∧ lane p t = Lane.start ∧ readOf p t = .none) ∧
    t.print = PrintUnit.start ∧ t.port = startedPort busy s.doorLine ∧ t.link = startedLink busy ∧
    t.port.mode = (if s.doorLine then .serviceOpen else .outOfService) ∧ t.pending = s.pending

/-- The reset state is that of the first power-up of a part with no marker, with the door closed, and it has every invariant.
The model's choice (log 1). -/
def Obligations.ResetIsFirstPowerUp : Prop :=
  (exec (.powerUp false false false) { State.reset with power := false } = .next State.reset) ∧
  (JournalOk State.reset.journal ∧ DenyOk State.reset.cards ∧ EntriesOk State.reset.cards ∧ ClockOk State.reset.fare.clock ∧
   SettingsOk State.reset ∧ PortOk State.reset.port ∧ DoorOk State.reset ∧ QueuesOk State.reset)

/-- What a warm restart keeps and what it clears. The journal and the totals are as the INTERRUPTED records leave them; of the
records only the print notes change, at a restart with main power present, for the RECEIPT and OWED_SLIP jobs still queued
(R161, R88, R134, R159, R196). Its device link at the end of the start (the first ANNOUNCE on the line, or deferred by a frame
found there: logs 1 and 15) and its sale link port (a frame on the transmit line dropped: log 80; the moment: log 17) are the
model's choice, as is the empty set as the last mask (log 83). -/
def Obligations.WarmRestartKeepsAndClears : Prop :=
  ∀ (cause : StartCause) (powered busy : Bool) (s : State),
    let t := warmStart cause powered busy s
    t.fare = s.fare ∧ t.cash = s.cash ∧ t.change.tubes = s.change.tubes ∧ t.change.box = s.change.box ∧
    t.cards.deny = s.cards.deny ∧ t.cards.entries = vmap restartEntry s.cards.entries ∧ t.sales = Sales.start ∧
    (∀ p, resv p t = Reserve.start ∧ lane p t = Lane.start ∧ readOf p t = .none) ∧ t.change.dispense = none ∧
    t.change.parityErrors = 0 ∧ t.print = PrintUnit.start ∧ t.link = startedLink busy ∧
    t.port = startedPort busy s.doorLine ∧
    (let u := (interrupt .B (interrupt .A s)).journal
     t.journal.next = u.next ∧ t.journal.notWritten = u.notWritten ∧ t.journal.running = u.running ∧
     (powered = false → t.journal.records = u.records) ∧
     (powered = true → t.journal.records = u.records.map (fun r => { r with
       receiptNote := r.receiptNote || jobFor .receipt r.seq s
       slipNote := r.slipNote || jobFor .owedSlip r.seq s }))) ∧
    t.journal.lastStart = ⟨false, cause⟩ ∧ t.journal.latched = s.journal.latched ∧
    t.journal.latchCount = s.journal.latchCount ∧ t.journal.marker = s.journal.marker ∧ t.pending = s.pending

/-- A session past PAY leaves an INTERRUPTED record with its unpaid balance, whether issuing had succeeded or not and whichever
its payment, or is counted as not written by a full journal, and either way the totals rise by its figures; one in IDLE, READING
or QUOTED leaves none (R130, R149, R156). Read from the spec are how the balance meets the amounts already owed (log 27); that a
WRITE handed to the device link counts as sent is the model's choice (log 29). -/
def Obligations.InterruptedSessionIsRecorded : Prop :=
  ∀ (p : Position) (s : State),
    let x := sess p s
    let kept := if x.issued then x.priceKept else 0
    (x.state = .idle ∨ x.state = .reading ∨ x.state = .quoted → interrupt p s = s) ∧
    (x.state = .collecting ∨ x.state = .issuing ∨ x.state = .payingOut ∨ x.state = .refunding →
      ∃ r : InterruptedRec,
        r.credit = x.credit ∧ r.changePaid = x.changePaid ∧ r.refundPaid = x.refundPaid ∧
        r.creditedBack = x.creditedBack ∧ r.due = x.due ∧ r.payouts = x.payouts ∧ r.issued = x.issued ∧
        r.write = x.write ∧ r.card = x.held.map (·.id) ∧
        (x.payment = some .coins →
          r.debited = 0 ∧ r.owed = x.credit - kept - x.changePaid - x.refundPaid + x.owed + x.cardOwed) ∧
        (∀ q, x.result = some q → r.product = q.product ∧ r.price = q.price ∧ r.free = q.free) ∧
        (∀ q, x.payment = some .storedValue → x.result = some q →
          r.owed = r.debited - kept - x.creditedBack + x.owed + x.cardOwed ∧
          ((∃ f, x.write = .notDone f) ∨ (x.write = .none ∧ x.stage ≠ .cardWrite) → r.debited = 0) ∧
          (x.write = .done ∨ x.write = .foreign ∨ x.write = .torn ∨ (x.write = .none ∧ x.stage = .cardWrite) →
            r.debited = q.price)) ∧
        Raised x.changePaid x.refundPaid r.owed (if x.write = .done then x.loaded else 0)
          (if x.payment = some .storedValue then r.debited - x.creditedBack else 0)
          (if x.issued then x.result.map (·.product) else none) r.free false
          s.journal.running (interrupt p s).journal.running ∧
        (s.journal.records.length < 512 →
          (interrupt p s).journal.records =
            s.journal.records ++ [commonPart s.fare.clock s.journal.next (some p) (.interrupted r)] ∧
          (interrupt p s).journal.notWritten = s.journal.notWritten) ∧
        (512 ≤ s.journal.records.length →
          (interrupt p s).journal.records = s.journal.records ∧
          (interrupt p s).journal.notWritten = s.journal.notWritten + 1))

/-- The door line's changes: the mode at once, the sessions by their state, and a lend in phase LENT reclaimed at either change,
one that is being reclaimed left as it is (R128, R129, R186, R196). That a change is taken at once also while the reset line is
held is read from the spec (log 7). -/
def Obligations.DoorDecidesTheMode : Prop :=
  ∀ (busy : Bool) (s : State), s.power = true →
    let reclaimed (t : State) : Prop :=
      (s.link.lend = none → t.link.lend = none) ∧
      (∀ d, s.link.lend = some d → d.phase = .lent → t.link.lend = some { d with phase := .reclaiming .door }) ∧
      (∀ d c, s.link.lend = some d → d.phase = .reclaiming c → t.link.lend = some d)
    (s.port.doorOpen = false →
      ∃ t, exec (.doorOpened busy) s = .next t ∧ t.port.mode = .serviceOpen ∧ t.port.doorOpen = true ∧ t.doorLine = true ∧
        (∀ p, (sess p s).state = .quoted ∨ (sess p s).state = .reading → (sess p t).state = .idle) ∧
        (∀ p, (sess p s).state = .collecting → (sess p s).credit = 0 → currentList p s = [] →
          (sess p t).state = .idle) ∧
        reclaimed t ∧ t.fare = s.fare ∧ t.cash = s.cash ∧ t.cards.deny = s.cards.deny) ∧
    (s.port.doorOpen = true →
      ∃ t, exec (.doorClosed busy) s = .next t ∧ t.port.mode = .outOfService ∧ t.port.doorOpen = false ∧
        t.doorLine = false ∧ reclaimed t ∧
        t.sales = s.sales ∧ t.fare = s.fare ∧ t.cash = s.cash ∧ t.cards = s.cards ∧ t.journal = s.journal ∧
        t.change.tubes = s.change.tubes ∧ t.change.box = s.change.box ∧ t.change.resv = s.change.resv)

/-! ### The clock and the activation watch -/

/-- One second of the clock timebase, with its rollovers, whether main power is present or not; a pending activation is made
at the change of minute that reaches it (R1, R204, R205). -/
def Obligations.ClockSecondAdvances : Prop :=
  (∀ s : State,
     (s.fare.clock.second < 59 →
       exec .clockSecond s =
         .next { s with fare := { s.fare with clock := { s.fare.clock with second := s.fare.clock.second + 1 } } }) ∧
     (59 ≤ s.fare.clock.second →
       ∃ t, exec .clockSecond s = .next t ∧
         t.fare.clock =
           (if s.fare.clock.minute < 1439 then { s.fare.clock with second := 0, minute := s.fare.clock.minute + 1 }
            else if s.fare.clock.day < 65535 then
              { s.fare.clock with second := 0, minute := 0, day := s.fare.clock.day + 1 }
            else { day := 0, minute := 0, second := 0, valid := false }) ∧
         t.sales = s.sales ∧ t.cash = s.cash ∧ t.coins = s.coins ∧ t.change = s.change ∧ t.cards = s.cards ∧
         t.print = s.print ∧
         (s.power = false ∨ s.fare.act = none → t.fare.live = s.fare.live ∧ t.journal = s.journal))) ∧
  (∀ (s : State) (a : PendingAct), s.power = true → s.fare.clock.valid = true → s.fare.act = some a →
     s.fare.clock.second = 59 → s.fare.clock.minute < 1439 → a.day = s.fare.clock.day →
     a.minute ≤ s.fare.clock.minute + 1 →
     ∃ t, exec .clockSecond s = .next t ∧ t.fare.live = s.fare.staged ∧ t.fare.staged = s.fare.live ∧
       t.fare.liveCheck = bankCheck s.fare.staged ∧ t.fare.act = none ∧
       (s.journal.records.length < 512 →
         t.journal.records = s.journal.records ++
           [commonPart t.fare.clock s.journal.next none
             (.tableActivated (bankCheck s.fare.staged) (.day a.day a.minute)
               (decide (a.minute < s.fare.clock.minute + 1)))]) ∧
       t.sales = s.sales ∧ t.change = s.change ∧ t.cards = s.cards)

/-! ### Sale requests -/

/-- A QUOTE that reads no card and passes every check is answered with its price and enters QUOTED (R104, R105, R106). -/
def Obligations.QuotePricedAtOnce : Prop :=
  ∀ (tag : Byte) (p : Position) (q : QuoteReq) (r : QuoteResult) (busy : Bool) (s : State),
    takes (.quote tag (some p) q busy) s = true →
    QuoteOpen p q s → q.medium = .paper → q.payment = .coins →
    quotePlain s.fare.live s.fare.clock s.cash.unit q = .ok r →
    exec (.quote tag (some p) q busy) s = .next (finish (notify 0 (.session p .quoted .priced)
      (enqueue ⟨0, tag, 1, .ok, .quote r, none⟩
        (onSess p (fun x => { Session.idle (x.serial + 1) with
          tag := tag, state := .quoted, req := some q, result := some r,
          quoteLife := some s.sales.timing.quoteLife }) (takeFrame s)))))

/-- The checks of a QUOTE, the first failing one refusing it with nothing else changed: the session controller's six, stage 1
of the fare engine's, and the card transaction unit's two (R104, R105, R11, R76). That a position other than A and B is
refused RANGE is read from the spec (log 34). -/
def Obligations.QuoteRefusalsInOrder : Prop :=
  ∀ (tag : Byte) (p : Position) (q : QuoteReq) (busy : Bool) (s : State),
    (takes (.quote tag none q busy) s = true →
      exec (.quote tag none q busy) s = .next (answeredOnly 0 tag 1 .range .empty (takeFrame s))) ∧
    (takes (.quote tag (some p) q busy) s = true →
      let refused (r : Result) :=
        exec (.quote tag (some p) q busy) s = .next (answeredOnly 0 tag 1 r .empty (takeFrame s))
      let idle := (sess p s).state = .idle
      let serves := idle ∧ s.port.mode = .inService
      let unlent := serves ∧ s.link.lend = none
      let room := unlent ∧ s.journal.records.length < 496
      let coins := room ∧ (q.payment = .coins → (periph (valAddr p) s).state = .online)
      (¬ idle → refused .state) ∧
      (idle → s.port.mode ≠ .inService → refused .outOfService) ∧
      (serves → s.link.lend ≠ none → refused .linkLent) ∧
      (unlent → 496 ≤ s.journal.records.length → refused .journalFull) ∧
      (room → q.payment = .coins → (periph (valAddr p) s).state ≠ .online → refused .noCoins) ∧
      (coins → q.medium = .paper → ¬ PrinterServes s → refused .printerUnavailable) ∧
      (QuoteOpen p q s →
        (∀ r, stage1 s.fare.live s.fare.clock q = some r → refused r) ∧
        (∀ r, readsCard q = false → stage1 s.fare.live s.fare.clock q = none →
          priceQuote s.fare.live s.fare.clock s.cash.unit q none = .error r → refused r) ∧
        (readsCard q = true → stage1 s.fare.live s.fare.clock q = none →
          ((∀ e, (entry e s).state ≠ .free) → refused .cardWritesBlocked) ∧
          (∀ e, (entry e s).state = .free → (periph (cardAddr p) s).state ≠ .online → refused .noCard))))

/-- A QUOTE that reads a card reserves the lowest FREE entry for its session, enters READING, starts the card-wait timer and
makes a DETECT ready; the answer waits for the read (R76, R105). Which FREE entry is taken is the model's choice (log 36),
as are the creation time of the RESERVED entry, day 0, 0:00:00 (log 89), and that the SESSION notice is queued before one of
a CONTENTION (log 91). That the module's due poll is withdrawn is read from the spec (log 49), and `busy` is the model's
operand (log 15). -/
def Obligations.QuoteBeginsRead : Prop :=
  ∀ (tag : Byte) (p : Position) (q : QuoteReq) (e : Fin 4) (busy : Bool) (s : State),
    takes (.quote tag (some p) q busy) s = true → QuoteOpen p q s →
    readsCard q = true → stage1 s.fare.live s.fare.clock q = none →
    (entry e s).state = .free → (∀ i : Fin 4, i.val < e.val → (entry i s).state ≠ .free) →
    (periph (cardAddr p) s).state = .online →
    let n := (sess p s).serial + 1
    exec (.quote tag (some p) q busy) s = .next (settle busy (notify 0 (.session p .reading .quote)
      { takeFrame s with
        sales := { s.sales with sess := s.sales.sess.set p { Session.idle n with
          tag := tag, state := .reading, req := some q, entry := some e,
          cardWait := some s.sales.timing.cardWait } }
        cards := { s.cards with
          entries := vset s.cards.entries e { PendingEntry.free with state := .reserved, owner := some (p, n) }
          reads := s.cards.reads.set p .detecting }
        link := { s.link with
          periph := vset s.link.periph (addrIndex (cardAddr p)) { periph (cardAddr p) s with pollDue := none }
          cardReady := s.link.cardReady ++ [⟨p, s.port.moment, .detect n false⟩] } }))

/-- A PAY in coins of a quote with a price enters COLLECTING with the cash price due, no credit and the inactivity timer
started, and a PAPER sale has the lowest FREE print slot reserved; the checks of a PAY, the first failing one refusing it
with nothing else changed (R48, R107, R108, R135). That a position other than A and B is refused RANGE is read from the spec
(log 34), and `busy` is the model's operand (log 15). That the masks are recomputed once, after all else, and that the
SESSION notice is queued before their CREDIT notices are the model's choice (logs 12 and 91). -/
def Obligations.PayEntersCollecting : Prop :=
  (∀ (tag : Byte) (p : Position) (q : QuoteReq) (r : QuoteResult) (busy : Bool) (s : State),
     takes (.pay tag (some p) .coins busy) s = true →
     (sess p s).state = .quoted → s.port.mode = .inService → (sess p s).req = some q → (sess p s).result = some r →
     r.free = false → (periph (valAddr p) s).state = .online →
     let paid : Session := { sess p s with
       state := .collecting, quoteLife := none, payment := some .coins, due := r.cash, credit := 0,
       inactivity := some s.sales.timing.inactivity }
     let resv := s.change.resv.set p { Reserve.start with mode := .cover }
     (q.medium = .card →
       exec (.pay tag (some p) .coins busy) s = .next (settle busy (masks none (notify 0 (.session p .collecting .pay)
         (enqueue ⟨0, tag, 2, .ok, .empty, none⟩
           { takeFrame s with
             sales := { s.sales with sess := s.sales.sess.set p paid }
             change := { s.change with resv := resv } }))))) ∧
     (∀ i : Fin 8, q.medium = .paper → PrinterServes s → slotOf i s = .free →
       (∀ k : Fin 8, k.val < i.val → slotOf k s ≠ .free) →
       exec (.pay tag (some p) .coins busy) s = .next (settle busy (masks none (notify 0 (.session p .collecting .pay)
         (enqueue ⟨0, tag, 2, .ok, .empty, none⟩
           { takeFrame s with
             sales := { s.sales with sess := s.sales.sess.set p { paid with slot := some i } }
             change := { s.change with resv := resv }
             print := { s.print with slots := vset s.print.slots i (.reserved p) } })))))) ∧
  (∀ (tag : Byte) (p : Position) (pay : Payment) (q : QuoteReq) (r : QuoteResult) (busy : Bool) (s : State),
     (takes (.pay tag none pay busy) s = true →
       exec (.pay tag none pay busy) s = .next (answeredOnly 0 tag 2 .range .empty (takeFrame s))) ∧
     (takes (.pay tag (some p) pay busy) s = true →
       let refused (c : Result) :=
         exec (.pay tag (some p) pay busy) s = .next (answeredOnly 0 tag 2 c .empty (takeFrame s))
       let serves := (sess p s).state = .quoted ∧ s.port.mode = .inService ∧ (sess p s).req = some q ∧
         (sess p s).result = some r
       let named := serves ∧ (pay = .storedValue → q.payment = .storedValue)
       ((sess p s).state ≠ .quoted → refused .state) ∧
       ((sess p s).state = .quoted → s.port.mode ≠ .inService → refused .outOfService) ∧
       (serves → pay = .storedValue → q.payment = .coins → refused .state) ∧
       (named → pay = .coins → 0 < r.price → (periph (valAddr p) s).state ≠ .online → refused .noCoins) ∧
       (named → (pay = .coins → 0 < r.price → (periph (valAddr p) s).state = .online) → q.medium = .paper →
         (¬ PrinterServes s ∨ ∀ i, slotOf i s ≠ .free) → refused .printerUnavailable)))

/-- A PAY from stored value for a CARD sale with a price takes no money: the session enters ISSUING, the reserved entry
becomes WRITING with the sale's delta, and the WRITE of the image built from the held image is made ready (R89, R108, R113).
A pass sale carries no top-up amount (R86). That the creation time is that of the hand-over to the device link is read from
the spec (log 54), and `busy` is the model's operand (log 15). That the masks are recomputed once, after all else, and that
the SESSION notice is queued before their CREDIT notices are the model's choice (logs 12 and 91). -/
def Obligations.PayByCardAsksForTheWrite : Prop :=
  ∀ (tag : Byte) (p : Position) (q : QuoteReq) (r : QuoteResult) (c : CardQuote) (img : CardImage) (e : Fin 4) (busy : Bool)
    (s : State),
    takes (.pay tag (some p) .storedValue busy) s = true →
    (sess p s).state = .quoted → s.port.mode = .inService → (sess p s).req = some q → q.payment = .storedValue →
    q.medium = .card → (sess p s).result = some r → r.free = false → 0 < r.price → r.card = some c → c.topUp = none →
    (sess p s).held = some img → (sess p s).entry = some e →
    (∀ i, i ≠ e → (entry i s).state = .free ∨ (entry i s).card ≠ some img.id) →
    (periph (cardAddr p) s).state = .online →
    let d := saleDelta { sess p s with payment := some .storedValue }
    let w := writeImage s.fare.live.params.ceiling d img
    let writing : PendingEntry :=
      { state := .writing, owner := some (p, (sess p s).serial), card := some img.id, before := img.counter, delta := d,
        customer := r.price, created := clockStamp s.fare.clock, excess := w.2 }
    d.value = - (r.price : Int) ∧ d.topUp = none ∧ d.block = false ∧
    exec (.pay tag (some p) .storedValue busy) s = .next (settle busy (masks none (notify 0 (.session p .issuing .pay)
      (enqueue ⟨0, tag, 2, .ok, .empty, none⟩
        { takeFrame s with
          sales := { s.sales with sess := s.sales.sess.set p { sess p s with
            state := .issuing, stage := .cardWrite, quoteLife := none, inactivity := none,
            payment := some .storedValue, due := 0 } }
          cards := { s.cards with entries := vset s.cards.entries e writing }
          link := { s.link with cardReady := s.link.cardReady ++
            [⟨p, s.port.moment, .write ⟨e, .sale, img.counter, w.1, w.2⟩⟩] } }))))

/-- Every image a write carries has the balance brought within 0 and the ceiling, with what lies above it cut off, a
transaction counter one above the counter read, and the pass and the block of its delta (R89). -/
def Obligations.WrittenImage : Prop :=
  ∀ (ceiling : Nat) (d : Delta) (x : CardImage),
    let w := writeImage ceiling d x
    w.1.balance ≤ ceiling ∧ w.1.counter = x.counter + 1 ∧ w.1.id = x.id ∧ w.1.kind = x.kind ∧ w.1.cls = x.cls ∧
    (0 ≤ (x.balance : Int) + d.value → (w.1.balance : Int) + w.2 = x.balance + d.value ∧ (0 < w.2 → w.1.balance = ceiling)) ∧
    ((x.balance : Int) + d.value < 0 → w.1.balance = 0 ∧ w.2 = 0) ∧
    w.1.status = (if d.block then .blocked else x.status) ∧
    w.1.slot0 = (match d.pass with | some (0, y) => some y | _ => x.slot0) ∧
    w.1.slot1 = (match d.pass with | some (1, y) => some y | _ => x.slot1) ∧
    (d.topUp = none → w.1.topDay = x.topDay ∧ w.1.dayTotal = x.dayTotal) ∧
    (∀ a, d.topUp = some ⟨none, a⟩ → w.1.topDay = x.topDay ∧ w.1.dayTotal = x.dayTotal + a) ∧
    (∀ y a, d.topUp = some ⟨some y, a⟩ →
      w.1.topDay = y ∧ w.1.dayTotal = (if x.topDay = y then x.dayTotal else 0) + a)

/-- What the end of a session releases: its reservations, its print slot, its entries, its read, its held image and its
timers. CANCEL by state: refused in IDLE and too late from ISSUING on; in READING, QUOTED and a COLLECTING that has taken
nothing the session ends; a COLLECTING that has taken or accepted coins is refunded, and waits while a coin is outstanding
(R51, R78, R88, R110, R121, R124). Read from the spec are the order of a CANCEL's answer and a QUOTE's (log 16), RANGE for a
position other than A and B (log 34) and the withdrawal of a read's unsent commands (log 49); `busy` is the model's operand
(log 15). That the masks are recomputed once, after all else, and that the SESSION notice is queued before their CREDIT
notices are the model's choice (logs 12 and 91). -/
def Obligations.CancelByState : Prop :=
  (∀ (p : Position) (reason : EndReason) (s : State),
     release p reason s = notify 0 (.session p .idle (.ended reason))
       { s with
         sales := { s.sales with sess := s.sales.sess.set p (Session.idle (sess p s).serial) }
         change := { s.change with resv := s.change.resv.set p Reserve.start }
         print := { s.print with slots := vmap (fun x => if x = .reserved p then .free else x) s.print.slots }
         cards := { s.cards with
           entries := vmap (fun x =>
             if x.owner = some (p, (sess p s).serial) then
               (if x.state = .reserved then PendingEntry.free else { x with owner := none })
             else x) s.cards.entries
           reads := s.cards.reads.set p .none }
         link := { s.link with cardReady := s.link.cardReady.filter (fun f =>
           !(decide (f.pos = p) && isReadCmd f.cmd)) } }) ∧
  (∀ (tag : Byte) (p : Position) (busy : Bool) (s : State),
     (takes (.cancel tag none busy) s = true →
       exec (.cancel tag none busy) s = .next (answeredOnly 0 tag 3 .range .empty (takeFrame s))) ∧
     (takes (.cancel tag (some p) busy) s = true →
       let ok := enqueue ⟨0, tag, 3, .ok, .empty, none⟩ (takeFrame s)
       let now := exec (.cancel tag (some p) busy) s
       let ended (t : State) := Host.Outcome.next (settle busy (masks none (release p .cancelled t)))
       ((sess p s).state = .idle → now = .next (answeredOnly 0 tag 3 .state .empty (takeFrame s))) ∧
       ((sess p s).state = .issuing ∨ (sess p s).state = .payingOut ∨ (sess p s).state = .refunding →
         now = .next (answeredOnly 0 tag 3 .tooLate .empty (takeFrame s))) ∧
       ((sess p s).state = .reading → now = ended (enqueue ⟨0, (sess p s).tag, 1, .state, .empty, none⟩ ok)) ∧
       ((sess p s).state = .quoted → now = ended ok) ∧
       ((sess p s).state = .collecting → (sess p s).credit = 0 → pledged p s = 0 → now = ended ok) ∧
       ((sess p s).state = .collecting → currentList p s ≠ [] → 0 < pledged p s →
         now = .next (settle busy (masks none (refundWaits p .cancelled ok))))))

/-- A cancelled session with credit and no coin outstanding is refunded at once: its credit is planned, the plan is held, and
the first DISPENSE of at most 25 coins goes to the changer. With the changer not ONLINE nothing of it is paid: the session closes
with a REFUND record that owes all of it, and the totals rise by that record's figures (R57, R61, R110, R121, R125, R156). -/
def Obligations.CancelPaysTheRefund : Prop :=
  ∀ (tag : Byte) (p : Position) (busy : Bool) (s : State), takes (.cancel tag (some p) busy) s = true →
    (∀ t k rest, RefundPayable p t k rest s →
      ∃ u, exec (.cancel tag (some p) busy) s = .next u ∧ RefundBegun p .cancelled t k rest s u) ∧
    (RefundUnpayable p s → ∃ u, exec (.cancel tag (some p) busy) s = .next u ∧ RefundOwed p .cancelled s u)

/-- TOUCH starts the timer of a QUOTED or COLLECTING session again from its full period, and is refused in every other state
(R111). -/
def Obligations.TouchRestartsTimers : Prop :=
  ∀ (tag : Byte) (p : Position) (s : State), takes (.touch tag (some p)) s = true →
    ((sess p s).state = .quoted →
      exec (.touch tag (some p)) s = .next (answeredOnly 0 tag 4 .ok .empty { takeFrame s with
        sales := { s.sales with sess := s.sales.sess.set p { sess p s with
          quoteLife := some s.sales.timing.quoteLife } } })) ∧
    ((sess p s).state = .collecting →
      exec (.touch tag (some p)) s = .next (answeredOnly 0 tag 4 .ok .empty { takeFrame s with
        sales := { s.sales with sess := s.sales.sess.set p { sess p s with
          inactivity := some s.sales.timing.inactivity } } })) ∧
    ((sess p s).state ≠ .quoted → (sess p s).state ≠ .collecting →
      exec (.touch tag (some p)) s = .next (answeredOnly 0 tag 4 .state .empty (takeFrame s)))

/-! ### Banks, cash tables and tubes -/

/-- LOAD_TABLE and CLEAR_STAGED: refused while an activation is pending; otherwise the staged bank alone changes, and the
answer carries its new check value; a load that fails a check changes nothing (R199, R200, R201). -/
def Obligations.BankLoading : Prop :=
  ∀ (tag : Byte) (table index : Nat) (body : List Byte) (s : State),
    (takes (.loadTable tag table index body) s = true →
      (s.fare.act ≠ none →
        exec (.loadTable tag table index body) s =
          .next (answeredOnly 1 tag 1 .activationPending .empty (takeFrame s))) ∧
      (∀ r, s.fare.act = none → loadInto table index body s.fare.staged = .error r →
        exec (.loadTable tag table index body) s = .next (answeredOnly 1 tag 1 r .empty (takeFrame s))) ∧
      (∀ b, s.fare.act = none → loadInto table index body s.fare.staged = .ok b →
        exec (.loadTable tag table index body) s = .next (answeredOnly 1 tag 1 .ok (.check (bankCheck b))
          { takeFrame s with fare := { s.fare with staged := b } }))) ∧
    (takes (.clearStaged tag) s = true →
      (s.fare.act ≠ none →
        exec (.clearStaged tag) s = .next (answeredOnly 1 tag 2 .activationPending .empty (takeFrame s))) ∧
      (s.fare.act = none →
        exec (.clearStaged tag) s = .next (answeredOnly 1 tag 2 .ok (.check (bankCheck clearedBank))
          { takeFrame s with fare := { s.fare with staged := clearedBank } })))

/-- Each of a bank's nine tables read out in the layout LOAD_TABLE takes loads into another bank as it is: the fare matrix, the
products, the classes, the time bands, the fare ceiling, the card parameters, each template, the pass table and the event table.
Cash tables in their ranges read back from their 163 bytes, which pass CASH_CONFIG's check of the ranges (R199, R200, R207,
section 9.7). That a product's flags byte keeps two bits is the model's choice (log 71). -/
def Obligations.TablesLoadAsRead : Prop :=
  (∀ b c : Bank,
    let loads (table index : Nat) (d : Bank) := ∃ bs, tableBytes b table index = some bs ∧ loadInto table index bs c = .ok d
    ((∀ i, vget b.matrix i < 65536) → loads 1 0 { c with matrix := b.matrix }) ∧
    ((∀ i, let x := vget b.products i
        x.name.length = 20 ∧ x.mult ≤ 2048 ∧ x.flat < 65536 ∧ x.days < 256 ∧
        (x.kind = .period → 1 ≤ x.days ∧ x.days ≤ 31)) → loads 2 0 { c with products := b.products }) ∧
    ((∀ i, (vget b.classes i).factor ≤ 1024 ∧ (vget b.classes i).name.length = 12) →
      loads 3 0 { c with classes := b.classes }) ∧
    ((∀ i, (vget b.bands i).days.toNat < 128 ∧ (vget b.bands i).start ≤ 1439 ∧ 1 ≤ (vget b.bands i).stop ∧
        (vget b.bands i).stop ≤ 1440 ∧ (vget b.bands i).factor < 65536) → loads 4 0 { c with bands := b.bands }) ∧
    (b.ceiling < 65536 → loads 5 0 { c with ceiling := b.ceiling }) ∧
    (b.params.ceiling ≤ 500000 → b.params.topMin ≤ 500000 → b.params.topMax ≤ 500000 → b.params.topStep ≤ 500000 →
      b.params.daily ≤ 500000 → loads 6 0 { c with params := b.params }) ∧
    (∀ i : Fin 8, (vget b.templates i).money ≤ 3 → (vget b.templates i).lines.length ≤ 12 →
      (∀ l ∈ (vget b.templates i).lines, LineFits l) →
      loads 7 i.val { c with templates := vset c.templates i (vget b.templates i) }) ∧
    (b.pass.length ≤ 64 →
      b.pass.Pairwise (fun x y => PeriphKind.code x.kind * 256 + x.code.toNat < PeriphKind.code y.kind * 256 + y.code.toNat) →
      loads 8 0 { c with pass := b.pass }) ∧
    (b.events.length ≤ 64 → (∀ x ∈ b.events, x.cls ≤ 3) →
      b.events.Pairwise (fun x y => PeriphKind.code x.kind * 256 + x.code.toNat < PeriphKind.code y.kind * 256 + y.code.toNat) →
      loads 9 0 { c with events := b.events })) ∧
  (∀ t : CashTables, CashFits t →
    (cashBytes t).length = 163 ∧ cashOf (cashBytes t) = t ∧ cashInRange (cashBytes t) = true)

/-- STAGED_CHECK, READ_TABLE, READ_TOTALS, READ_JOURNAL and READ_STATUS answer and change nothing else (R152, R158, R198,
R200, R201). A READ_JOURNAL gives the oldest records, n of them, all, or as many as fit in the answer body. That an empty journal's oldest number is the next number is the model's choice (log 72). How many records fit into
one READ_JOURNAL answer, and the revision, are free values (logs 10 and 11). -/
def Obligations.ReadsChangeNothing : Prop :=
  ∀ (tag : Byte) (s : State),
    (takes (.stagedCheck tag) s = true →
      exec (.stagedCheck tag) s = .next (answeredOnly 1 tag 3 .ok
        (.staged (bankCheck s.fare.staged) (s.fare.act.map (fun a => (a.day, a.minute)))) (takeFrame s))) ∧
    (∀ (src : TableSource) (table index : Nat), takes (.readTable tag src table index) s = true →
      (readTableBytes src table index s = none →
        exec (.readTable tag src table index) s = .next (answeredOnly 1 tag 4 .range .empty (takeFrame s))) ∧
      (∀ bs, readTableBytes src table index s = some bs →
        exec (.readTable tag src table index) s = .next (answeredOnly 1 tag 4 .ok (.table bs) (takeFrame s)))) ∧
    (∀ n : Nat, takes (.readJournal tag n) s = true →
      (n < 1 ∨ 64 < n →
        exec (.readJournal tag n) s = .next (answeredOnly 1 tag 14 .range .empty (takeFrame s))) ∧
      (1 ≤ n → n ≤ 64 →
        ∃ rs, exec (.readJournal tag n) s = .next (answeredOnly 1 tag 14 .ok
            (.journal s.journal.records.length s.journal.notWritten rs) (takeFrame s)) ∧
          rs <+: s.journal.records ∧ rs.length ≤ n ∧
          (let bytes (l : List Record) : Nat := (l.map (fun r => 14 + kindLength r.body)).sum
           bytes rs ≤ 1024 - Config.readJournalHead ∧
           (rs = s.journal.records ∨ rs.length = n ∨ ∃ r, rs ++ [r] <+: s.journal.records ∧
             1024 - Config.readJournalHead < bytes (rs ++ [r]))))) ∧
    (takes (.readTotals tag) s = true →
      ∃ r, exec (.readTotals tag) s = .next (answeredOnly 1 tag 16 .ok (.totals r) (takeFrame s)) ∧
        r.running = s.journal.running ∧ r.latchCount = s.journal.latchCount ∧ r.notWritten = s.journal.notWritten ∧
        r.since.valueIn = s.journal.running.valueIn - s.journal.latched.valueIn ∧
        (∀ i, vget r.since.coinsIn i = vget s.journal.running.coinsIn i - vget s.journal.latched.coinsIn i) ∧
        r.tubes = s.change.tubes ∧ r.parityErrors = s.change.parityErrors ∧ r.printed = s.print.printed ∧
        r.failed = s.print.failed ∧ r.notesLost = s.print.notesLost ∧
        (∀ p, r.rejects.get p = (lane p s).rejects ∧
          r.returned.get p = ((lane p s).returnedLate, (lane p s).returnedFailed))) ∧
    (takes (.readStatus tag) s = true →
      ∃ r, exec (.readStatus tag) s = .next (answeredOnly 1 tag 25 .ok (.status r) (takeFrame s)) ∧
        r.vendor = 0x5A ∧ r.part = 0x0220 ∧ r.mode = s.port.mode ∧ r.doorOpen = s.port.doorOpen ∧
        r.lastStart = s.journal.lastStart ∧ (∀ p, r.sessions.get p = (sess p s).state) ∧
        (∀ a, vget r.periph (addrIndex a) =
          ⟨(periph a s).state, (periph a s).revision, (periph a s).flags, (periph a s).counters⟩) ∧
        r.overrun = s.link.overrun ∧ (s.journal.records = [] → r.oldest = s.journal.next) ∧
        (∀ x xs, s.journal.records = x :: xs → r.oldest = x.seq) ∧ r.records = s.journal.records.length ∧ r.next = s.journal.next ∧
        r.notWritten = s.journal.notWritten ∧ r.nextNotice = s.port.nextNotice ∧ r.lost = s.port.lost ∧
        r.counters = (takeFrame s).port.counters ∧ r.clock = s.fare.clock ∧ r.liveCheck = s.fare.liveCheck ∧
        r.act = s.fare.act.map (fun a => (a.day, a.minute)) ∧ r.lend = s.link.lend.map (fun d => (d.addr, d.phase)) ∧
        r.deny = s.cards.deny.length)

/-- ACTIVATE: its four checks in order; a time that is NOW or has come swaps the banks at once with a TABLE_ACTIVATED record
and an ACTIVATION notice, LATE before the current minute; a later time becomes pending. CANCEL_ACTIVATION (R202, R204,
R205). That the JOURNAL_LEVEL notice of the record is queued before the ACTIVATION notice is the model's choice (log 91). -/
def Obligations.ActivationRequests : Prop :=
  ∀ (tag : Byte) (check : BitVec 16) (s : State),
    let refused (time : ActTime) (r : Result) (b : AnswerBody) := takes (.activate tag check time) s = true →
      exec (.activate tag check time) s = .next (answeredOnly 1 tag 5 r b (takeFrame s))
    let swapped (time : ActTime) (late : Bool) := takes (.activate tag check time) s = true →
      exec (.activate tag check time) s = .next (answeredOnly 1 tag 5 .ok (.swapped late)
        (notify 2 (.activation check time late) (append none (.tableActivated check time late)
          { takeFrame s with fare := { s.fare with
            live := s.fare.staged, staged := s.fare.live, liveCheck := check, act := none } })))
    let passes := bankCheck s.fare.staged = check ∧ consistency s.fare.staged s.cash.unit = none
    ((∀ d m, 1439 < m → refused (.day d m) .range .empty) ∧
      (∀ d m, m ≤ 1439 → s.fare.clock.valid = false → refused (.day d m) .timeNotSet .empty) ∧
      (∀ time, (∀ d m, time = .day d m → m ≤ 1439 ∧ s.fare.clock.valid = true) → bankCheck s.fare.staged ≠ check →
        refused time .checkMismatch (.check (bankCheck s.fare.staged))) ∧
      (∀ time n t, (∀ d m, time = .day d m → m ≤ 1439 ∧ s.fare.clock.valid = true) → bankCheck s.fare.staged = check →
        consistency s.fare.staged s.cash.unit = some (n, t) → refused time .badTable (.badTable n t)) ∧
      (passes → swapped .now false) ∧
      (∀ d m, m ≤ 1439 → s.fare.clock.valid = true → passes →
        d * 1440 + m = s.fare.clock.day * 1440 + s.fare.clock.minute → swapped (.day d m) false) ∧
      (∀ d m, m ≤ 1439 → s.fare.clock.valid = true → passes →
        d * 1440 + m < s.fare.clock.day * 1440 + s.fare.clock.minute → swapped (.day d m) true) ∧
      (∀ d m, m ≤ 1439 → s.fare.clock.valid = true → passes →
        s.fare.clock.day * 1440 + s.fare.clock.minute < d * 1440 + m → takes (.activate tag check (.day d m)) s = true →
        exec (.activate tag check (.day d m)) s = .next (answeredOnly 1 tag 5 .ok .scheduled
          { takeFrame s with fare := { s.fare with act := some ⟨d, m, check⟩ } }))) ∧
    (takes (.cancelActivation tag) s = true →
      (s.fare.act = none → exec (.cancelActivation tag) s = .next (answeredOnly 1 tag 6 .state .empty (takeFrame s))) ∧
      (s.fare.act ≠ none →
        exec (.cancelActivation tag) s = .next (answeredOnly 1 tag 6 .ok .empty
          { takeFrame s with fare := { s.fare with act := none } })))

/-- CASH_CONFIG: a body of another length, or outside SERVICE_OPEN, or out of range, is refused; one that passes its checks
replaces the coin table, U, the box limit and every tube's configuration, and leaves counts and accounts (R70, R207).
That a STRICT byte other than 0 or 1 is out of range is the model's choice (log 79). -/
def Obligations.CashConfigReplacesTables : Prop :=
  ∀ (tag : Byte) (body : List Byte) (busy : Bool) (s : State), takes (.cashConfig tag body busy) s = true →
    let refused (r : Result) := exec (.cashConfig tag body busy) s = .next (answeredOnly 1 tag 7 r .empty (takeFrame s))
    let g (i : Fin 6) : TubeConfig := vget (cashOf body).tubes i
    let used (i : Fin 6) : Prop := ∃ c, (g i).ctype = some c ∧ 0 < (vget (cashOf body).types c).value
    let steps (u : Nat) : Prop := s.fare.live.params.topStep % u = 0 ∧
      (s.fare.act ≠ none → s.fare.staged.params.topStep % u = 0)
    let keeps (i : Fin 6) : Prop := (tube i s).count = 0 ∨ ((g i).ctype = (tube i s).ctype ∧
      ∀ c, (tube i s).ctype = some c → (vget (cashOf body).types c).value = (coinType c s).value)
    (body.length ≠ 163 → refused .badLength) ∧
    (body.length = 163 → s.port.mode ≠ .serviceOpen → refused .protectedReq) ∧
    (body.length = 163 → s.port.mode = .serviceOpen →
      (cashInRange body = false → refused .range) ∧
      (cashInRange body = true →
        (¬ steps (cashOf body).unit → refused .tableConflict) ∧
        (steps (cashOf body).unit → (∃ i, ¬ keeps i) → refused .state) ∧
        (steps (cashOf body).unit → (∀ i, keeps i) → (∃ i, (g i).capacity < (tube i s).count) → refused .range) ∧
        (steps (cashOf body).unit → (∀ i, keeps i) → (∀ i, (tube i s).count ≤ (g i).capacity) →
          ∃ t, exec (.cashConfig tag body busy) s = .next t ∧
            t.cash = { types := (cashOf body).types, unit := (cashOf body).unit, limit := (cashOf body).limit } ∧
            (∀ i, (tube i t).ctype = (g i).ctype ∧ (tube i t).capacity = (g i).capacity ∧
              (tube i t).perStep = (g i).perStep ∧ (tube i t).tolerance = (g i).tolerance ∧
              (tube i t).count = (tube i s).count ∧ (tube i t).estimate = (tube i s).estimate ∧
              (tube i t).routedIn = (tube i s).routedIn ∧ (tube i t).paidOut = (tube i s).paidOut ∧
              (tube i t).added = (tube i s).added ∧ (tube i t).removed = (tube i s).removed ∧
              (tube i t).writtenOff = (tube i s).writtenOff ∧
              (¬ used i → (tube i t).state = .disabled) ∧
              (used i → (tube i s).state = .disabled → (tube i t).state = .active) ∧
              (used i → (tube i s).state ≠ .disabled → (tube i t).state = (tube i s).state) ∧
              ((tube i s).ctype = (g i).ctype → (tube i s).perStep = (g i).perStep →
                (tube i s).tolerance = (g i).tolerance →
                (tube i t).doubt = (tube i s).doubt ∧ (tube i t).clear = (tube i s).clear) ∧
              ((tube i s).ctype ≠ (g i).ctype ∨ (tube i s).perStep ≠ (g i).perStep ∨
                (tube i s).tolerance ≠ (g i).tolerance → (tube i t).doubt = 0 ∧ (tube i t).clear = 0)) ∧
            t.change.box = s.change.box ∧ t.change.resv = s.change.resv ∧ t.fare = s.fare ∧ t.sales = s.sales ∧
            t.cards = s.cards ∧ t.journal = s.journal)))

/-- TUBE_ADJUST and TUBE_CLEAR: their checks in order, and what a request that passes changes on its tube, with the
TUBE_ADJUST record (R68, R69). `busy` is the model's operand (log 15). That the masks are recomputed once, after all else,
and that the JOURNAL_LEVEL notice of the record is queued before their CREDIT notices are the model's choice (logs 12 and
91). -/
def Obligations.TubeAdjustAndClear : Prop :=
  (∀ (tag : Byte) (k : Nat) (i : Fin 6) (n : Int) (busy : Bool) (s : State),
    let refused (j : Nat) (r : Result) := takes (.tubeAdjust tag j n busy) s = true →
      exec (.tubeAdjust tag j n busy) s = .next (answeredOnly 1 tag 8 r .empty (takeFrame s))
    let sum : Int := (tube i s).count + n
    let held : Int := vget (resv .A s).reserved i + vget (resv .B s).reserved i
    let inRange := -250 ≤ n ∧ n ≤ 250 ∧ n ≠ 0
    let room := 0 ≤ sum ∧ sum ≤ (tube i s).capacity
    (s.port.mode ≠ .serviceOpen → refused k .protectedReq) ∧
    (s.port.mode = .serviceOpen →
      (6 ≤ k → refused k .range) ∧ (¬ inRange → refused i.val .range) ∧
      (inRange → (tube i s).state = .disabled → refused i.val .state) ∧
      (inRange → (tube i s).state ≠ .disabled → ¬ room → refused i.val .range) ∧
      (inRange → (tube i s).state ≠ .disabled → room → n < 0 → sum < held → refused i.val .busy) ∧
      (inRange → (tube i s).state ≠ .disabled → room → (n < 0 → held ≤ sum) → takes (.tubeAdjust tag i.val n busy) s = true →
        exec (.tubeAdjust tag i.val n busy) s = .next (settle busy (masks none
          (enqueue ⟨1, tag, 8, .ok, .count sum.toNat, none⟩ (append none (.tubeAdjust i n sum.toNat)
            (onTube i (fun x => { x with
              count := sum.toNat, doubt := 0, clear := 0,
              added := x.added + BitVec.ofNat 32 n.toNat,
              removed := x.removed + BitVec.ofNat 32 (-n).toNat }) (takeFrame s))))))))) ∧
  (∀ (tag : Byte) (k : Nat) (i : Fin 6) (busy : Bool) (s : State),
    let refused (j : Nat) (r : Result) := takes (.tubeClear tag j busy) s = true →
      exec (.tubeClear tag j busy) s = .next (answeredOnly 1 tag 9 r .empty (takeFrame s))
    (s.port.mode ≠ .serviceOpen → refused k .protectedReq) ∧
    (s.port.mode = .serviceOpen →
      (6 ≤ k → refused k .range) ∧ ((tube i s).state ≠ .jammed → refused i.val .state) ∧
      ((tube i s).state = .jammed → takes (.tubeClear tag i.val busy) s = true →
        exec (.tubeClear tag i.val busy) s = .next (settle busy (masks none (enqueue ⟨1, tag, 9, .ok, .empty, none⟩
          (onTube i (fun x => { x with state := .active, doubt := 0, clear := 0 }) (takeFrame s))))))))

/-! ### The deny list, the journal, the totals and the faults -/

/-- DENY_ADD, DENY_REMOVE, DENY_LOAD and DENY_CLEAR on a list that R80 admits, in every mode and session state; each answer
of DENY_ADD and DENY_REMOVE, the refusal of a full list among them, and each one that changes the list carries the number of
ids then held; membership is found by the binary search over the list (R80, R81, R82). That a chunk of no
ids has a bad length is the model's choice (log 42). -/
def Obligations.DenyListRequests : Prop :=
  (∀ (tag : Byte) (x : CardId) (chunk : List CardId) (s : State), DenyOk s.cards →
     let list (xs : List CardId) (kind : Byte) (unchanged : Bool) :=
       Host.Outcome.next (answeredOnly 1 tag kind .ok (.deny xs.length unchanged)
         { takeFrame s with cards := { s.cards with deny := xs } })
     let refused (kind : Byte) (r : Result) (b : AnswerBody) :=
       Host.Outcome.next (answeredOnly 1 tag kind r b (takeFrame s))
     let deny := s.cards.deny
     let sorted := chunk.Pairwise (fun a b => a.toNat < b.toNat) ∧
       ∀ l c, deny.getLast? = some l → chunk.head? = some c → l.toNat < c.toNat
     (takes (.denyAdd tag x) s = true →
       (x ∈ deny → exec (.denyAdd tag x) s = list deny 10 true) ∧
       (x ∉ deny → 2048 ≤ deny.length → exec (.denyAdd tag x) s = refused 10 .tableFull (.count deny.length)) ∧
       (x ∉ deny → deny.length < 2048 → exec (.denyAdd tag x) s =
         list (deny.filter (fun y => y.toNat < x.toNat) ++ x :: deny.filter (fun y => x.toNat < y.toNat)) 10 false)) ∧
     (takes (.denyRemove tag x) s = true →
       (x ∈ deny → exec (.denyRemove tag x) s = list (deny.filter (fun y => y ≠ x)) 11 false) ∧
       (x ∉ deny → exec (.denyRemove tag x) s = list deny 11 true)) ∧
     (takes (.denyLoad tag chunk) s = true →
       (chunk = [] → exec (.denyLoad tag chunk) s = refused 12 .badLength .empty) ∧
       (chunk ≠ [] → chunk.length ≤ 146 →
         (¬ sorted → exec (.denyLoad tag chunk) s = refused 12 .unsorted .empty) ∧
         (sorted → 2048 < deny.length + chunk.length → exec (.denyLoad tag chunk) s = refused 12 .tableFull .empty) ∧
         (sorted → deny.length + chunk.length ≤ 2048 →
           exec (.denyLoad tag chunk) s = list (deny ++ chunk) 12 false))) ∧
     (takes (.denyClear tag) s = true → exec (.denyClear tag) s = list [] 13 false)) ∧
  (∀ (c : Cards) (x : CardId), DenyOk c → (denied c.deny x = true ↔ x ∈ c.deny))

/-- CONFIRM_JOURNAL measures the number against the newest record: a held one removes every record from the oldest through
it, an older one nothing, a newer one is refused; each answer carries the count and the oldest number then held (R153). -/
def Obligations.ConfirmJournal : Prop :=
  ∀ (tag : Byte) (q : BitVec 32) (s : State), takes (.confirmJournal tag q) s = true → JournalOk s.journal →
    let d := (s.journal.next - 1 - q).toNat
    let count := s.journal.records.length
    let answer (r : Result) (rs : List Record) :=
      Host.Outcome.next (answeredOnly 1 tag 15 r
        (.confirmed rs.length (match rs with | [] => s.journal.next | x :: _ => x.seq))
        { takeFrame s with journal := { s.journal with records := rs } })
    (d < count → exec (.confirmJournal tag q) s = answer .ok (s.journal.records.drop (count - d))) ∧
    (d < count → ∃ r, s.journal.records[count - d - 1]? = some r ∧ r.seq = q) ∧
    (count ≤ d → d < 2147483648 → exec (.confirmJournal tag q) s = answer .ok s.journal.records) ∧
    (2147483648 ≤ d → exec (.confirmJournal tag q) s = answer .range s.journal.records)

/-- CLOSE_SHIFT is refused while a session is not IDLE or the journal holds 496 records or more; otherwise the running totals
are latched, the latch count rises and a SHIFT_CLOSE record carries both (R157). -/
def Obligations.CloseShiftLatches : Prop :=
  ∀ (tag : Byte) (s : State), takes (.closeShift tag) s = true →
    ((∃ p, (sess p s).state ≠ .idle) →
      exec (.closeShift tag) s = .next (answeredOnly 1 tag 17 .busy .empty (takeFrame s))) ∧
    ((∀ p, (sess p s).state = .idle) →
      (496 ≤ s.journal.records.length →
        exec (.closeShift tag) s = .next (answeredOnly 1 tag 17 .journalFull .empty (takeFrame s))) ∧
      (s.journal.records.length < 496 →
        exec (.closeShift tag) s = .next (answeredOnly 1 tag 17 .ok
          (.shift s.journal.next (s.journal.latchCount + 1))
          (append none (.shiftClose (s.journal.latchCount + 1) s.journal.running)
            { takeFrame s with journal := { s.journal with
              latched := s.journal.running, latchCount := s.journal.latchCount + 1 } }))))

/-- A record handed to the journal takes the next number, the clock's time where it is valid, and the place after the newest;
the 384th queues a JOURNAL_LEVEL notice; a full journal counts it as not written and raises JOURNAL_OVERRUN (R147, R149,
R151). -/
def Obligations.RecordsAreAppended : Prop :=
  ∀ (pos : Option Position) (body : RecordBody) (s : State),
    let c := s.fare.clock
    let r : Record :=
      { seq := s.journal.next, pos := pos, day := if c.valid then c.day else 0,
        minute := if c.valid then c.minute else 0, second := if c.valid then c.second else 0,
        timeInvalid := !c.valid, receiptNote := false, slipNote := false, body := body }
    let t : State := { s with journal := { s.journal with
      records := s.journal.records ++ [r], next := s.journal.next + 1 } }
    let full : State := { s with journal := { s.journal with notWritten := s.journal.notWritten + 1 } }
    (s.journal.records.length < 512 → s.journal.records.length ≠ 383 → append pos body s = t) ∧
    (∀ r0 rs, s.journal.records = r0 :: rs → s.journal.records.length = 383 →
      append pos body s = notify 2 (.journalLevel 384 r0.seq s.journal.next) t) ∧
    (512 ≤ s.journal.records.length → s.link.overrun = true → append pos body s = full) ∧
    (512 ≤ s.journal.records.length → s.link.overrun = false →
      append pos body s = notify 1 .journalOverrun { full with link := { s.link with overrun := true } })

/-- ACK_FAULTS clears the flags named; SET_TIME, SET_TIMING, LINK_TIMING and SET_MODE replace what they carry, or are
refused out of range; SET_MODE is refused PROTECTED in SERVICE_OPEN. A SET_TIME that changes the minute and reaches a
pending activation makes it, late when it is past (R1, R3, R101, R170, R183, R197, R204, R205). That a SET_TIME to the same
minute is no change of minute is the model's choice (log 31). That the JOURNAL_LEVEL notice of the record is queued before
the ACTIVATION notice is the model's choice (log 91). -/
def Obligations.SettingRequests : Prop :=
  ∀ (tag : Byte) (s : State),
    (∀ (sets : Vector Flags 6) (overrun : Bool), takes (.ackFaults tag sets overrun) s = true →
      ∃ t, exec (.ackFaults tag sets overrun) s = .next (answeredOnly 1 tag 18 .ok
          (.faults (vmap (·.flags) t.link.periph) t.link.overrun) t) ∧
        t = { takeFrame s with link := { s.link with periph := t.link.periph, overrun := s.link.overrun && !overrun } } ∧
        (∀ a, periph a t = { periph a s with flags := (periph a t).flags } ∧
          ∀ f, flagGet (periph a t).flags f = (flagGet (periph a s).flags f && !flagGet (vget sets (addrIndex a)) f))) ∧
    (∀ (day : BitVec 16) (minute second : Nat), takes (.setTime tag day minute second) s = true →
      let set : Clock := { day := day.toNat, minute := minute, second := second, valid := true }
      let same := s.fare.clock.valid = true ∧ s.fare.clock.day = day.toNat ∧ s.fare.clock.minute = minute
      (1439 < minute ∨ 59 < second →
        exec (.setTime tag day minute second) s = .next (answeredOnly 1 tag 21 .range .empty (takeFrame s))) ∧
      (minute ≤ 1439 → second ≤ 59 →
        (same ∨ ∀ a, s.fare.act = some a → day.toNat * 1440 + minute < a.day * 1440 + a.minute) →
        exec (.setTime tag day minute second) s = .next (answeredOnly 1 tag 21 .ok .empty
          { takeFrame s with fare := { s.fare with clock := set } })) ∧
      (∀ a, minute ≤ 1439 → second ≤ 59 → ¬ same → s.fare.act = some a →
        a.day * 1440 + a.minute ≤ day.toNat * 1440 + minute →
        let late := decide (a.day * 1440 + a.minute < day.toNat * 1440 + minute)
        let check := bankCheck s.fare.staged
        exec (.setTime tag day minute second) s = .next (answeredOnly 1 tag 21 .ok .empty
          (notify 2 (.activation check (.day a.day a.minute) late)
            (append none (.tableActivated check (.day a.day a.minute) late)
              { takeFrame s with fare := { s.fare with
                clock := set, live := s.fare.staged, staged := s.fare.live, liveCheck := check, act := none } }))))) ∧
    (∀ x : SessTiming, takes (.setTiming tag x) s = true →
      (10 ≤ x.quoteLife ∧ x.quoteLife ≤ 300 ∧ 10 ≤ x.inactivity ∧ x.inactivity ≤ 300 ∧ 2 ≤ x.cardWait ∧
          x.cardWait ≤ 30 ∧ 5 ≤ x.tearWindow ∧ x.tearWindow ≤ 300 →
        exec (.setTiming tag x) s = .next (answeredOnly 1 tag 22 .ok .empty
          { takeFrame s with sales := { s.sales with timing := x } })) ∧
      (¬ (10 ≤ x.quoteLife ∧ x.quoteLife ≤ 300 ∧ 10 ≤ x.inactivity ∧ x.inactivity ≤ 300 ∧ 2 ≤ x.cardWait ∧
          x.cardWait ≤ 30 ∧ 5 ≤ x.tearWindow ∧ x.tearWindow ≤ 300) →
        exec (.setTiming tag x) s = .next (answeredOnly 1 tag 22 .range .empty (takeFrame s)))) ∧
    (∀ x : LinkTiming, takes (.linkTiming tag x) s = true →
      (linkTimingInRange x = true → exec (.linkTiming tag x) s = .next (answeredOnly 1 tag 23 .ok .empty
          { takeFrame s with link := { s.link with timing := x } })) ∧
      (linkTimingInRange x = false →
        exec (.linkTiming tag x) s = .next (answeredOnly 1 tag 23 .range .empty (takeFrame s)))) ∧
    (∀ x : Option Mode, takes (.setMode tag x) s = true →
      (s.port.mode = .serviceOpen →
        exec (.setMode tag x) s = .next (answeredOnly 1 tag 24 .protectedReq .empty (takeFrame s))) ∧
      (s.port.mode ≠ .serviceOpen → x = none ∨ x = some .serviceOpen →
        exec (.setMode tag x) s = .next (answeredOnly 1 tag 24 .range .empty (takeFrame s))) ∧
      (∀ m, s.port.mode ≠ .serviceOpen → x = some m → m ≠ .serviceOpen →
        exec (.setMode tag x) s = .next (answeredOnly 1 tag 24 .ok (.mode m)
          { takeFrame s with port := { (takeFrame s).port with mode := m } })))

/-! ### Lending the link, starts, pending writes and pass frames -/

/-- LEND_LINK is checked and granted in one step; RETURN_LINK ends the lend, and no frame of it stays queued; the lend limit
reclaims a lend in phase LENT and does not end it, and the reclaim grace ends it (R184, R186, R187). That an expiry of the
timer that does not run changes nothing is the model's choice (log 4), and `busy` is its operand (log 15). That the masks
are recomputed once, after all else, and that the LINK_RECLAIM notice is queued before their CREDIT notices and before one
of a CONTENTION are the model's choice (logs 12 and 91). -/
def Obligations.LendAndReturn : Prop :=
  (∀ (tag : Byte) (a : Addr) (limit : Nat) (busy : Bool) (s : State),
     let refused (n : Nat) (r : Result) := takes (.lendLink tag n limit busy) s = true →
       exec (.lendLink tag n limit busy) s = .next (answeredOnly 1 tag 19 r .empty (takeFrame s))
     let inRange := 10 ≤ limit ∧ limit ≤ 900
     let quiet := (∀ p, (sess p s).state = .idle ∧ (lane p s).list = [] ∧ (resv p s).waiting = none ∧
         s.link.writeOut.get p = none) ∧ s.change.dispense = none ∧
       (∀ c ∈ s.link.cardReady, ∀ w, c.cmd ≠ .write w) ∧ (∀ age p w, s.link.line ≠ .sending ⟨age, .card p (.write w)⟩)
     (∀ n, n = 0 ∨ 6 < n → refused n .range) ∧
     (¬ inRange → refused (addrNumber a) .range) ∧
     (inRange → s.link.lend ≠ none → refused (addrNumber a) .state) ∧
     (inRange → s.link.lend = none → (periph a s).state ≠ .online → refused (addrNumber a) .peripheralMissing) ∧
     (inRange → s.link.lend = none → (periph a s).state = .online → ¬ quiet → refused (addrNumber a) .busy) ∧
     (inRange → s.link.lend = none → (periph a s).state = .online → quiet →
       takes (.lendLink tag (addrNumber a) limit busy) s = true →
       ∃ t, exec (.lendLink tag (addrNumber a) limit busy) s = .next t ∧ t.link.lend = some ⟨a, limit, .lent⟩ ∧
         (∀ f ∈ t.link.passQueue, f.addr = a) ∧
         t.sales = s.sales ∧ t.fare = s.fare ∧ t.cash = s.cash ∧ t.cards = s.cards ∧ t.journal = s.journal ∧
         t.change = s.change) ∧
     (takes (.returnLink tag busy) s = true →
       (s.link.lend = none →
         exec (.returnLink tag busy) s = .next (answeredOnly 1 tag 20 .state .empty (takeFrame s))) ∧
       (∀ d, s.link.lend = some d →
         ∃ t, exec (.returnLink tag busy) s = .next t ∧ t.link.lend = none ∧
           (∀ f ∈ t.link.passQueue, f.unfiltered = false) ∧ t.fare = s.fare ∧ t.cash = s.cash ∧
           t.cards.deny = s.cards.deny ∧
           (d.addr ≠ .printer → t.sales = s.sales ∧ t.cards = s.cards ∧ t.journal = s.journal ∧
             ((periph d.addr t).announceNext = true ∨ ∃ age, t.link.line = .sending ⟨age, .announce d.addr⟩))))) ∧
  (∀ (s : State) (d : Lend) (busy : Bool), s.power = true → s.link.lend = some d →
     (d.phase = .lent →
       exec (.lendLimitExpiry busy) s = .next (settle busy (masks none (notify 1 (.linkReclaim d.addr .limit false)
         { s with link := { s.link with lend := some { d with phase := .reclaiming .limit } } }))) ∧
       exec (.reclaimGraceExpiry busy) s = .next s) ∧
     (∀ c, d.phase = .reclaiming c →
       exec (.lendLimitExpiry busy) s = .next s ∧
       ∃ t, exec (.reclaimGraceExpiry busy) s = .next t ∧ t.link.lend = none ∧
         (∀ f ∈ t.link.passQueue, f.unfiltered = false) ∧ t.fare = s.fare ∧ t.cash = s.cash ∧
         t.cards.deny = s.cards.deny))

/-- RESTART and a FACTORY_CLEAR that passes its checks are answered OK by an answer that a start waits for; the checks of
FACTORY_CLEAR in order (R163, R164, R192). A frame that matches no request is answered UNKNOWN_REQUEST, or BAD_LENGTH for a
kind its channel has (R190). A frame at the head of the buffer is taken by a request of its own channel, tag, kind and body
alone, and by the refusal of its length only where its body does not fit, which for a CASH_CONFIG is another length than 163; and
every frame at the head is taken by a request or by its refusal. The forms of these commands and the fit of the other bodies are
the model's choice (logs 5 and 43). -/
def Obligations.StartsAndUnknownRequests : Prop :=
  ∀ (tag : Byte) (s : State),
    let asked (kind : Byte) (c : StartCause) := Host.Outcome.next (finish (enqueue ⟨1, tag, kind, .ok, .empty, some c⟩
      { takeFrame s with port := { (takeFrame s).port with startReq := some c } }))
    let refused (r : Result) := takes (.factoryClear tag) s = true →
      exec (.factoryClear tag) s = .next (answeredOnly 1 tag 27 r .empty (takeFrame s))
    let quiet := (∀ p, (sess p s).state = .idle) ∧ s.link.lend = none
    let settled := s.journal.records = [] ∧ ∀ e, (entry e s).state = .free
    (takes (.restart tag) s = true → exec (.restart tag) s = asked 26 .restartRequest) ∧
    ((s.port.mode ≠ .serviceOpen → refused .protectedReq) ∧
      (s.port.mode = .serviceOpen → ¬ quiet → refused .busy) ∧
      (s.port.mode = .serviceOpen → quiet → ¬ settled → refused .state) ∧
      (s.port.mode = .serviceOpen → quiet → settled → takes (.factoryClear tag) s = true → exec (.factoryClear tag) s = asked 27 .factoryClear)) ∧
    (∀ channel kind : Byte, takes (.unknownRequest channel tag kind) s = true →
      (knownKind channel.toNat kind.toNat = false → exec (.unknownRequest channel tag kind) s =
        .next (answeredOnly channel tag kind .unknownRequest .empty (takeFrame s))) ∧
      (knownKind channel.toNat kind.toNat = true → exec (.unknownRequest channel tag kind) s =
        .next (answeredOnly channel tag kind .badLength .empty (takeFrame s)))) ∧
    (∀ f rest, s.port.rx = f :: rest →
      (∀ c channel tag' kind, requestHead c = some (channel, tag', kind) →
        f.channel ≠ channel ∨ f.tag ≠ tag' ∨ f.kind ≠ kind → takes c s = false) ∧
      (∀ channel tag' kind, knownKind f.channel.toNat f.kind.toNat = true → bodyFits f = true →
        takes (.unknownRequest channel tag' kind) s = false) ∧
      (∀ body busy, f.body ≠ body → takes (.cashConfig tag body busy) s = false) ∧
      (f.channel = 1 → f.kind = 7 → (bodyFits f = true ↔ f.body.length = 163)) ∧
      (running s = true → s.port.startReq = none → s.port.answers.length < 16 → ∃ c, takes c s = true))

/-- DISCARD_PENDING frees a TORN entry of the named card that no session owns and records what its write would have done; its
checks in order (R98). -/
def Obligations.DiscardPending : Prop :=
  ∀ (tag : Byte) (x : CardId) (s : State), takes (.discardPending tag x) s = true →
    let refused (r : Result) := exec (.discardPending tag x) s = .next (answeredOnly 1 tag 28 r .empty (takeFrame s))
    let holds (e : Fin 4) := (entry e s).state ≠ .free ∧ (entry e s).card = some x
    (s.port.mode ≠ .serviceOpen → refused .protectedReq) ∧
    (s.port.mode = .serviceOpen → (∀ e, ¬ holds e) → refused .range) ∧
    (∀ e, s.port.mode = .serviceOpen → holds e → (∀ i : Fin 4, i.val < e.val → ¬ holds i) →
      ((entry e s).state ≠ .torn ∨ (entry e s).owner ≠ none → refused .busy) ∧
      ((entry e s).state = .torn → (entry e s).owner = none →
        exec (.discardPending tag x) s = .next (answeredOnly 1 tag 28 .ok .empty
          (onEntry e (fun _ => PendingEntry.free)
            (append none (.discardedPending x (entry e s).before (entry e s).delta.value (entry e s).customer
              (entry e s).created) (takeFrame s))))))

/-- The checks of a pass frame in order, and the four verdicts of the pass table: DROP refuses, PASS queues the frame while
fewer than 8 wait, MERGE stores the enable set of a validator's frame, QUEUE gives the print unit a FREE_TEXT; during a lend
the lent peripheral's frames are queued unfiltered and all others refused. The checks of a FREE_TEXT refuse in their order (R40,
R145, R179, R180). That a FREE_TEXT job has no queue time is the model's choice (log 74), as are the operands for the set and the
lines (log 33) and `busy` (log 15). -/
def Obligations.PassFrames : Prop :=
  ∀ (tag : Byte) (f : PassFrame) (a : Addr) (busy : Bool) (s : State),
    takes (.passFrame tag f busy) s = true →
    let answer (r : Result) (b : AnswerBody) (t : State) :=
      Host.Outcome.next (settle busy (masks none (enqueue ⟨2, tag, 1, r, b, none⟩ t)))
    let queued (unfiltered : Bool) := Host.Outcome.next (settle busy (masks none
      { takeFrame s with link := { s.link with
        passQueue := s.link.passQueue ++ [⟨tag, a, f.code, f.body, unfiltered⟩] } }))
    let now := exec (.passFrame tag f busy) s
    let free := s.link.lend = none ∧ (periph a s).state = .online
    let text : Slot := .waiting
      { kind := .freeText, pos := none, queueNo := s.print.queueNo + 1, time := none, sale := none, seq := none,
        pending := false, tag := tag, lines := f.lines }
    (64 < f.body.length → now = .next (answeredOnly 2 tag 1 .badLength .empty (takeFrame s))) ∧
    (f.body.length ≤ 64 → f.addr = 0 ∨ 6 < f.addr →
      now = .next (answeredOnly 2 tag 1 .range .empty (takeFrame s))) ∧
    (f.body.length ≤ 64 → f.addr = addrNumber a →
      (∀ d, s.link.lend = some d →
        (d.addr ≠ a → now = answer .linkLent .empty (takeFrame s)) ∧
        (d.addr = a → 8 ≤ s.link.passQueue.length → now = answer .busy .empty (takeFrame s)) ∧
        (d.addr = a → s.link.passQueue.length < 8 → now = queued true)) ∧
      (s.link.lend = none → (periph a s).state ≠ .online → now = answer .peripheralMissing .empty (takeFrame s)) ∧
      (free → passVerdict a f.code s = .drop → now = answer .refusedByTable .empty (takeFrame s)) ∧
      (free → passVerdict a f.code s = .pass → 8 ≤ s.link.passQueue.length → now = answer .busy .empty (takeFrame s)) ∧
      (free → passVerdict a f.code s = .pass → s.link.passQueue.length < 8 → now = queued false) ∧
      (∀ p, free → passVerdict a f.code s = .merge → a = valAddr p →
        now = answer .ok .empty (onLane p (fun l => { l with spMask := f.enable }) (takeFrame s))) ∧
      (free → passVerdict a f.code s = .queue → a = .printer →
        let listed := f.lines ≠ [] ∧ f.lines.length ≤ 12 ∧ ∀ l ∈ f.lines, l.length ≤ 48
        let stuck := s.print.last = some .paperOut ∨ s.print.last = some .jammed
        (¬ listed → now = answer .badLength .empty (takeFrame s)) ∧
        (listed → stuck → now = answer .printerUnavailable .empty (takeFrame s)) ∧
        (listed → ¬ stuck → (freeSlots s).length < 3 → now = answer .tableFull .empty (takeFrame s))) ∧
      (∀ i, free → passVerdict a f.code s = .queue → a = .printer → f.lines ≠ [] → f.lines.length ≤ 12 →
        (∀ l ∈ f.lines, l.length ≤ 48) → PrinterServes s → slotOf i s = .free →
        (∀ k : Fin 8, k.val < i.val → slotOf k s ≠ .free) → 3 ≤ (freeSlots s).length →
        now = answer .ok (.queued (s.print.queueNo + 1)) (tryBegin { takeFrame s with print := { s.print with
          queueNo := s.print.queueNo + 1, slots := vset s.print.slots i text } })))

/-! ### Timers -/

/-- The quote-life, card-wait and inactivity timers end their session, or refund it. A COLLECTING that has taken nothing
ends at the inactivity expiry; one with a coin outstanding waits in REFUNDING; one with credit and no coin outstanding has
its refund planned and begun, or, with the changer not ONLINE, owed and recorded (R57, R61, R78, R102, R103, R110, R121,
R125, R156). That an expiry of a timer that does not run changes nothing is the model's choice (log 4), and `busy` is its
operand (log 15). That the masks are recomputed once, after all else, and that the SESSION notice is queued before their
CREDIT notices are the model's choice (logs 12 and 91). -/
def Obligations.SessionTimersEnd : Prop :=
  ∀ (p : Position) (busy : Bool) (s : State), s.power = true →
    ((sess p s).state = .quoted → (sess p s).quoteLife ≠ none →
      exec (.quoteLifeExpiry p busy) s = .next (settle busy (masks none (release p .quoteExpired s)))) ∧
    ((sess p s).state ≠ .quoted ∨ (sess p s).quoteLife = none → exec (.quoteLifeExpiry p busy) s = .next s) ∧
    ((sess p s).state = .reading → (sess p s).cardWait ≠ none →
      exec (.cardWaitExpiry p busy) s = .next (settle busy (masks none (release p .noCard
        (enqueue ⟨0, (sess p s).tag, 1, .noCard, .empty, none⟩ s))))) ∧
    ((sess p s).state ≠ .reading ∨ (sess p s).cardWait = none → exec (.cardWaitExpiry p busy) s = .next s) ∧
    ((sess p s).state = .collecting → (sess p s).inactivity ≠ none →
      ((sess p s).credit = 0 → pledged p s = 0 →
        exec (.inactivityExpiry p busy) s = .next (settle busy (masks none (release p .inactive s)))) ∧
      (0 < pledged p s → currentList p s ≠ [] →
        exec (.inactivityExpiry p busy) s = .next (settle busy (masks none (refundWaits p .inactive s)))) ∧
      (∀ t k rest, RefundPayable p t k rest s →
        ∃ u, exec (.inactivityExpiry p busy) s = .next u ∧ RefundBegun p .inactive t k rest s u) ∧
      (RefundUnpayable p s → ∃ u, exec (.inactivityExpiry p busy) s = .next u ∧ RefundOwed p .inactive s u)) ∧
    ((sess p s).state ≠ .collecting ∨ (sess p s).inactivity = none → exec (.inactivityExpiry p busy) s = .next s)

/-- The tear window's expiry takes the entry's owner away and leaves its state, and the customer value is owed, PENDING. A
session with no coin outstanding and nothing to pay closes with a SALE record that says WRITE_UNRESOLVED; one with a coin
outstanding is held. The totals rise by that record's figures, one unresolved write among them (R116, R123, R125, R156). -/
def Obligations.TearWindowGivesUp : Prop :=
  ∀ (p : Position) (e : Fin 4) (r : QuoteResult) (busy : Bool) (s : State), s.power = true → (sess p s).stage = .torn →
    (sess p s).state = .issuing → (sess p s).tearWindow ≠ none → (sess p s).entry = some e →
    (sess p s).result = some r → r.free = false → (sess p s).refunded = false →
    let owed := (sess p s).owed + (if (sess p s).payment = some .storedValue then r.price else (sess p s).due)
    let ends := (sess p s).payment = some .storedValue ∨ ((sess p s).change = 0 ∧ (sess p s).further = 0)
    (ends → currentList p s ≠ [] →
      ∃ t, exec (.tearWindowExpiry p busy) s = .next t ∧ (sess p t).owed = owed ∧ (sess p t).pending = true ∧
        (sess p t).entry = none ∧ (sess p t).tearWindow = none ∧ (sess p t).stage = .held ∧
        (sess p t).endReason = some .writeUnresolved ∧ (sess p t).state = .issuing ∧
        entry e t = { entry e s with owner := none } ∧ t.journal = s.journal) ∧
    (ends → currentList p s = [] → s.journal.records.length < 512 →
      ∃ t rec x, exec (.tearWindowExpiry p busy) s = .next t ∧ (sess p t).state = .idle ∧
        entry e t = { entry e s with owner := none } ∧
        t.journal.records.length = s.journal.records.length + 1 ∧ t.journal.records.getLast? = some rec ∧
        rec.pos = some p ∧ rec.seq = s.journal.next ∧ rec.body = .sale x ∧ x.reason = .writeUnresolved ∧
        x.pending = true ∧ x.owed = owed ∧ x.price = r.price ∧ x.credit = (sess p s).credit ∧
        ((sess p s).payment = some .storedValue → x.debited = r.price) ∧
        Raised x.changePaid x.refundPaid (x.owed + x.cardOwed) (if (sess p s).write = .done then (sess p s).loaded else 0)
          (if (sess p s).payment = some .storedValue then x.debited - x.creditedBack else 0) none false true
          s.journal.running t.journal.running)

/-- The settle limit drops a coin's entry and raises LOST_COIN: no reject or return reason is counted. A session that goes on
with its coins keeps its credit, with its provisional plan reviewed; one held for its last coin with nothing further to pay, or
with no credit to refund, ends (R35, R36, R121, R123). That a limit of no listed entry changes nothing is the model's choice
(log 4), as is the operand `busy` (log 15). -/
def Obligations.SettleLimitDropsTheCoin : Prop :=
  ∀ (p : Position) (seq : Byte) (busy : Bool) (s : State), s.power = true →
    ((∀ e ∈ (lane p s).list, e.seq ≠ seq) → exec (.settleLimitExpiry p seq busy) s = .next s) ∧
    (∀ e, (lane p s).list.find? (fun y => decide (y.seq = seq)) = some e →
      let off := (lane p s).list.filter (fun x => !decide (x.seq = seq))
      let others := ∃ y ∈ off, y.session = (sess p s).serial
      ∃ t, exec (.settleLimitExpiry p seq busy) s = .next t ∧ (lane p t).list = off ∧
        (periph (valAddr p) t).flags.lostCoin = true ∧
        (lane p t).rejects = (lane p s).rejects ∧ (lane p t).returnedLate = (lane p s).returnedLate ∧
        (lane p t).returnedFailed = (lane p s).returnedFailed ∧ sess p.other t = sess p.other s ∧
        lane p.other t = { lane p.other s with lastMask := (lane p.other t).lastMask } ∧
        ((sess p s).stage ≠ .refundWait ∧ (sess p s).stage ≠ .held ∨ (sess p s).state ≠ .idle ∧ others →
          t.sales = s.sales ∧ t.journal = s.journal ∧ t.change.tubes = s.change.tubes ∧ t.change.box = s.change.box ∧
          t.fare = s.fare ∧ t.cards = s.cards ∧ resv p.other t = resv p.other s ∧
          (current p e s = true → PlanReviewed p off s t) ∧ (current p e s = false → resv p t = resv p s)) ∧
        (¬ others → (sess p s).stage = .held ∧ (sess p s).further = 0 ∨
            (sess p s).stage = .refundWait ∧ (sess p s).credit = 0 →
          (sess p t).state = .idle ∧ resv p t = Reserve.start ∧ t.change.tubes = s.change.tubes))

/-! ### The device link -/

/-- A poll that falls due waits with its age, but not while a lend is in force or a WRITE is held at its module. At a module
with a read, the read's DETECT or READ stands in for it: a command that is ready already takes its place, one that is in its
exchange lets it wait, and when that exchange ends the command sent again has its age. A waiting INHIBIT goes before every
poll. A frame that has been sent is counted and opens its answer window, and a WRITE is outstanding instead, a forwarded one
too. An exchange that ends unanswered raises its peripheral's streak, at most to 255, and its counter; a poll is not repeated,
an INHIBIT stays waiting with the sets it took meanwhile or is withdrawn, and a forwarded frame is answered with no reply, or
with the kind and body of an answer that no other command carries; a frame with a wrong check counts a check error besides
(R41, R77, R90, R165, R166, R169, R171, R173, R174, R176, R180). Read from the spec are the counting of a frame at the end of
its sending (log 18), the age an INHIBIT keeps (log 13) and a poll that falls due during the read's exchange (log 86); a
forwarded WRITE (log 75) and an answer of any kind to an unknown code (log 52) are the model's choice, and `busy` its operand
(log 15). -/
def Obligations.PollsSentAndUnanswered : Prop :=
  (∀ (a : Addr) (busy : Bool) (s : State), s.power = true →
     let waits : State := onPeriph a (fun x => { x with pollDue := some (x.pollDue.getD s.port.moment) }) s
     (s.link.lend ≠ none ∨ (∃ p, a = cardAddr p ∧ writeHeld p s = true) →
       exec (.pollDue a busy) s = .next (settle busy s)) ∧
     (s.link.lend = none → (∀ p, a = cardAddr p → writeHeld p s = false) →
       exec (.pollDue a busy) s = .next (settle busy waits)) ∧
     (∀ p c, a = cardAddr p → s.link.lend = none → writeHeld p s = false → (periph a s).pollDue = none → ReadSends p c s →
       (¬ NoReadReady p s → ∃ t, exec (.pollDue a busy) s = .next t ∧ (periph a t).pollDue = none) ∧
       (NoReadReady p s → s.link.line = .idle →
         ∃ t, exec (.pollDue a busy) s = .next t ∧ (periph a t).pollDue = none ∧ CardWaits p s.port.moment c t) ∧
       (∀ age, NoReadReady p s → s.link.line = .window ⟨age, .card p c⟩ ∨ s.link.line = .sending ⟨age, .card p c⟩ →
         ∃ t, exec (.pollDue a busy) s = .next t ∧ (periph a t).pollDue = some s.port.moment ∧
           NoReadReady p t ∧ t.link.line = s.link.line)) ∧
     (∀ p age m, s.link.line = .idle → eventDue s = false → s.link.verdicts = [] → s.link.inhibit.get p = some (age, m) →
       s.link.inhibit.get p.other = none → ∃ t, exec (.pollDue a false) s = .next t ∧
         t.link.line = .sending ⟨age, .inhibit p m⟩ ∧ t.link.inhibit.get p = none ∧
         t.link.inhibitKept.get p = some (age, m)) ∧
     (∀ r, s.link.line = .sending r → (∀ p w, r.frame ≠ .card p (.write w)) →
       (∀ f, r.frame = .pass f → writeTo f = none) →
       exec (.deviceFrameSent busy) s = .next (finish (onPeriph (frameAddr r.frame) (fun x => { x with
         counters := { x.counters with sent := x.counters.sent + 1 } })
           { s with link := { s.link with line := .window r } }))) ∧
     (∀ age p w, s.link.line = .sending ⟨age, .card p (.write w)⟩ →
       exec (.deviceFrameSent busy) s = .next (settle busy (onPeriph (cardAddr p) (fun x => { x with
         counters := { x.counters with sent := x.counters.sent + 1 } })
           { s with link := { s.link with
             line := .idle, writeOut := s.link.writeOut.set p (some w),
             lastWrite := s.link.lastWrite.set p (some w.image.id) } }))) ∧
     (∀ age p f, s.link.line = .sending ⟨age, .pass f⟩ → f.addr = cardAddr p → f.code = 7 →
       exec (.deviceFrameSent busy) s = .next (settle busy (onPeriph (cardAddr p) (fun x => { x with
         counters := { x.counters with sent := x.counters.sent + 1 } })
           { s with link := { s.link with line := .idle, passWrite := s.link.passWrite.set p (some f) } })))) ∧
  (∀ (r : ReadyFrame) (busy : Bool) (s : State), s.power = true → s.link.line = .window r →
     let count (t : State) := onPeriph (frameAddr r.frame) (fun x => { x with
       streak := min 255 (x.streak + 1)
       counters := { x.counters with unanswered := x.counters.unanswered + 1 }
       missingDue := x.missingDue ||
         (decide (x.state = .online) && decide (s.link.timing.missing ≤ min 255 (x.streak + 1))) })
       { t with link := { t.link with line := .idle } }
     let checked := onPeriph (frameAddr r.frame) (fun x => { x with
       counters := { x.counters with checkErrors := x.counters.checkErrors + 1 } }) s
     (∀ a c, r.frame = .poll a c → a ≠ .changer ∨ s.change.dispense = none →
       exec (.answerTimeout busy) s = .next (settle busy (masks none (count s))) ∧
       (∀ bs, s.resetHeld = false → linkFrameTaken bs = false →
         exec (.deviceFrameDiscarded bs busy) s = .next (settle busy (masks none (count checked))))) ∧
     (∀ p m, r.frame = .inhibit p m → (periph (valAddr p) s).state = .online →
       ∃ t, exec (.answerTimeout busy) s = .next (settle busy (masks none t)) ∧
         t.link.inhibit = s.link.inhibit.set p (s.link.inhibitKept.get p) ∧
         t.link.inhibitKept = s.link.inhibitKept.set p none ∧ t.link.line = .idle ∧
         t.link.periph = (count s).link.periph) ∧
     (∀ p c due, r.frame = .card p c → ReadSends p c s → NoReadReady p s → (periph (cardAddr p) s).pollDue = some due →
       ∃ t, exec (.answerTimeout busy) s = .next t ∧ (periph (cardAddr p) t).pollDue = none ∧ CardWaits p due c t) ∧
     (∀ f, r.frame = .pass f → f.unfiltered = false →
       exec (.answerTimeout busy) s = .next (settle busy (masks none
         (enqueue ⟨2, f.tag, 1, .ok, .reply none, none⟩ (count s)))) ∧
       (∀ kind body, s.resetHeld = false → f.addr ≠ .printer → knowsCode (addrKind f.addr) f.code.toNat = false →
         body.length ≤ 64 → hasCommand f.addr kind.toNat body = false →
         exec (.deviceFrameDiscarded (linkFrameBytes (BitVec.ofNat 8 (addrNumber f.addr)) kind body) busy) s =
           .next (settle busy (masks none
             (enqueue ⟨2, f.tag, 1, .ok, .reply (some (.other kind body)), none⟩ (heard f.addr s)))))))

/-- A peripheral whose streak has reached the threshold becomes MISSING: the fault is raised, its frames of the pass channel are
answered PERIPHERAL_MISSING, and what waited for it is settled: at a validator its verdicts and its INHIBIT are dropped, at a
card module a read in progress ends NO_CARD and a waiting WRITE ends as WRITE_FAILED, at the changer no payout goes on, and at
the printer no job is left. Three polls of the changer unanswered in a row with a DISPENSE outstanding end it as a jam of its
tube with no coin paid (R41, R57, R59, R60, R78, R91, R96, R140, R169). That each event comes as a command that acts only when
it is due is read from the spec (log 14), and that one not due changes nothing is the model's choice (log 4); read from the spec
are the streaks at 0 after the jam (log 44) and the end of a payout whose DISPENSE still waits (log 62). `busy` is the model's
operand (log 15). -/
def Obligations.MissingPeripheral : Prop :=
  (∀ (a : Addr) (busy : Bool) (s : State), s.power = true →
     ((periph a s).state ≠ .online ∨ (periph a s).missingDue = false → exec (.missingThreshold a busy) s = .next s) ∧
     ((periph a s).state = .online → (periph a s).missingDue = true →
       ∃ t, exec (.missingThreshold a busy) s = .next t ∧ (periph a t).state = .missing ∧ (periph a t).flags.missing = true ∧
         (∀ f ∈ t.link.passQueue, f.addr ≠ a) ∧
         (∀ f ∈ s.link.passQueue, f.addr = a → Answering ⟨2, f.tag, 1, .peripheralMissing, .empty, none⟩ t) ∧
         t.fare = s.fare ∧ t.cash = s.cash ∧ t.change.tubes = s.change.tubes ∧
         t.change.box = s.change.box ∧ t.cards.deny = s.cards.deny ∧
         (∀ p, a = valAddr p → t.link.inhibit.get p = none ∧ t.link.inhibitKept.get p = none ∧ t.link.acked.get p = none ∧
           (∀ v ∈ t.link.verdicts, v.pos ≠ p) ∧ t.sales = s.sales) ∧
         (a = .changer → t.change.dispense = none ∧ ∀ p, (resv p t).paying = false) ∧
         (∀ p, a = cardAddr p →
           (∀ c ∈ s.link.cardReady, c.pos = p → isReadCmd c.cmd = true) →
           ((sess p s).state = .reading → (sess p t).state = .idle ∧ readOf p t = .none ∧
             Answering ⟨0, (sess p s).tag, 1, .noCard, .empty, none⟩ t) ∧
           ((sess p s).state ≠ .reading → t.sales = s.sales ∧ t.cards = s.cards)) ∧
         (∀ p c w, a = cardAddr p → s.link.cardReady.filter (fun x => decide (x.pos = p)) = [c] → c.cmd = .write w →
           (w.purpose ≠ .completion → (entry w.entry t).state = .free ∨ (entry w.entry t).state = .reserved) ∧
           (w.purpose = .completion → (entry w.entry t).state = .torn)) ∧
         (a = .printer → (∀ i k j g j' g', slotOf i s = .active j g → slotOf k s = .active j' g' → i = k) →
           (∀ i j, slotOf i t ≠ .waiting j) ∧ (∀ i j g, slotOf i t ≠ .active j g)) ∧
         (∀ i j g, a = .printer → activeJob s = some (i, j, g) → j.kind ≠ .ticket → (∀ k j', slotOf k s ≠ .waiting j') →
           vget t.print.failed (kindIndex j.kind) = vget s.print.failed (kindIndex j.kind) + 1 ∧ t.sales = s.sales ∧
           (0 < g.taken → t.print.void ≠ none)))) ∧
  (∀ (d : Dispense) (busy : Bool) (s : State), s.power = true → s.change.dispense = some d → d.sent = true →
     (periph .changer s).state = .online → (periph .changer s).missingDue = false →
     (s.change.misses < 3 → exec (.dispensePollLimit busy) s = .next s) ∧
     (3 ≤ s.change.misses →
       ∃ t, exec (.dispensePollLimit busy) s = .next t ∧ (tube d.tube t).state = .jammed ∧
         (tube d.tube t).count = (tube d.tube s).count ∧ (tube d.tube t).paidOut = (tube d.tube s).paidOut ∧
         (tube d.tube t).doubt = 0 ∧ (tube d.tube t).clear = 0 ∧ (∀ i, i ≠ d.tube → tube i t = tube i s) ∧
         (periph .changer t).flags.jam = true ∧ t.fare = s.fare ∧ t.cash = s.cash ∧ t.change.box = s.change.box))

/-- A WRITE's answer or its answer timeout ends it: unknown tears its entry, done and not done settle it, and an ERROR
raises MODULE_ERROR. A completion that is not done tears its entry again, and a read that waits on it detects anew; one that
is done leaves a WRITE_RESOLVED record. A credit-back done credits the price back, and one not done or unknown leaves it
owed and waits for nothing: its session is held while a coin is outstanding, or closes with a SALE record. An answer that
matches no WRITE outstanding is discarded, with MODULE_ERROR unless its card is that of the last WRITE. A WRITE forwarded in
a lend is answered to the sale processor, and nothing is counted (R91, R92, R93, R96, R97, R118, R123, R176, R180, R185).
That the record of a session whose credit-back is done carries the balance the credit-back left (log 88), that its excess
over the ceiling is card owed (log 28), that a timeout with no WRITE outstanding changes nothing (log 4), a last WRITE
unknown after a start (log 70) and the forwarded WRITE (log 75) are the model's choice, and `busy` its operand (log 15).
That the masks are recomputed once, after all else, and that the DEVICE_FAULT of MODULE_ERROR is queued before their CREDIT
notices and before one of a CONTENTION are the model's choice (logs 12 and 91). -/
def Obligations.WriteAnswers : Prop :=
  ∀ (p : Position) (w : CardWrite) (card : CardId) (busy : Bool) (s : State), s.power = true → s.resetHeld = false →
    let settled (t : State) : Prop := (entry w.entry t).state = .free ∨ (entry w.entry t).state = .reserved
    (s.link.writeOut.get p = some w →
      (∃ t, exec (.writeAnswerTimeout p busy) s = .next t ∧ t.link.writeOut.get p = none ∧
        (entry w.entry t).state = .torn)) ∧
    (s.link.writeOut.get p = none → s.link.passWrite.get p = none → exec (.writeAnswerTimeout p busy) s = .next s) ∧
    (s.link.line = .idle → s.link.writeOut.get p = some w → w.image.id = card →
      (∃ t, exec (.writeUncertain p card busy) s = .next t ∧ t.link.writeOut.get p = none ∧
        (entry w.entry t).state = .torn) ∧
      (w.purpose ≠ .completion →
        (∃ t, exec (.writeOk p card busy) s = .next t ∧ t.link.writeOut.get p = none ∧ settled t) ∧
        (∀ r, ∃ t, exec (.writeFailed p card r busy) s = .next t ∧ t.link.writeOut.get p = none ∧ settled t ∧
          (r = .error → (periph (cardAddr p) t).flags.moduleError = true))) ∧
      (∀ q, w.purpose = .creditBack → (entry w.entry s).owner = some (p, (sess p s).serial) → (sess p s).state ≠ .idle →
        (sess p s).result = some q → ∃ ok torn, exec (.writeOk p card busy) s = .next ok ∧
          exec (.writeUncertain p card busy) s = .next torn ∧ (entry w.entry torn).owner = none ∧
          (currentList p s ≠ [] →
            let session (x : Session) : Sales := { s.sales with sess := s.sales.sess.set p x }
            let unpaid := { sess p s with owed := (sess p s).owed + q.price, stage := .held }
            ok.sales = session { sess p s with
              creditedBack := q.price, held := some w.image, balanceAfter := some w.image.balance,
              cardOwed := (sess p s).cardOwed + w.excess, stage := .held } ∧
            (entry w.entry ok).state = .reserved ∧ torn.sales = session { unpaid with entry := none } ∧
            ∀ r, ∃ t, exec (.writeFailed p card r busy) s = .next t ∧ t.sales = session unpaid) ∧
          (currentList p s = [] → q.free = false → TicketFailedSale p s →
            TicketFailedClosed p q.price 0 w.excess (some w.image.balance) s ok ∧
            TicketFailedClosed p (sess p s).creditedBack q.price 0 (sess p s).balanceAfter s torn ∧
            ∀ r, ∃ t, exec (.writeFailed p card r busy) s = .next t ∧
              TicketFailedClosed p (sess p s).creditedBack q.price 0 (sess p s).balanceAfter s t)) ∧
      (w.purpose = .completion →
        (∀ r, ∃ t, exec (.writeFailed p card r busy) s = .next t ∧ t.link.writeOut.get p = none ∧
          (entry w.entry t).state = .torn ∧ (readOf p s = .resolving w.entry → readOf p t = .detecting) ∧
          (r = .error → (periph (cardAddr p) t).flags.moduleError = true)) ∧
        ((entry w.entry s).owner = none → readOf p s ≠ .resolving w.entry → s.journal.records.length < 512 →
          ∃ t, exec (.writeOk p card busy) s = .next t ∧ t.link.writeOut.get p = none ∧
            entry w.entry t = PendingEntry.free ∧ t.sales = s.sales ∧
            t.journal.records = s.journal.records ++ [commonPart s.fare.clock s.journal.next (some p)
              (.writeResolved card .completed (entry w.entry s).delta.value w.image.balance w.excess)]))) ∧
    (s.link.line = .idle → (s.link.writeOut.get p = none → s.link.passWrite.get p = none) →
      (∀ x, s.link.writeOut.get p = some x → x.image.id ≠ card) →
      (s.link.lastWrite.get p = some card → exec (.writeOk p card busy) s = .next (settle busy (masks none s))) ∧
      (s.link.lastWrite.get p ≠ some card → exec (.writeOk p card busy) s =
        .next (settle busy (masks none (raiseFault (cardAddr p) .moduleError s))))) ∧
    (∀ f, s.link.writeOut.get p = none → s.link.passWrite.get p = some f → f.unfiltered = true → s.link.lend ≠ none →
      let ended (reply : Option DeviceReply) (t : State) :=
        Host.Outcome.next (settle busy (masks none (enqueue ⟨2, f.tag, 1, .ok, .reply reply, none⟩
          { t with link := { t.link with passWrite := t.link.passWrite.set p none } })))
      exec (.writeAnswerTimeout p busy) s = ended none s ∧
      (s.link.line = .idle →
        exec (.writeOk p card busy) s = ended (some (.writeOk card)) s ∧
        exec (.writeUncertain p card busy) s = ended (some (.writeUncertain card)) s ∧
        (∀ r, exec (.writeFailed p card r busy) s = ended (some (.writeFailed card r)) s)))

/-- A sale's write that is done: a ticketless sale of a pass paid from stored value closes as SOLD, with a SALE record of what
was debited, its price kept, nothing owed and the balance written, and the totals rise by its figures, one sale of its product
among them (R91, R114, R119, R125, R156). -/
def Obligations.WrittenSaleIsSold : Prop :=
  ∀ (p : Position) (w : CardWrite) (q : QuoteReq) (r : QuoteResult) (c : CardQuote) (busy : Bool) (s : State),
    s.power = true → s.resetHeld = false → s.link.line = .idle → s.link.writeOut.get p = some w → w.purpose = .sale →
    w.excess = 0 → (entry w.entry s).owner = some (p, (sess p s).serial) → (sess p s).state = .issuing →
    (sess p s).stage = .cardWrite → (sess p s).req = some q → q.medium = .card → (sess p s).payment = some .storedValue →
    (sess p s).result = some r → r.free = false → r.card = some c → c.topUp = none → w.image.balance ≤ c.balance →
    (sess p s).change = 0 → (sess p s).further = 0 → (sess p s).owed = 0 → (sess p s).cardOwed = 0 →
    (sess p s).refunded = false → currentList p s = [] → s.journal.records.length < 512 →
    ∃ t rec x, exec (.writeOk p w.image.id busy) s = .next t ∧ (sess p t).state = .idle ∧
      t.journal.records.length = s.journal.records.length + 1 ∧ t.journal.records.getLast? = some rec ∧
      rec.pos = some p ∧ rec.seq = s.journal.next ∧ rec.body = .sale x ∧ x.reason = .sold ∧
      x.debited = c.balance - w.image.balance ∧ x.priceKept = r.price ∧ x.balanceAfter = some w.image.balance ∧
      x.owed = 0 ∧ x.card = some c.id ∧ x.product = r.product ∧
      Raised x.changePaid x.refundPaid 0 0 (x.debited - x.creditedBack) (some r.product) false false
        s.journal.running t.journal.running

/-- A poll answer is an answer: the streak ends. A new report is remembered and its events handed on, a repeated one is
counted and its events discarded; a status is taken from both. At the validators, at the changer (the DISPENSE by its busy
state, payouts, gauges, the box switch), at the printer (its status, its flag, a CUT_DONE that ends the job cut or matches
nothing) and at the card modules. RETURN_LEVER acts as a CANCEL of a session that collects, with reason LEVER, and is not
used otherwise. The status in a printer's answer to a forwarded frame of an unknown code is taken too (R58, R59, R62, R67,
R112, R138, R169, R172, R176, R177, R178, R180). That an answer's events come before its status is the model's choice (log
23), as are a report of a jam at or above the commanded count (log 21), the stop at 0 of a tube's count while its paid-out
count takes the whole number (log 64) and an answer of any kind to an unknown code (log 52); a busy changer's DISPENSE is
read from the spec (log 22); `busy` is the model's operand (log 15). That the masks are recomputed once after each event and
at the answer's end (log 12), and that an event's notices are queued in the order SESSION, DEVICE_EVENT, CREDIT of the
masks, with a DEVICE_FAULT it raises before its DEVICE_EVENT (log 91), are the model's choice. -/
def Obligations.PollAnswers : Prop :=
  ∀ (p : Position) (age : Nat) (c : Option Byte) (report : Byte) (busy : Bool) (s : State), running s = true →
    let new (a : Addr) (t : State) := onPeriph a (fun x => { x with lastReport := some report }) (heard a t)
    let repeated (a : Addr) (t : State) := onPeriph a (fun x => { x with
      counters := { x.counters with repeats := x.counters.repeats + 1 } }) (heard a t)
    let done (t : State) := Host.Outcome.next (settle busy (masks none t))
    let fresh (t : State) := onChange (fun x => { x with misses := 0 }) t
    (s.link.line = .window ⟨age, .poll (valAddr p) c⟩ → ∀ es,
      ((periph (valAddr p) s).lastReport ≠ some report →
        exec (.pollAnswer report (.validator p es) busy) s = done (es.foldl (validatorEvent p) (new (valAddr p) s))) ∧
      ((periph (valAddr p) s).lastReport = some report →
        exec (.pollAnswer report (.validator p es) busy) s = done (repeated (valAddr p) s))) ∧
    (let lever := validatorEvent p s .returnLever
     let sorted (r : PartResult) (t : State) := sortEvent (valAddr p) 4 (.validator .returnLever) r t
     ((sess p s).state ≠ .collecting → lever = sorted .notUsed s) ∧
     ((sess p s).state = .collecting → (sess p s).credit = 0 → pledged p s = 0 →
       lever = masks none (sorted .cancelTaken (release p .lever s))) ∧
     ((sess p s).state = .collecting → currentList p s ≠ [] → 0 < pledged p s →
       lever = masks none (sorted .cancelTaken (refundWaits p .lever s))) ∧
     ((sess p s).state = .collecting → currentList p s = [] → 0 < (sess p s).credit → (periph .changer s).state ≠ .online →
       (∀ r, (sess p s).result = some r → r.free = false) → s.journal.records.length < 512 →
       (sess p lever).state = .idle ∧ ∃ x, x.reason = .lever ∧ x.owed = (sess p s).owed + (sess p s).credit ∧
         lever.journal.records.map Record.body = s.journal.records.map Record.body ++ [.refund x])) ∧
    (s.link.line = .window ⟨age, .poll .changer c⟩ →
      (∀ es tb, (periph .changer s).lastReport = some report →
        exec (.pollAnswer report (.changer tb es) busy) s = done (fresh (repeated .changer s))) ∧
      ((periph .changer s).lastReport ≠ some report →
        (∀ tb, exec (.pollAnswer report (.changer (some tb) []) busy) s = done (fresh (new .changer s))) ∧
        (∀ d, s.change.dispense = some d → d.sent = true → d.acked = false →
          exec (.pollAnswer report (.changer none []) busy) s = done (onChange (fun x => { x with
            dispense := some { d with sent := false }, misses := 0 }) (new .changer s))) ∧
        (∀ d, s.change.dispense = some d → d.sent = true → d.acked = true →
          ∃ t, exec (.pollAnswer report (.changer none []) busy) s = .next t ∧ (tube d.tube t).state = .jammed ∧
            (tube d.tube t).count = (tube d.tube s).count ∧ (periph .changer t).flags.jam = true ∧
            (periph .changer t).flags.moduleError = true ∧ ∀ i, i ≠ d.tube → tube i t = tube i s) ∧
        (∀ tb t n d, s.change.dispense = some d → d.sent = true → d.tube = t →
          (∃ u, exec (.pollAnswer report (.changer tb [.payoutDone t n]) busy) s = .next u ∧
            (tube t u).count = (tube t s).count - min n d.count ∧
            (tube t u).paidOut = (tube t s).paidOut + BitVec.ofNat 32 (min n d.count) ∧
            (tube t u).state = (if n < d.count then .jammed else (tube t s).state) ∧ ∀ i, i ≠ t → tube i u = tube i s) ∧
          (n < d.count → ∃ u, exec (.pollAnswer report (.changer tb [.payoutJam t n]) busy) s = .next u ∧
            (tube t u).count = (tube t s).count - n ∧ (tube t u).state = .jammed ∧
            (periph .changer u).flags.jam = true ∧ ∀ i, i ≠ t → tube i u = tube i s) ∧
          (d.count ≤ n → ∃ u, exec (.pollAnswer report (.changer (some t) [.payoutJam t n]) busy) s = .next u ∧
            u.change.tubes = s.change.tubes ∧ u.change.dispense = some d ∧ (periph .changer u).flags.moduleError = true)) ∧
        (∀ tb t g parity, ∃ u, exec (.pollAnswer report (.changer (some tb) [.gauge t g parity]) busy) s = .next u ∧
          u.change.tubes = (gauge t g parity s).1.change.tubes) ∧
        (∀ tb present, s.journal.records.length < 512 →
          ∃ u, exec (.pollAnswer report (.changer (some tb) [.boxState present]) busy) s = .next u ∧
            u.change.box.present = present ∧
            (present = s.change.box.present → u.change.box = s.change.box ∧ u.journal = s.journal) ∧
            (present = true → s.change.box.present = false →
              u.change.box = { s.change.box with present := true } ∧ u.journal.records = s.journal.records ++
                [commonPart s.fare.clock s.journal.next none .boxInserted]) ∧
            (present = false → s.change.box.present = true →
              u.change.box.count = 0 ∧ (∀ k, vget u.change.box.values k = 0) ∧ u.journal.records = s.journal.records ++
                [commonPart s.fare.clock s.journal.next none
                  (.boxRemoved s.change.box.count s.change.box.values (boxSum s.change.box))])))) ∧
    (s.link.line = .window ⟨age, .poll .printer c⟩ →
      (∀ st es, ∃ t, exec (.pollAnswer report (.printer st es) busy) s = .next t ∧ t.print.last = some st ∧
        (st = .paperLow → (periph .printer t).flags.paperLow = true) ∧
        (st = .paperOut → (periph .printer t).flags.paperOut = true) ∧
        (st = .jammed → (periph .printer t).flags.jam = true)) ∧
      (∀ st es, (periph .printer s).lastReport = some report →
        ∃ t, exec (.pollAnswer report (.printer st es) busy) s = .next t ∧ t.print.printed = s.print.printed ∧
          (periph .printer t).lastReport = some report ∧
          (periph .printer t).counters.repeats = (periph .printer s).counters.repeats + 1) ∧
      (∀ st, (periph .printer s).lastReport ≠ some report → activeJob s = none → s.print.stub = none →
        ∃ t, exec (.pollAnswer report (.printer st [.cutDone]) busy) s = .next t ∧
          (periph .printer t).flags.moduleError = true ∧ t.print.printed = s.print.printed) ∧
      (∀ st i j g, (periph .printer s).lastReport ≠ some report → activeJob s = some (i, j, g) → g.cutSent = true →
        ∃ t, exec (.pollAnswer report (.printer st [.cutDone]) busy) s = .next t ∧
          vget t.print.printed (kindIndex j.kind) = vget s.print.printed (kindIndex j.kind) + 1)) ∧
    (s.link.line = .window ⟨age, .poll (cardAddr p) c⟩ →
      (∀ es, ∃ t, exec (.pollAnswer report (.cardModule p true es) busy) s = .next t ∧
        (periph (cardAddr p) t).flags.moduleError = true ∧ t.cards = s.cards ∧ t.sales = s.sales) ∧
      (∀ fault, (periph (cardAddr p) s).lastReport ≠ some report →
        ∃ t, exec (.pollAnswer report (.cardModule p fault [.fieldFault]) busy) s = .next t ∧
          (periph (cardAddr p) t).flags.moduleError = true ∧ t.cards = s.cards ∧ t.sales = s.sales) ∧
      ((periph (cardAddr p) s).lastReport ≠ some report →
        exec (.pollAnswer report (.cardModule p false []) busy) s = done (new (cardAddr p) s)) ∧
      ((periph (cardAddr p) s).lastReport = some report → ∀ es,
        exec (.pollAnswer report (.cardModule p false es) busy) s = done (repeated (cardAddr p) s) ∧
        exec (.pollAnswer report (.cardModule p true es) busy) s =
          done (raiseFault (cardAddr p) .moduleError (repeated (cardAddr p) s)))) ∧
    (∀ q st es, s.link.line = .window ⟨age, .pass q⟩ → q.addr = .printer → q.unfiltered = false →
      knowsCode .printer q.code.toNat = false →
      ∃ t, exec (.pollAnswer report (.printer st es) busy) s = .next t ∧ t.print.last = some st ∧
        (st = .jammed → (periph .printer t).flags.jam = true) ∧
        (periph .printer t).lastReport = (periph .printer s).lastReport ∧
        Answering ⟨2, q.tag, 1, .ok, .reply (some (.poll report (.printer st es))), none⟩ t)

/-- A coin at the gate is judged: a number already judged has its verdict sent again, a coin of no type, of several, too
noisy, or refused by a check is rejected and counted, and one that fits within the amount due is accepted and listed (R24 to
R30, R37). -/
def Obligations.CoinAtGate : Prop :=
  ∀ (p : Position) (seq : Byte) (r : GateReading) (s : State),
    let send (v : Verdict) (t : State) : State := { t with link := { t.link with
      verdicts := t.link.verdicts ++ [⟨p, s.port.moment, seq, v⟩] } }
    let rejected (x : RejectReason) := coinAtGate p seq r s =
      (send (.reject x) (onLane p (fun l => { l with
        last := some (seq, .reject x),
        rejects := vset l.rejects (rejectIndex x) (vget l.rejects (rejectIndex x) + 1) }) s), .verdict (.reject x))
    let new := (∀ e ∈ (lane p s).list, e.seq ≠ seq) ∧ ∀ v, (lane p s).last ≠ some (seq, v)
    (∀ e, (lane p s).list.find? (fun y => decide (y.seq = seq)) = some e →
      coinAtGate p seq r s = (send (.accept e.dest) s, .repeated)) ∧
    ((∀ e ∈ (lane p s).list, e.seq ≠ seq) → ∀ v, (lane p s).last = some (seq, v) →
      coinAtGate p seq r s = (send v s, .repeated)) ∧
    (new →
      ((∀ c, candidate r (coinType c s) = false) → rejected .unknown) ∧
      (∀ c d, c ≠ d → candidate r (coinType c s) = true → candidate r (coinType d s) = true → rejected .ambiguous) ∧
      (∀ c, candidate r (coinType c s) = true → (∀ d, d ≠ c → candidate r (coinType d s) = false) →
        let v := (coinType c s).value
        let due := (sess p s).due
        let quiet := noisy r (coinType c s) = false ∨ (coinType c s).strict = false
        let collecting := quiet ∧ (sess p s).state = .collecting
        let room := collecting ∧ (lane p s).list.length < 4
        let enabled := room ∧ (lane p s).spMask.getLsbD c.val = true
        let placed := enabled ∧ destinationOpen c s = true
        let owing := placed ∧ pledged p s < due
        (noisy r (coinType c s) = true → (coinType c s).strict = true → rejected .noise) ∧
        (quiet → (sess p s).state ≠ .collecting → rejected .state) ∧
        (collecting → 4 ≤ (lane p s).list.length → rejected .busy) ∧
        (room → (lane p s).spMask.getLsbD c.val = false → rejected .inhibited) ∧
        (enabled → destinationOpen c s = false → rejected .boxFull) ∧
        (placed → due ≤ pledged p s → rejected .paid) ∧
        (owing → due < pledged p s + v → planAt s p (pledged p s + v - due) = none → rejected .change) ∧
        (owing → pledged p s + v ≤ due →
          coinAtGate p seq r s = (send (.accept (destination c s)) (onLane p (fun l => { l with
            list := l.list ++ [⟨seq, c, v, destination c s, (sess p s).serial⟩],
            last := some (seq, .accept (destination c s)) }) s), .verdict (.accept (destination c s)))) ∧
        (∀ pl, owing → due < pledged p s + v → planAt s p (pledged p s + v - due) = some pl →
          (coinAtGate p seq r s).2 = .verdict (.accept (destination c s)) ∧
          (lane p (coinAtGate p seq r s).1).list =
            (lane p s).list ++ [⟨seq, c, v, destination c s, (sess p s).serial⟩] ∧
          (resv p (coinAtGate p seq r s).1).mode = .provisional ∧ (resv p (coinAtGate p seq r s).1).plan = pl ∧
          (resv p (coinAtGate p seq r s).1).amount = pledged p s + v - due ∧
          (∀ t, vget (resv p (coinAtGate p seq r s).1).reserved t =
            max (vget (resv p s).cover t) (planCount pl t)))))

/-- A coin reported routed is counted at its destination and in the totals. A listed one of a session that collects is credited,
with cover and reservation on the tube it goes into; the one that brings the credit to the due fixes the change and begins
issuing; a late one is credited as a further amount or into a waiting refund, with late cover; an unlisted one is recorded as
UNCLAIMED_COIN. A coin reported returned has its reason counted; one that is listed leaves its list and gives no credit, with the
session's provisional plan reviewed (R32, R33, R34, R36, R48, R49, R50, R109, R113, R117, R122, R155). -/
def Obligations.CoinRouted : Prop :=
  ∀ (p : Position) (seq : Byte) (c : Fin 8) (d : Dest) (s : State),
    let routed := coinRouted p seq c d s
    let u := routed.1
    (∀ r : ReturnReason,
      let back := coinReturned p seq r s
      let counted : State := onLane p (fun l => { l with
        returnedLate := if r = .late then l.returnedLate + 1 else l.returnedLate
        returnedFailed := if r = .failed then l.returnedFailed + 1 else l.returnedFailed }) s
      ((∀ e ∈ (lane p s).list, e.seq ≠ seq) → back = (counted, .unmatched)) ∧
      (∀ e, (lane p s).list.find? (fun y => decide (y.seq = seq)) = some e →
        let off := (lane p s).list.filter (fun y => !decide (y.seq = seq))
        back.2 = .matched ∧ lane p back.1 = { lane p counted with list := off } ∧
        lane p.other back.1 = lane p.other s ∧ sess p.other back.1 = sess p.other s ∧
        ((sess p s).stage ≠ .refundWait ∧ (sess p s).stage ≠ .held ∨
            (sess p s).state ≠ .idle ∧ (∃ y ∈ off, y.session = (sess p s).serial) →
          back.1 = { counted with
            coins := s.coins.set p { lane p counted with list := off }
            change := { s.change with resv := s.change.resv.set p (resv p back.1) } } ∧
          (current p e s = true → PlanReviewed p off s back.1) ∧
          (current p e s = false → resv p back.1 = resv p s)))) ∧
    (∀ t, (∀ e ∈ (lane p s).list, e.seq ≠ seq) → d = .tube t → (tube t s).state = .active →
      (tube t s).ctype = some c → (tube t s).count < (tube t s).capacity → s.journal.records.length < 512 →
      routed = (u, .unclaimed p, none) ∧
        tube t u = { tube t s with count := (tube t s).count + 1, routedIn := (tube t s).routedIn + 1 } ∧
        (∀ i, i ≠ t → tube i u = tube i s) ∧ u.change.box = s.change.box ∧ u.sales = s.sales ∧
        vget u.journal.running.coinsIn c = vget s.journal.running.coinsIn c + 1 ∧
        u.journal.running.valueIn = s.journal.running.valueIn + BitVec.ofNat 32 (coinType c s).value ∧
        u.journal.records = s.journal.records ++
          [commonPart s.fare.clock s.journal.next (some p) (.unclaimedCoin c (coinType c s).value d)]) ∧
    (∀ e, (lane p s).list.find? (fun y => decide (y.seq = seq)) = some e → e.session = (sess p s).serial →
      let credit := (sess p s).credit + e.value
      let rise : Rise := ⟨p, credit, (sess p s).due⟩
      let off := (lane p s).list.filter (fun y => !decide (y.seq = seq))
      let takes (t : Fin 6) := (tube t s).state = .active ∧ (tube t s).ctype = some e.ctype ∧
        (tube t s).count < (tube t s).capacity
      let further : Session := { sess p s with
        credit := credit
        further := if (sess p s).stage = .refundWait then (sess p s).further else (sess p s).further + e.value }
      let collected : Session := { sess p s with credit := credit, inactivity := some s.sales.timing.inactivity }
      let counted := u.journal.running.valueIn = s.journal.running.valueIn + BitVec.ofNat 32 e.value ∧
        vget u.journal.running.coinsIn e.ctype = vget s.journal.running.coinsIn e.ctype + 1
      ((sess p s).state = .collecting → credit < (sess p s).due →
        routed = (u, .credited p, some rise) ∧ (lane p u).list = off ∧ sess p u = collected ∧
        sess p.other u = sess p.other s ∧ counted ∧ u.journal.records = s.journal.records ∧
        (e.dest = .box → s.change.box.count + 1 < s.cash.limit → s.change.box.count < 65535 →
          u.change.tubes = s.change.tubes ∧ u.change.resv = s.change.resv ∧ u.change.box = { s.change.box with
            count := s.change.box.count + 1
            values := vset s.change.box.values e.ctype
              (vget s.change.box.values e.ctype + BitVec.ofNat 32 e.value) }) ∧
        (∀ t, e.dest = .tube t → takes t →
          tube t u = { tube t s with count := (tube t s).count + 1, routedIn := (tube t s).routedIn + 1 } ∧
          (∀ i, i ≠ t → tube i u = tube i s) ∧ u.change.box = s.change.box ∧ resv p.other u = resv p.other s ∧
          (let cover := vget (resv p s).cover t + 1
           resv p u = { resv p s with
             cover := vset (resv p s).cover t cover
             reserved := vset (resv p s).reserved t
               (if (resv p s).mode = .provisional then max (vget (resv p s).reserved t) cover
                else vget (resv p s).reserved t + 1) }))) ∧
      (∀ q i, (sess p s).state = .collecting → (sess p s).due ≤ credit → e.dest = .box → (sess p s).req = some q →
        q.medium = .paper → (sess p s).payment = some .coins → PrinterServes s → slotOf i s = .reserved p →
        (∀ k : Fin 8, k.val < i.val → slotOf k s ≠ .reserved p) →
        let change := credit - (sess p s).due
        let pl := planOrShort (denoms s) (avail s p) change
        routed = (u, .credited p, some rise) ∧ (lane p u).list = off ∧ counted ∧ u.change.tubes = s.change.tubes ∧
        sess p u = { sess p s with
          credit := credit, change := change, inactivity := none, state := .issuing, stage := .ticket, ticket := .queued } ∧
        (change = 0 → resv p u = Reserve.start) ∧
        (0 < change → (resv p s).mode = .provisional ∧ (resv p s).amount = change →
          resv p u = { resv p s with
            mode := .hold, short := 0, cover := vfill 6 0
            reserved := vtab (fun t => min (vget (resv p s).reserved t) (planCount (resv p s).plan t)) }) ∧
        (0 < change → ¬ ((resv p s).mode = .provisional ∧ (resv p s).amount = change) →
          resv p u = { resv p s with
            mode := .hold, plan := pl.1, amount := change - pl.2, short := pl.2, cover := vfill 6 0
            reserved := vtab (planCount pl.1) }) ∧
        ∃ j f, (slotOf i u = .waiting j ∨ ∃ g, slotOf i u = .active j g) ∧ j.kind = .ticket ∧ j.pos = some p ∧
          j.queueNo = s.print.queueNo + 1 ∧ j.sale = some f ∧ f.credit = credit ∧ f.change = change ∧ f.card = none) ∧
      ((sess p s).state ≠ .idle → (sess p s).state ≠ .collecting →
        (sess p s).stage ≠ .held ∧ (sess p s).stage ≠ .refundWait ∨
          (∃ y ∈ off, y.session = (sess p s).serial) →
        routed = (u, .lateCoin p, some rise) ∧ (lane p u).list = off ∧ sess p u = further ∧ counted ∧
        u.journal.records = s.journal.records ∧
        (∀ t, e.dest = .tube t → takes t →
          (tube t u).count = (tube t s).count + 1 ∧ resv p u = { resv p s with
            mode := if (resv p s).mode = .none then .hold else (resv p s).mode
            cover := vset (resv p s).cover t (vget (resv p s).cover t + 1)
            reserved := vset (resv p s).reserved t (vget (resv p s).reserved t + 1) })))

/-- A payout reported done takes the coins paid from its tube's count and no others, and a number below the DISPENSE's count
jams the tube, as a PAYOUT_JAM below it does (R58, R59). At a jam the plan's amount less what is paid is planned again, and what
no plan makes is carried as owed: nothing of it is lost (R57, R59). That both counts of a tube stop at 0 (log 64) and that a
PAYOUT_JAM at or above the commanded count matches nothing (log 21) are the model's choice. -/
def Obligations.PayoutIsCounted : Prop :=
  ∀ (t : Fin 6) (n : Nat) (d : Dispense) (s : State), s.change.dispense = some d → d.sent = true → d.tube = t →
    let paid (u : State) (k : Nat) := (tube t u).count = (tube t s).count - k ∧
      (tube t u).paidOut = (tube t s).paidOut + BitVec.ofNat 32 k ∧ (∀ i, i ≠ t → tube i u = tube i s) ∧
      u.change.box = s.change.box ∧ u.fare = s.fare ∧ u.cash = s.cash
    (let u := (payoutDone t n s).1
     let k := min n d.count
     paid u k ∧ (payoutDone t n s).2 = .paid d.pos k ∧
     (d.count ≤ n → (tube t u).state = (tube t s).state) ∧
     (n < d.count → (tube t u).state = .jammed ∧ (periph .changer u).flags.jam = true)) ∧
    (n < d.count →
      let u := (payoutJam t n s).1
      paid u n ∧ (payoutJam t n s).2 = .paid d.pos n ∧ (tube t u).state = .jammed ∧
      (periph .changer u).flags.jam = true) ∧
    (d.count ≤ n → payoutJam t n s = (raiseFault .changer .moduleError s, .unmatched)) ∧
    (∀ k, let u := jam d.pos t k s
      (resv d.pos u).amount + (resv d.pos u).short =
        (resv d.pos s).amount - k * denomOf s t + (resv d.pos s).short ∧
      resv d.pos.other u = resv d.pos.other s)

/-- A GAUGE report: discarded for a DISABLED tube, with bad parity, and at level 0 while the tube pays; otherwise the Gray
level times the coins per step becomes the estimate, the streaks turn an ACTIVE tube to DOUBT and back, and level 0 writes the
count off (R62 to R65). That a DISABLED tube comes before parity is the model's choice (log 20). -/
def Obligations.GaugeReports : Prop :=
  ∀ (t : Fin 6) (g : BitVec 6) (parity : Bool) (s : State),
    let u := (gauge t g parity s).1
    let x := tube t s
    let est := (g ^^^ (g >>> 1) ^^^ (g >>> 2) ^^^ (g >>> 3) ^^^ (g >>> 4) ^^^ (g >>> 5)).toNat * x.perStep
    let good := x.state ≠ .disabled ∧ parityEven g parity = true
    (x.state = .disabled → gauge t g parity s = (s, .discarded)) ∧
    (x.state ≠ .disabled → parityEven g parity = false →
      (gauge t g parity s).2 = .discarded ∧ u.change.parityErrors = s.change.parityErrors + 1 ∧
      u.change.tubes = s.change.tubes ∧ (periph .changer u).flags.gaugeParity = true) ∧
    (good → g = 0 → matchDispense t s ≠ none → gauge t g parity s = (s, .discarded)) ∧
    (good → g = 0 → matchDispense t s = none →
      (tube t u).estimate = some 0 ∧ (tube t u).count = 0 ∧
      (tube t u).writtenOff = x.writtenOff + BitVec.ofNat 32 x.count ∧
      (0 < x.count → ∀ p, vget (resv p u).reserved t = 0 ∧ vget (resv p u).cover t = 0)) ∧
    (good → g ≠ 0 →
      (tube t u).estimate = some est ∧ (tube t u).count = x.count ∧
      (let off := x.tolerance < x.count - est ∨ x.tolerance < est - x.count
       (x.state = .jammed → (tube t u).state = .jammed ∧ (tube t u).doubt = 0 ∧ (tube t u).clear = 0) ∧
       (x.state ≠ .jammed → off → (tube t u).doubt = min 3 (x.doubt + 1) ∧ (tube t u).clear = 0 ∧
         (tube t u).state = (if x.state = .active ∧ 2 ≤ x.doubt then .doubt else x.state)) ∧
       (x.state ≠ .jammed → ¬ off → (tube t u).clear = min 3 (x.clear + 1) ∧ (tube t u).doubt = 0 ∧
         (tube t u).state = (if x.state = .doubt ∧ 2 ≤ x.clear then .active else x.state)))) ∧
    (∀ i, i ≠ t → tube i u = tube i s)

/-- An ANNOUNCE answer of the address's own kind makes the peripheral ONLINE with its report forgotten: a validator is sent
its mask again, the changer's box switch and the printer's status are taken. One of another kind is unanswered and raises
MODULE_ERROR. An acknowledgement makes a validator's set the last acknowledged, or marks the DISPENSE. An event is sorted by
its entry in the live event table, one without an entry giving no notice (R39, R41, R67, R138, R168, R175, R177, R181). That
the set acknowledged at a forwarded INHIBIT is the validator's too is read from the spec (log 76), and `busy` is the model's
operand (log 15). That the masks are recomputed once, after all else, and that the DEVICE_EVENT of ANNOUNCED is queued
before their CREDIT notices are the model's choice (logs 12 and 91). -/
def Obligations.AnnounceAndAcknowledge : Prop :=
  ∀ (age : Nat) (rev : Byte) (busy : Bool) (s : State), running s = true →
    let done (t : State) := Host.Outcome.next (settle busy (masks none t))
    let up (a : Addr) (t : State) := onPeriph a (fun x => { x with
      state := .online, revision := some rev, lastReport := none, missingDue := false }) (heard a t)
    (∀ p, s.link.line = .window ⟨age, .announce (cardAddr p)⟩ →
      exec (.announceAnswer (cardAddr p) .cardModule rev busy) s = done
        (sortEvent (cardAddr p) 0 (.announced .cardModule rev) (.announced .cardModule rev) (up (cardAddr p) s)) ∧
      ∃ t, exec (.announceAnswer (cardAddr p) .validator rev busy) s = .next t ∧
        (periph (cardAddr p) t).state = (periph (cardAddr p) s).state ∧
        (periph (cardAddr p) t).revision = (periph (cardAddr p) s).revision ∧
        (periph (cardAddr p) t).flags.moduleError = true ∧
        (periph (cardAddr p) t).streak = min 255 ((periph (cardAddr p) s).streak + 1)) ∧
    (∀ p, s.link.line = .window ⟨age, .announce (valAddr p)⟩ →
      exec (.announceAnswer (valAddr p) .validator rev busy) s = done
        (sortEvent (valAddr p) 0 (.announced .validator rev) (.announced .validator rev)
          (onLink (fun l => { l with inhibit := l.inhibit.set p (some (((s.link.inhibit.get p).map Prod.fst).getD s.port.moment,
            effectiveMask p s)) }) (up (valAddr p) s)))) ∧
    (s.link.line = .window ⟨age, .announce .changer⟩ → ∀ present,
      ∃ t, exec (.announceAnswer .changer (.changer present) rev busy) s = .next t ∧
        (periph .changer t).state = .online ∧ (periph .changer t).revision = some rev ∧
        (periph .changer t).lastReport = none ∧ t.change.box.present = present ∧
        (present = s.change.box.present → t.change.box = s.change.box ∧ t.journal = s.journal) ∧
        (present = false → s.change.box.present = true → t.change.box.count = 0)) ∧
    (s.link.line = .window ⟨age, .announce .printer⟩ → ∀ st,
      ∃ t, exec (.announceAnswer .printer (.printer st) rev busy) s = .next t ∧
        (periph .printer t).state = .online ∧ (periph .printer t).revision = some rev ∧
        (periph .printer t).lastReport = none ∧ t.print.last = some st ∧ t.print.stale = false ∧
        (st = .paperOut → (periph .printer t).flags.paperOut = true)) ∧
    (∀ p m set, s.link.line = .window ⟨age, .inhibit p m⟩ →
      exec (.acknowledgement (valAddr p) (some set) busy) s = done
        (onLink (fun l => { l with acked := l.acked.set p (some set), inhibitKept := l.inhibitKept.set p none })
          (heard (valAddr p) s))) ∧
    (∀ p q set, s.link.line = .window ⟨age, .pass q⟩ → q.addr = valAddr p → q.code = 4 → q.unfiltered = false →
      exec (.acknowledgement (valAddr p) (some set) busy) s = done
        (enqueue ⟨2, q.tag, 1, .ok, .reply (some (.ack (some set))), none⟩
          (onLink (fun l => { l with acked := l.acked.set p (some set) }) (heard (valAddr p) s)))) ∧
    (∀ p t n d, s.link.line = .window ⟨age, .dispense p t n⟩ → s.change.dispense = some d →
      exec (.acknowledgement .changer none busy) s = done
        (onChange (fun c => { c with dispense := some { d with acked := true } }) (heard .changer s))) ∧
    (∀ a code d part,
      let entries := s.fare.live.events.filter (fun x => decide (x.kind = addrKind a) && decide (x.code = code))
      (entries = [] → sortEvent a code d part s = s) ∧
      (∀ x, entries = [x] → sortEvent a code d part s =
        (match x.disp with
         | .consume => s
         | .forward => notify x.cls (.deviceEvent a code d none) s
         | .both => notify x.cls (.deviceEvent a code d (some part)) s)))

/-- The answers to a read's DETECT and READ: a present card is read, no card or more than one leaves the read detecting, a
READ that fails returns to detecting. The image of a card that no entry holds is priced when it is active and not denied; a
blocked card, a denied one, which has a block write sent, and one that the fare engine refuses end the session. The image of
a card with a write outstanding waits for it; of one with a torn write it settles the entry as landed or foreign, to which
the owner is handed DONE, or begins the completion write. The DETECT of a credit-back that finds the held card has the
credit-back's WRITE made ready; any other end of it leaves the price owed, and the session held while a coin is outstanding
or closed with a SALE record (R73, R74, R77, R79, R83, R93, R94, R95, R96, R97, R106, R114). That the image's own id counts
is the model's choice (log 50), and `busy` is its operand (log 15); that the CARD_BLOCKED record says sent at the hand-over
(log 53) and that a completion recomputes the day total (log 60) are read from the spec. That the masks are recomputed once,
after all else, and that an event's notices are queued in the order JOURNAL_LEVEL of its record or DEVICE_FAULT, SESSION,
CREDIT of the masks are the model's choice (logs 12 and 91). -/
def Obligations.CardReadAnswers : Prop :=
  ∀ (p : Position) (age n : Nat) (x : CardId) (busy : Bool) (s : State), running s = true → (sess p s).serial = n →
    let heard (t : State) := heard (cardAddr p) t
    let done (t : State) := Host.Outcome.next (settle busy (masks none t))
    (s.link.line = .window ⟨age, .card p (.detect n false)⟩ → readOf p s = .detecting →
      exec (.present p x busy) s = done (heard { s with
        cards := { s.cards with reads := s.cards.reads.set p (.reading x) }
        link := { s.link with cardReady := s.link.cardReady ++ [⟨p, s.port.moment, .read n x⟩] } }) ∧
      exec (.noCard p busy) s = done (heard s) ∧
      exec (.collision p busy) s = done (onPeriph (cardAddr p) (fun y => { y with
        counters := { y.counters with collisions := y.counters.collisions + 1 } }) (heard s))) ∧
    (s.link.line = .window ⟨age, .card p (.read n x)⟩ → readOf p s = .reading x →
      let again := { s.cards with reads := s.cards.reads.set p .detecting }
      exec (.readFailed p .absent busy) s = done (heard { s with cards := again }) ∧
      exec (.readFailed p .error busy) s = done ({ raiseFault (cardAddr p) .moduleError (heard s) with cards := again }) ∧
      (∀ body, imageOf body = none →
        exec (.image p body busy) s = done ({ raiseFault (cardAddr p) .moduleError (heard s) with cards := again })) ∧
      (∀ body img q, imageOf body = some img → (sess p s).req = some q →
        let now := exec (.image p body busy) s
        let ended : State := { heard s with
          cards := { s.cards with reads := s.cards.reads.set p .none }
          sales := { s.sales with sess := s.sales.sess.set p { sess p s with held := some img, cardWait := none } } }
        let refused (r : Result) (t : State) := release p .refused (enqueue ⟨0, (sess p s).tag, 1, r, .empty, none⟩ t)
        let priced := quoteCard s.fare.live s.fare.clock s.cash.unit q img
        ((∀ e, (entry e s).state = .free ∨ (entry e s).card ≠ some img.id) →
          (img.status = .blocked → now = done (refused .cardBlocked ended)) ∧
          (∀ e, img.status = .active → denied s.cards.deny img.id = true → (sess p s).entry = some e →
            (periph (cardAddr p) s).state = .online →
            let block : Delta := { value := 0, topUp := none, pass := none, block := true }
            let w := writeImage s.fare.live.params.ceiling block img
            let blocking : PendingEntry :=
              { state := .writing, owner := none, card := some img.id, before := img.counter, delta := block, customer := 0,
                created := clockStamp s.fare.clock, excess := w.2 }
            now = done (refused .cardDenied (append (some p) (.cardBlocked img.id img.balance true) { ended with
              cards := { ended.cards with entries := vset s.cards.entries e blocking }
              link := { ended.link with cardReady := s.link.cardReady ++
                [⟨p, s.port.moment, .write ⟨e, .block, img.counter, w.1, w.2⟩⟩] } }))) ∧
          (∀ r, img.status = .active → denied s.cards.deny img.id = false → priced = .error r → now = done (refused r ended)) ∧
          (∀ r, img.status = .active → denied s.cards.deny img.id = false → priced = .ok r →
            now = done (notify 0 (.session p .quoted .priced) (enqueue ⟨0, (sess p s).tag, 1, .ok, .quote r, none⟩
              { ended with sales := { s.sales with sess := s.sales.sess.set p { sess p s with
                  state := .quoted, stage := .none, result := some r, held := some img, cardWait := none,
                  quoteLife := some s.sales.timing.quoteLife } } })))) ∧
        (∀ e, (entry e s).card = some img.id → (∀ i, i ≠ e → (entry i s).state = .free ∨ (entry i s).card ≠ some img.id) →
          ((entry e s).state = .writing ∨ (entry e s).state = .resolving →
            now = done { heard s with cards := { s.cards with reads := s.cards.reads.set p (.awaiting img.id) } }) ∧
          ((entry e s).state = .torn → img.counter = (entry e s).before →
            let w := writeImage s.fare.live.params.ceiling (entry e s).delta img
            let resolving : PendingEntry := { entry e s with state := .resolving, excess := w.2 }
            now = done { heard s with
              cards := { s.cards with
                entries := vset s.cards.entries e resolving
                reads := s.cards.reads.set p (.resolving e) }
              link := { (heard s).link with cardReady := s.link.cardReady ++
                [⟨p, s.port.moment, .write ⟨e, .completion, img.counter, w.1, w.2⟩⟩] } }) ∧
          ((entry e s).state = .torn → img.counter ≠ (entry e s).before → (sess p s).entry ≠ some e →
            s.journal.records.length < 512 →
            let landed := img.counter = (entry e s).before + 1
            let note := commonPart s.fare.clock s.journal.next (some p) (.writeResolved img.id
              (if landed then .landed else .foreign) (entry e s).delta.value img.balance
              (if landed then 0 else (entry e s).customer))
            ((entry e s).owner = none →
              ∃ t rs, now = .next t ∧ entry e t = PendingEntry.free ∧ t.journal.records = s.journal.records ++ note :: rs) ∧
            (landed → (entry e s).owner = some (p.other, (sess p.other s).serial) → currentList p.other s ≠ [] →
              mediumOf (sess p.other s) = .card → (sess p.other s).change = 0 → (sess p.other s).further = 0 →
              ∃ t rs, now = .next t ∧ (entry e t).state = .reserved ∧
                t.journal.records = s.journal.records ++ note :: rs ∧
                (sess p.other t).write = .done ∧ (sess p.other t).issued = true ∧ (sess p.other t).stage = .held ∧
                (sess p.other t).held = some img ∧ (sess p.other t).endReason = some .sold))))) ∧
    (∀ img e q, s.link.line = .window ⟨age, .card p (.detect n true)⟩ → (sess p s).stage = .creditDetect →
      (sess p s).held = some img → (sess p s).entry = some e → (sess p s).result = some q →
      (let back : Delta := { value := q.price, topUp := none, pass := none, block := false }
       let w := writeImage s.fare.live.params.ceiling back img
       let writing : PendingEntry :=
         { state := .writing, owner := some (p, n), card := some img.id, before := img.counter, delta := back, customer := 0,
           created := clockStamp s.fare.clock, excess := w.2 }
       (∀ i, i ≠ e → (entry i s).state = .free ∨ (entry i s).card ≠ some img.id) →
       (periph (cardAddr p) s).state = .online →
       exec (.present p img.id busy) s = done { heard s with
         cards := { s.cards with entries := vset s.cards.entries e writing }
         sales := { s.sales with sess := s.sales.sess.set p { sess p s with stage := .creditWrite } }
         link := { (heard s).link with cardReady := s.link.cardReady ++
           [⟨p, s.port.moment, .write ⟨e, .creditBack, img.counter, w.1, w.2⟩⟩] } }) ∧
      (∀ i, (i = .noCard p busy ∨ i = .collision p busy ∨ i = .answerTimeout busy ∨
          ∃ y, y ≠ img.id ∧ i = .present p y busy) → ∃ t, exec i s = .next t ∧
        (currentList p s ≠ [] → t.cards = s.cards ∧ t.journal = s.journal ∧
          t.sales = { s.sales with sess := s.sales.sess.set p { sess p s with
            owed := (sess p s).owed + q.price, stage := .held } }) ∧
        (currentList p s = [] → q.free = false → TicketFailedSale p s →
          TicketFailedClosed p (sess p s).creditedBack q.price 0 (sess p s).balanceAfter s t)))

/-- A LINE answered READY is taken and the next command is ready; the CUT_DONE of the job ends it PRINTED, a ticket's for its
session; the cut limit raises JAM and fails the job, which leaves a void stub to print when a line of it was taken, and the
session of a ticket paid in coins is refunded (R118, R139, R140, R141, R143). That a cut limit that does not run changes nothing
is the model's choice (log 4), and `busy` is its operand (log 15). -/
def Obligations.PrinterAnswersAndCutLimit : Prop :=
  ∀ (i : Fin 8) (j : Job) (g : Progress) (age : Nat) (text : Text) (busy : Bool) (s : State),
    activeJob s = some (i, j, g) →
    let failed (t : State) : Prop :=
      (periph .printer t).flags.jam = true ∧
      vget t.print.failed (kindIndex j.kind) = vget s.print.failed (kindIndex j.kind) + 1 ∧
      (0 < g.taken → t.print.void ≠ none) ∧ t.change.tubes = s.change.tubes ∧ t.fare = s.fare
    (running s = true → s.link.line = .window ⟨age, .line g.serial text⟩ → s.print.last = some .ready →
      exec (.statusAnswer .ready busy) s = .next (settle busy (masks none { heard .printer s with
        print := { s.print with
          slots := vset s.print.slots i (.active j { g with taken := g.taken + 1, ready := some s.port.moment })
          stale := false } }))) ∧
    (g.cutSent = true →
      ∃ u, cutDone s = some (u, match j.kind, j.pos with
          | .ticket, some p => [(p, true)]
          | _, _ => []) ∧
        slotOf i u = .free ∧ vget u.print.printed (kindIndex j.kind) = vget s.print.printed (kindIndex j.kind) + 1 ∧
        (∀ k, k ≠ i → slotOf k u = slotOf k s) ∧ u.sales = s.sales ∧ u.journal = s.journal ∧ u.change = s.change) ∧
    (g.cutSent = false → cutDone s = none) ∧
    (s.power = true → g.limit = false → exec (.cutLimitExpiry busy) s = .next s) ∧
    (s.power = true → g.limit = true → j.kind ≠ .ticket →
      ∃ t, exec (.cutLimitExpiry busy) s = .next t ∧ failed t ∧ slotOf i t = .free ∧ t.sales = s.sales ∧ t.cards = s.cards) ∧
    (∀ p, s.power = true → g.limit = true → j.kind = .ticket → j.pos = some p →
      ((sess p s).stage ≠ .ticket →
        ∃ t, exec (.cutLimitExpiry busy) s = .next t ∧ failed t ∧ slotOf i t = .free ∧ t.sales = s.sales ∧ t.cards = s.cards) ∧
      ((sess p s).stage = .ticket → (sess p s).payment = some .coins → isFree (sess p s) = false → currentList p s ≠ [] →
        ∃ t, exec (.cutLimitExpiry busy) s = .next t ∧ failed t ∧ slotOf i t = .free ∧
          sess p t = { sess p s with
            state := .refunding, stage := .refundWait, ticket := .failed, slot := none, endReason := some .ticketFailed,
            refunded := true, inactivity := none, tearWindow := none }))

/-! ### Prices, plans and layouts -/

/-- The cash price of a quote: the nearest multiple of U, a half rounding up, U itself for a small price, the largest multiple
of U within 65,535 for a large one; it is a multiple of U between 0 and 65,535 and 0 for a free issue alone, and every quote
result carries it (R17, R21). -/
def Obligations.CashPriceRounds : Prop :=
  (∀ u price : Nat, 1 ≤ u → u ≤ 100 → price ≤ 65535 →
    let nearest := (price + u / 2) / u * u
    (0 < price → nearest = 0 → cashPrice u price = u) ∧
    (0 < nearest → nearest ≤ 65535 → cashPrice u price = nearest) ∧
    (65535 < nearest → cashPrice u price = 65535 / u * u) ∧
    cashPrice u price % u = 0 ∧ cashPrice u price ≤ 65535 ∧ (cashPrice u price = 0 ↔ price = 0) ∧
    (price % u = 0 → cashPrice u price = price)) ∧
  (∀ (b : Bank) (c : Clock) (u : Nat) (q : QuoteReq) (r : QuoteResult),
    (quotePlain b c u q = .ok r ∨ ∃ x, quoteCard b c u q x = .ok r) →
    r.cash = cashPrice u r.price ∧ (r.free = true ↔ r.price = 0) ∧ r.product = q.product ∧ r.price ≤ b.ceiling)

/-- The price of a SINGLE or RETURN that reads no card: the product of the base fare and the three factors over 2^28, a half
rounding up, brought down to the fare ceiling with CLAMPED (R12, R14, R15). -/
def Obligations.RidePrice : Prop :=
  ∀ (b : Bank) (c : Clock) (u : Nat) (q : QuoteReq) (i : Fin 32) (o d : Fin 16) (k : Fin 8),
    let p := vget b.products i
    q.product = i.val → q.origin = o.val + 1 → q.dest = d.val + 1 → q.cls = k.val →
    (p.kind = .single ∨ p.kind = .returnTrip) → p.classes.getLsbD k.val = true →
    ∀ cell : Fin 256, cell.val = 16 * o.val + d.val → vget b.matrix cell ≠ 0 →
    let raw := vget b.matrix cell * p.mult * (vget b.classes k).factor * bandFactor b c p
    let n := (raw + 2 ^ 27) / 2 ^ 28
    ∃ r, quotePlain b c u q = .ok r ∧ r.zones = some (o.val + 1, d.val + 1) ∧ r.cls = some k.val ∧ r.kind = p.kind ∧
      r.reduced = false ∧ r.days = none ∧ r.card = none ∧
      (b.ceiling < n → r.price = b.ceiling ∧ r.clamped = true) ∧ (n ≤ b.ceiling → r.price = n ∧ r.clamped = false)

/-- The planner's plan, from what the tubes have available. The greedy selection of pass 1 is the plan where it leaves nothing.
Where it leaves a remainder, the plan is that of the first limited run that leaves nothing: of the denominations pass 1 used,
largest first, each limited to one coin fewer than pass 1 took. FAIL is reported where no such run leaves nothing, and the short
plan is pass 1's selection with its remainder. A plan makes its amount (R52, R53, R54, R55). -/
def Obligations.PlannerMakesTheAmount : Prop :=
  ∀ (den av : Vector Nat 6) (c : Nat), ∃ sel left, GreedySelection den (summed den av) c sel left ∧
    (shortPlan den av c).2 = left ∧ AllocatedPlan den av sel (shortPlan den av c).1 ∧
    planValue den (shortPlan den av c).1 + left = c ∧
    (left = 0 → planFor den av c = some (shortPlan den av c).1) ∧
    (0 < left →
      let fails (x j : Nat) : Prop := 0 < j → ∀ sx, ¬ GreedySelection den (limitedTo den av x (j - 1)) c sx 0
      (∀ pl, planFor den av c = some pl → ∃ xs d k ys sel', sel = xs ++ (d, k) :: ys ∧ (∀ x j, (x, j) ∈ xs → fails x j) ∧
        0 < k ∧ GreedySelection den (limitedTo den av d (k - 1)) c sel' 0 ∧ AllocatedPlan den av sel' pl) ∧
      (planFor den av c = none → ∀ x j, (x, j) ∈ sel → fails x j)) ∧
    (∀ pl, planFor den av c = some pl → planValue den pl = c ∧ planOrShort den av c = (pl, 0)) ∧
    (planFor den av c = none → planOrShort den av c = shortPlan den av c)

/-- A card image in its ranges is read back from its bytes as it was; a frame of either link made as its rule gives is taken
whole; the checks over the nine characters 123456789 (R71, R165, R188, section 9.7). -/
def Obligations.ImageRoundTrip : Prop :=
  (∀ x : CardImage,
    let fits (y : Option Pass) := ∀ q, y = some q → q.product ≤ 31 ∧ 1 ≤ q.low ∧ q.low ≤ q.high ∧ q.high ≤ 16 ∧
      q.first ≤ q.last ∧ q.last < 65536
    x.cls ≤ 7 → x.balance ≤ 500000 → x.topDay < 65536 → x.dayTotal ≤ 500000 → fits x.slot0 → fits x.slot1 →
    (imageBytes x).length = 34 ∧ imageOf (imageBytes x) = some x) ∧
  (∀ (ch tag kind : Byte) (body : List Byte), body.length ≤ 1024 → saleCheckRight (saleFrameBytes ch tag kind body) = true) ∧
  (∀ (addr kind : Byte) (body : List Byte), body.length ≤ 64 → linkFrameTaken (linkFrameBytes addr kind body) = true) ∧
  crc16 [49, 50, 51, 52, 53, 54, 55, 56, 57] = 0x29B1 ∧ crc8 [49, 50, 51, 52, 53, 54, 55, 56, 57] = 0xF4

/-! ### Invariants -/

/-- Every step keeps the journal at 512 records or fewer, numbered consecutively up to the next number less 1 (R146). -/
def Obligations.JournalStaysConsecutive : Prop :=
  ∀ s t : State, JournalOk s.journal → step s = .next t → JournalOk t.journal

/-- Every step keeps the deny list strictly ascending and within 2,048 card ids, no card id held by two pending-write entries, and
the clock, the timer periods and the link settings in their ranges (R1, R80, R88, R101, R170). -/
def Obligations.ListsAndSettingsStayInRange : Prop :=
  ∀ s t : State, DenyOk s.cards → EntriesOk s.cards → ClockOk s.fare.clock → SettingsOk s → step s = .next t →
    DenyOk t.cards ∧ EntriesOk t.cards ∧ ClockOk t.fare.clock ∧ SettingsOk t

/-- Every step keeps the queues of the sale link port within their sizes, and the mode to the door (R189, R192, R194,
R196). -/
def Obligations.PortStaysBounded : Prop :=
  ∀ s t : State, PortOk s.port → DoorOk s → step s = .next t → PortOk t.port ∧ DoorOk t

/-- Every step keeps the outstanding-verdict lists at 4 entries with no number twice, and the pass-through queue at 8 (R30,
R180). -/
def Obligations.VerdictListsStayBounded : Prop :=
  ∀ s t : State, QueuesOk s → step s = .next t → QueuesOk t
end

