-- ==== Sys2Proof/Laws/State.lean ====
section
/-! SUPPORT. The fields of an updated state: one lemma for each field under each update, true by unfolding, so that no proof
about a longer update needs to unfold a shorter one. -/

namespace Sys2Proof.Machine

/-! ### Updates of one block -/

@[simp] theorem onFare_power (f : Fare → Fare) (s : State) : (onFare f s).power = s.power := rfl
@[simp] theorem onFare_resetHeld (f : Fare → Fare) (s : State) : (onFare f s).resetHeld = s.resetHeld := rfl
@[simp] theorem onFare_doorLine (f : Fare → Fare) (s : State) : (onFare f s).doorLine = s.doorLine := rfl
@[simp] theorem onFare_fare (f : Fare → Fare) (s : State) : (onFare f s).fare = f s.fare := rfl
@[simp] theorem onFare_cash (f : Fare → Fare) (s : State) : (onFare f s).cash = s.cash := rfl
@[simp] theorem onFare_coins (f : Fare → Fare) (s : State) : (onFare f s).coins = s.coins := rfl
@[simp] theorem onFare_change (f : Fare → Fare) (s : State) : (onFare f s).change = s.change := rfl
@[simp] theorem onFare_cards (f : Fare → Fare) (s : State) : (onFare f s).cards = s.cards := rfl
@[simp] theorem onFare_sales (f : Fare → Fare) (s : State) : (onFare f s).sales = s.sales := rfl
@[simp] theorem onFare_print (f : Fare → Fare) (s : State) : (onFare f s).print = s.print := rfl
@[simp] theorem onFare_journal (f : Fare → Fare) (s : State) : (onFare f s).journal = s.journal := rfl
@[simp] theorem onFare_link (f : Fare → Fare) (s : State) : (onFare f s).link = s.link := rfl
@[simp] theorem onFare_port (f : Fare → Fare) (s : State) : (onFare f s).port = s.port := rfl
@[simp] theorem onFare_pending (f : Fare → Fare) (s : State) : (onFare f s).pending = s.pending := rfl

@[simp] theorem onCash_power (f : Cash → Cash) (s : State) : (onCash f s).power = s.power := rfl
@[simp] theorem onCash_resetHeld (f : Cash → Cash) (s : State) : (onCash f s).resetHeld = s.resetHeld := rfl
@[simp] theorem onCash_doorLine (f : Cash → Cash) (s : State) : (onCash f s).doorLine = s.doorLine := rfl
@[simp] theorem onCash_fare (f : Cash → Cash) (s : State) : (onCash f s).fare = s.fare := rfl
@[simp] theorem onCash_cash (f : Cash → Cash) (s : State) : (onCash f s).cash = f s.cash := rfl
@[simp] theorem onCash_coins (f : Cash → Cash) (s : State) : (onCash f s).coins = s.coins := rfl
@[simp] theorem onCash_change (f : Cash → Cash) (s : State) : (onCash f s).change = s.change := rfl
@[simp] theorem onCash_cards (f : Cash → Cash) (s : State) : (onCash f s).cards = s.cards := rfl
@[simp] theorem onCash_sales (f : Cash → Cash) (s : State) : (onCash f s).sales = s.sales := rfl
@[simp] theorem onCash_print (f : Cash → Cash) (s : State) : (onCash f s).print = s.print := rfl
@[simp] theorem onCash_journal (f : Cash → Cash) (s : State) : (onCash f s).journal = s.journal := rfl
@[simp] theorem onCash_link (f : Cash → Cash) (s : State) : (onCash f s).link = s.link := rfl
@[simp] theorem onCash_port (f : Cash → Cash) (s : State) : (onCash f s).port = s.port := rfl
@[simp] theorem onCash_pending (f : Cash → Cash) (s : State) : (onCash f s).pending = s.pending := rfl

@[simp] theorem onLane_power (p : Position) (f : Lane → Lane) (s : State) : (onLane p f s).power = s.power := rfl
@[simp] theorem onLane_resetHeld (p : Position) (f : Lane → Lane) (s : State) : (onLane p f s).resetHeld = s.resetHeld := rfl
@[simp] theorem onLane_doorLine (p : Position) (f : Lane → Lane) (s : State) : (onLane p f s).doorLine = s.doorLine := rfl
@[simp] theorem onLane_fare (p : Position) (f : Lane → Lane) (s : State) : (onLane p f s).fare = s.fare := rfl
@[simp] theorem onLane_cash (p : Position) (f : Lane → Lane) (s : State) : (onLane p f s).cash = s.cash := rfl
@[simp] theorem onLane_coins (p : Position) (f : Lane → Lane) (s : State) : (onLane p f s).coins = s.coins.modify p f := rfl
@[simp] theorem onLane_change (p : Position) (f : Lane → Lane) (s : State) : (onLane p f s).change = s.change := rfl
@[simp] theorem onLane_cards (p : Position) (f : Lane → Lane) (s : State) : (onLane p f s).cards = s.cards := rfl
@[simp] theorem onLane_sales (p : Position) (f : Lane → Lane) (s : State) : (onLane p f s).sales = s.sales := rfl
@[simp] theorem onLane_print (p : Position) (f : Lane → Lane) (s : State) : (onLane p f s).print = s.print := rfl
@[simp] theorem onLane_journal (p : Position) (f : Lane → Lane) (s : State) : (onLane p f s).journal = s.journal := rfl
@[simp] theorem onLane_link (p : Position) (f : Lane → Lane) (s : State) : (onLane p f s).link = s.link := rfl
@[simp] theorem onLane_port (p : Position) (f : Lane → Lane) (s : State) : (onLane p f s).port = s.port := rfl
@[simp] theorem onLane_pending (p : Position) (f : Lane → Lane) (s : State) : (onLane p f s).pending = s.pending := rfl

@[simp] theorem onChange_power (f : ChangeStore → ChangeStore) (s : State) : (onChange f s).power = s.power := rfl
@[simp] theorem onChange_resetHeld (f : ChangeStore → ChangeStore) (s : State) : (onChange f s).resetHeld = s.resetHeld := rfl
@[simp] theorem onChange_doorLine (f : ChangeStore → ChangeStore) (s : State) : (onChange f s).doorLine = s.doorLine := rfl
@[simp] theorem onChange_fare (f : ChangeStore → ChangeStore) (s : State) : (onChange f s).fare = s.fare := rfl
@[simp] theorem onChange_cash (f : ChangeStore → ChangeStore) (s : State) : (onChange f s).cash = s.cash := rfl
@[simp] theorem onChange_coins (f : ChangeStore → ChangeStore) (s : State) : (onChange f s).coins = s.coins := rfl
@[simp] theorem onChange_change (f : ChangeStore → ChangeStore) (s : State) : (onChange f s).change = f s.change := rfl
@[simp] theorem onChange_cards (f : ChangeStore → ChangeStore) (s : State) : (onChange f s).cards = s.cards := rfl
@[simp] theorem onChange_sales (f : ChangeStore → ChangeStore) (s : State) : (onChange f s).sales = s.sales := rfl
@[simp] theorem onChange_print (f : ChangeStore → ChangeStore) (s : State) : (onChange f s).print = s.print := rfl
@[simp] theorem onChange_journal (f : ChangeStore → ChangeStore) (s : State) : (onChange f s).journal = s.journal := rfl
@[simp] theorem onChange_link (f : ChangeStore → ChangeStore) (s : State) : (onChange f s).link = s.link := rfl
@[simp] theorem onChange_port (f : ChangeStore → ChangeStore) (s : State) : (onChange f s).port = s.port := rfl
@[simp] theorem onChange_pending (f : ChangeStore → ChangeStore) (s : State) : (onChange f s).pending = s.pending := rfl

@[simp] theorem onCards_power (f : Cards → Cards) (s : State) : (onCards f s).power = s.power := rfl
@[simp] theorem onCards_resetHeld (f : Cards → Cards) (s : State) : (onCards f s).resetHeld = s.resetHeld := rfl
@[simp] theorem onCards_doorLine (f : Cards → Cards) (s : State) : (onCards f s).doorLine = s.doorLine := rfl
@[simp] theorem onCards_fare (f : Cards → Cards) (s : State) : (onCards f s).fare = s.fare := rfl
@[simp] theorem onCards_cash (f : Cards → Cards) (s : State) : (onCards f s).cash = s.cash := rfl
@[simp] theorem onCards_coins (f : Cards → Cards) (s : State) : (onCards f s).coins = s.coins := rfl
@[simp] theorem onCards_change (f : Cards → Cards) (s : State) : (onCards f s).change = s.change := rfl
@[simp] theorem onCards_cards (f : Cards → Cards) (s : State) : (onCards f s).cards = f s.cards := rfl
@[simp] theorem onCards_sales (f : Cards → Cards) (s : State) : (onCards f s).sales = s.sales := rfl
@[simp] theorem onCards_print (f : Cards → Cards) (s : State) : (onCards f s).print = s.print := rfl
@[simp] theorem onCards_journal (f : Cards → Cards) (s : State) : (onCards f s).journal = s.journal := rfl
@[simp] theorem onCards_link (f : Cards → Cards) (s : State) : (onCards f s).link = s.link := rfl
@[simp] theorem onCards_port (f : Cards → Cards) (s : State) : (onCards f s).port = s.port := rfl
@[simp] theorem onCards_pending (f : Cards → Cards) (s : State) : (onCards f s).pending = s.pending := rfl

@[simp] theorem onSales_power (f : Sales → Sales) (s : State) : (onSales f s).power = s.power := rfl
@[simp] theorem onSales_resetHeld (f : Sales → Sales) (s : State) : (onSales f s).resetHeld = s.resetHeld := rfl
@[simp] theorem onSales_doorLine (f : Sales → Sales) (s : State) : (onSales f s).doorLine = s.doorLine := rfl
@[simp] theorem onSales_fare (f : Sales → Sales) (s : State) : (onSales f s).fare = s.fare := rfl
@[simp] theorem onSales_cash (f : Sales → Sales) (s : State) : (onSales f s).cash = s.cash := rfl
@[simp] theorem onSales_coins (f : Sales → Sales) (s : State) : (onSales f s).coins = s.coins := rfl
@[simp] theorem onSales_change (f : Sales → Sales) (s : State) : (onSales f s).change = s.change := rfl
@[simp] theorem onSales_cards (f : Sales → Sales) (s : State) : (onSales f s).cards = s.cards := rfl
@[simp] theorem onSales_sales (f : Sales → Sales) (s : State) : (onSales f s).sales = f s.sales := rfl
@[simp] theorem onSales_print (f : Sales → Sales) (s : State) : (onSales f s).print = s.print := rfl
@[simp] theorem onSales_journal (f : Sales → Sales) (s : State) : (onSales f s).journal = s.journal := rfl
@[simp] theorem onSales_link (f : Sales → Sales) (s : State) : (onSales f s).link = s.link := rfl
@[simp] theorem onSales_port (f : Sales → Sales) (s : State) : (onSales f s).port = s.port := rfl
@[simp] theorem onSales_pending (f : Sales → Sales) (s : State) : (onSales f s).pending = s.pending := rfl

@[simp] theorem onPrint_power (f : PrintUnit → PrintUnit) (s : State) : (onPrint f s).power = s.power := rfl
@[simp] theorem onPrint_resetHeld (f : PrintUnit → PrintUnit) (s : State) : (onPrint f s).resetHeld = s.resetHeld := rfl
@[simp] theorem onPrint_doorLine (f : PrintUnit → PrintUnit) (s : State) : (onPrint f s).doorLine = s.doorLine := rfl
@[simp] theorem onPrint_fare (f : PrintUnit → PrintUnit) (s : State) : (onPrint f s).fare = s.fare := rfl
@[simp] theorem onPrint_cash (f : PrintUnit → PrintUnit) (s : State) : (onPrint f s).cash = s.cash := rfl
@[simp] theorem onPrint_coins (f : PrintUnit → PrintUnit) (s : State) : (onPrint f s).coins = s.coins := rfl
@[simp] theorem onPrint_change (f : PrintUnit → PrintUnit) (s : State) : (onPrint f s).change = s.change := rfl
@[simp] theorem onPrint_cards (f : PrintUnit → PrintUnit) (s : State) : (onPrint f s).cards = s.cards := rfl
@[simp] theorem onPrint_sales (f : PrintUnit → PrintUnit) (s : State) : (onPrint f s).sales = s.sales := rfl
@[simp] theorem onPrint_print (f : PrintUnit → PrintUnit) (s : State) : (onPrint f s).print = f s.print := rfl
@[simp] theorem onPrint_journal (f : PrintUnit → PrintUnit) (s : State) : (onPrint f s).journal = s.journal := rfl
@[simp] theorem onPrint_link (f : PrintUnit → PrintUnit) (s : State) : (onPrint f s).link = s.link := rfl
@[simp] theorem onPrint_port (f : PrintUnit → PrintUnit) (s : State) : (onPrint f s).port = s.port := rfl
@[simp] theorem onPrint_pending (f : PrintUnit → PrintUnit) (s : State) : (onPrint f s).pending = s.pending := rfl

@[simp] theorem onJournal_power (f : Journal → Journal) (s : State) : (onJournal f s).power = s.power := rfl
@[simp] theorem onJournal_resetHeld (f : Journal → Journal) (s : State) : (onJournal f s).resetHeld = s.resetHeld := rfl
@[simp] theorem onJournal_doorLine (f : Journal → Journal) (s : State) : (onJournal f s).doorLine = s.doorLine := rfl
@[simp] theorem onJournal_fare (f : Journal → Journal) (s : State) : (onJournal f s).fare = s.fare := rfl
@[simp] theorem onJournal_cash (f : Journal → Journal) (s : State) : (onJournal f s).cash = s.cash := rfl
@[simp] theorem onJournal_coins (f : Journal → Journal) (s : State) : (onJournal f s).coins = s.coins := rfl
@[simp] theorem onJournal_change (f : Journal → Journal) (s : State) : (onJournal f s).change = s.change := rfl
@[simp] theorem onJournal_cards (f : Journal → Journal) (s : State) : (onJournal f s).cards = s.cards := rfl
@[simp] theorem onJournal_sales (f : Journal → Journal) (s : State) : (onJournal f s).sales = s.sales := rfl
@[simp] theorem onJournal_print (f : Journal → Journal) (s : State) : (onJournal f s).print = s.print := rfl
@[simp] theorem onJournal_journal (f : Journal → Journal) (s : State) : (onJournal f s).journal = f s.journal := rfl
@[simp] theorem onJournal_link (f : Journal → Journal) (s : State) : (onJournal f s).link = s.link := rfl
@[simp] theorem onJournal_port (f : Journal → Journal) (s : State) : (onJournal f s).port = s.port := rfl
@[simp] theorem onJournal_pending (f : Journal → Journal) (s : State) : (onJournal f s).pending = s.pending := rfl

@[simp] theorem onLink_power (f : Link → Link) (s : State) : (onLink f s).power = s.power := rfl
@[simp] theorem onLink_resetHeld (f : Link → Link) (s : State) : (onLink f s).resetHeld = s.resetHeld := rfl
@[simp] theorem onLink_doorLine (f : Link → Link) (s : State) : (onLink f s).doorLine = s.doorLine := rfl
@[simp] theorem onLink_fare (f : Link → Link) (s : State) : (onLink f s).fare = s.fare := rfl
@[simp] theorem onLink_cash (f : Link → Link) (s : State) : (onLink f s).cash = s.cash := rfl
@[simp] theorem onLink_coins (f : Link → Link) (s : State) : (onLink f s).coins = s.coins := rfl
@[simp] theorem onLink_change (f : Link → Link) (s : State) : (onLink f s).change = s.change := rfl
@[simp] theorem onLink_cards (f : Link → Link) (s : State) : (onLink f s).cards = s.cards := rfl
@[simp] theorem onLink_sales (f : Link → Link) (s : State) : (onLink f s).sales = s.sales := rfl
@[simp] theorem onLink_print (f : Link → Link) (s : State) : (onLink f s).print = s.print := rfl
@[simp] theorem onLink_journal (f : Link → Link) (s : State) : (onLink f s).journal = s.journal := rfl
@[simp] theorem onLink_link (f : Link → Link) (s : State) : (onLink f s).link = f s.link := rfl
@[simp] theorem onLink_port (f : Link → Link) (s : State) : (onLink f s).port = s.port := rfl
@[simp] theorem onLink_pending (f : Link → Link) (s : State) : (onLink f s).pending = s.pending := rfl

@[simp] theorem onPort_power (f : Port → Port) (s : State) : (onPort f s).power = s.power := rfl
@[simp] theorem onPort_resetHeld (f : Port → Port) (s : State) : (onPort f s).resetHeld = s.resetHeld := rfl
@[simp] theorem onPort_doorLine (f : Port → Port) (s : State) : (onPort f s).doorLine = s.doorLine := rfl
@[simp] theorem onPort_fare (f : Port → Port) (s : State) : (onPort f s).fare = s.fare := rfl
@[simp] theorem onPort_cash (f : Port → Port) (s : State) : (onPort f s).cash = s.cash := rfl
@[simp] theorem onPort_coins (f : Port → Port) (s : State) : (onPort f s).coins = s.coins := rfl
@[simp] theorem onPort_change (f : Port → Port) (s : State) : (onPort f s).change = s.change := rfl
@[simp] theorem onPort_cards (f : Port → Port) (s : State) : (onPort f s).cards = s.cards := rfl
@[simp] theorem onPort_sales (f : Port → Port) (s : State) : (onPort f s).sales = s.sales := rfl
@[simp] theorem onPort_print (f : Port → Port) (s : State) : (onPort f s).print = s.print := rfl
@[simp] theorem onPort_journal (f : Port → Port) (s : State) : (onPort f s).journal = s.journal := rfl
@[simp] theorem onPort_link (f : Port → Port) (s : State) : (onPort f s).link = s.link := rfl
@[simp] theorem onPort_port (f : Port → Port) (s : State) : (onPort f s).port = f s.port := rfl
@[simp] theorem onPort_pending (f : Port → Port) (s : State) : (onPort f s).pending = s.pending := rfl

/-! ### Updates of one entry -/

@[simp] theorem onSess_power (p : Position) (f : Session → Session) (s : State) : (onSess p f s).power = s.power := rfl
@[simp] theorem onSess_resetHeld (p : Position) (f : Session → Session) (s : State) : (onSess p f s).resetHeld = s.resetHeld := rfl
@[simp] theorem onSess_doorLine (p : Position) (f : Session → Session) (s : State) : (onSess p f s).doorLine = s.doorLine := rfl
@[simp] theorem onSess_fare (p : Position) (f : Session → Session) (s : State) : (onSess p f s).fare = s.fare := rfl
@[simp] theorem onSess_cash (p : Position) (f : Session → Session) (s : State) : (onSess p f s).cash = s.cash := rfl
@[simp] theorem onSess_coins (p : Position) (f : Session → Session) (s : State) : (onSess p f s).coins = s.coins := rfl
@[simp] theorem onSess_change (p : Position) (f : Session → Session) (s : State) : (onSess p f s).change = s.change := rfl
@[simp] theorem onSess_cards (p : Position) (f : Session → Session) (s : State) : (onSess p f s).cards = s.cards := rfl
@[simp] theorem onSess_sales (p : Position) (f : Session → Session) (s : State) : (onSess p f s).sales = { s.sales with sess := s.sales.sess.modify p f } := rfl
@[simp] theorem onSess_print (p : Position) (f : Session → Session) (s : State) : (onSess p f s).print = s.print := rfl
@[simp] theorem onSess_journal (p : Position) (f : Session → Session) (s : State) : (onSess p f s).journal = s.journal := rfl
@[simp] theorem onSess_link (p : Position) (f : Session → Session) (s : State) : (onSess p f s).link = s.link := rfl
@[simp] theorem onSess_port (p : Position) (f : Session → Session) (s : State) : (onSess p f s).port = s.port := rfl
@[simp] theorem onSess_pending (p : Position) (f : Session → Session) (s : State) : (onSess p f s).pending = s.pending := rfl

@[simp] theorem onPeriph_power (a : Addr) (f : Peripheral → Peripheral) (s : State) : (onPeriph a f s).power = s.power := rfl
@[simp] theorem onPeriph_resetHeld (a : Addr) (f : Peripheral → Peripheral) (s : State) : (onPeriph a f s).resetHeld = s.resetHeld := rfl
@[simp] theorem onPeriph_doorLine (a : Addr) (f : Peripheral → Peripheral) (s : State) : (onPeriph a f s).doorLine = s.doorLine := rfl
@[simp] theorem onPeriph_fare (a : Addr) (f : Peripheral → Peripheral) (s : State) : (onPeriph a f s).fare = s.fare := rfl
@[simp] theorem onPeriph_cash (a : Addr) (f : Peripheral → Peripheral) (s : State) : (onPeriph a f s).cash = s.cash := rfl
@[simp] theorem onPeriph_coins (a : Addr) (f : Peripheral → Peripheral) (s : State) : (onPeriph a f s).coins = s.coins := rfl
@[simp] theorem onPeriph_change (a : Addr) (f : Peripheral → Peripheral) (s : State) : (onPeriph a f s).change = s.change := rfl
@[simp] theorem onPeriph_cards (a : Addr) (f : Peripheral → Peripheral) (s : State) : (onPeriph a f s).cards = s.cards := rfl
@[simp] theorem onPeriph_sales (a : Addr) (f : Peripheral → Peripheral) (s : State) : (onPeriph a f s).sales = s.sales := rfl
@[simp] theorem onPeriph_print (a : Addr) (f : Peripheral → Peripheral) (s : State) : (onPeriph a f s).print = s.print := rfl
@[simp] theorem onPeriph_journal (a : Addr) (f : Peripheral → Peripheral) (s : State) : (onPeriph a f s).journal = s.journal := rfl
@[simp] theorem onPeriph_link (a : Addr) (f : Peripheral → Peripheral) (s : State) : (onPeriph a f s).link = { s.link with periph := vmodify s.link.periph (addrIndex a) f } := rfl
@[simp] theorem onPeriph_port (a : Addr) (f : Peripheral → Peripheral) (s : State) : (onPeriph a f s).port = s.port := rfl
@[simp] theorem onPeriph_pending (a : Addr) (f : Peripheral → Peripheral) (s : State) : (onPeriph a f s).pending = s.pending := rfl

@[simp] theorem onTube_power (t : Fin 6) (f : Tube → Tube) (s : State) : (onTube t f s).power = s.power := rfl
@[simp] theorem onTube_resetHeld (t : Fin 6) (f : Tube → Tube) (s : State) : (onTube t f s).resetHeld = s.resetHeld := rfl
@[simp] theorem onTube_doorLine (t : Fin 6) (f : Tube → Tube) (s : State) : (onTube t f s).doorLine = s.doorLine := rfl
@[simp] theorem onTube_fare (t : Fin 6) (f : Tube → Tube) (s : State) : (onTube t f s).fare = s.fare := rfl
@[simp] theorem onTube_cash (t : Fin 6) (f : Tube → Tube) (s : State) : (onTube t f s).cash = s.cash := rfl
@[simp] theorem onTube_coins (t : Fin 6) (f : Tube → Tube) (s : State) : (onTube t f s).coins = s.coins := rfl
@[simp] theorem onTube_change (t : Fin 6) (f : Tube → Tube) (s : State) : (onTube t f s).change = { s.change with tubes := vmodify s.change.tubes t f } := rfl
@[simp] theorem onTube_cards (t : Fin 6) (f : Tube → Tube) (s : State) : (onTube t f s).cards = s.cards := rfl
@[simp] theorem onTube_sales (t : Fin 6) (f : Tube → Tube) (s : State) : (onTube t f s).sales = s.sales := rfl
@[simp] theorem onTube_print (t : Fin 6) (f : Tube → Tube) (s : State) : (onTube t f s).print = s.print := rfl
@[simp] theorem onTube_journal (t : Fin 6) (f : Tube → Tube) (s : State) : (onTube t f s).journal = s.journal := rfl
@[simp] theorem onTube_link (t : Fin 6) (f : Tube → Tube) (s : State) : (onTube t f s).link = s.link := rfl
@[simp] theorem onTube_port (t : Fin 6) (f : Tube → Tube) (s : State) : (onTube t f s).port = s.port := rfl
@[simp] theorem onTube_pending (t : Fin 6) (f : Tube → Tube) (s : State) : (onTube t f s).pending = s.pending := rfl

@[simp] theorem onBox_power (f : Box → Box) (s : State) : (onBox f s).power = s.power := rfl
@[simp] theorem onBox_resetHeld (f : Box → Box) (s : State) : (onBox f s).resetHeld = s.resetHeld := rfl
@[simp] theorem onBox_doorLine (f : Box → Box) (s : State) : (onBox f s).doorLine = s.doorLine := rfl
@[simp] theorem onBox_fare (f : Box → Box) (s : State) : (onBox f s).fare = s.fare := rfl
@[simp] theorem onBox_cash (f : Box → Box) (s : State) : (onBox f s).cash = s.cash := rfl
@[simp] theorem onBox_coins (f : Box → Box) (s : State) : (onBox f s).coins = s.coins := rfl
@[simp] theorem onBox_change (f : Box → Box) (s : State) : (onBox f s).change = { s.change with box := f s.change.box } := rfl
@[simp] theorem onBox_cards (f : Box → Box) (s : State) : (onBox f s).cards = s.cards := rfl
@[simp] theorem onBox_sales (f : Box → Box) (s : State) : (onBox f s).sales = s.sales := rfl
@[simp] theorem onBox_print (f : Box → Box) (s : State) : (onBox f s).print = s.print := rfl
@[simp] theorem onBox_journal (f : Box → Box) (s : State) : (onBox f s).journal = s.journal := rfl
@[simp] theorem onBox_link (f : Box → Box) (s : State) : (onBox f s).link = s.link := rfl
@[simp] theorem onBox_port (f : Box → Box) (s : State) : (onBox f s).port = s.port := rfl
@[simp] theorem onBox_pending (f : Box → Box) (s : State) : (onBox f s).pending = s.pending := rfl

@[simp] theorem onResv_power (p : Position) (f : Reserve → Reserve) (s : State) : (onResv p f s).power = s.power := rfl
@[simp] theorem onResv_resetHeld (p : Position) (f : Reserve → Reserve) (s : State) : (onResv p f s).resetHeld = s.resetHeld := rfl
@[simp] theorem onResv_doorLine (p : Position) (f : Reserve → Reserve) (s : State) : (onResv p f s).doorLine = s.doorLine := rfl
@[simp] theorem onResv_fare (p : Position) (f : Reserve → Reserve) (s : State) : (onResv p f s).fare = s.fare := rfl
@[simp] theorem onResv_cash (p : Position) (f : Reserve → Reserve) (s : State) : (onResv p f s).cash = s.cash := rfl
@[simp] theorem onResv_coins (p : Position) (f : Reserve → Reserve) (s : State) : (onResv p f s).coins = s.coins := rfl
@[simp] theorem onResv_change (p : Position) (f : Reserve → Reserve) (s : State) : (onResv p f s).change = { s.change with resv := s.change.resv.modify p f } := rfl
@[simp] theorem onResv_cards (p : Position) (f : Reserve → Reserve) (s : State) : (onResv p f s).cards = s.cards := rfl
@[simp] theorem onResv_sales (p : Position) (f : Reserve → Reserve) (s : State) : (onResv p f s).sales = s.sales := rfl
@[simp] theorem onResv_print (p : Position) (f : Reserve → Reserve) (s : State) : (onResv p f s).print = s.print := rfl
@[simp] theorem onResv_journal (p : Position) (f : Reserve → Reserve) (s : State) : (onResv p f s).journal = s.journal := rfl
@[simp] theorem onResv_link (p : Position) (f : Reserve → Reserve) (s : State) : (onResv p f s).link = s.link := rfl
@[simp] theorem onResv_port (p : Position) (f : Reserve → Reserve) (s : State) : (onResv p f s).port = s.port := rfl
@[simp] theorem onResv_pending (p : Position) (f : Reserve → Reserve) (s : State) : (onResv p f s).pending = s.pending := rfl

@[simp] theorem onEntry_power (e : Fin 4) (f : PendingEntry → PendingEntry) (s : State) : (onEntry e f s).power = s.power := rfl
@[simp] theorem onEntry_resetHeld (e : Fin 4) (f : PendingEntry → PendingEntry) (s : State) : (onEntry e f s).resetHeld = s.resetHeld := rfl
@[simp] theorem onEntry_doorLine (e : Fin 4) (f : PendingEntry → PendingEntry) (s : State) : (onEntry e f s).doorLine = s.doorLine := rfl
@[simp] theorem onEntry_fare (e : Fin 4) (f : PendingEntry → PendingEntry) (s : State) : (onEntry e f s).fare = s.fare := rfl
@[simp] theorem onEntry_cash (e : Fin 4) (f : PendingEntry → PendingEntry) (s : State) : (onEntry e f s).cash = s.cash := rfl
@[simp] theorem onEntry_coins (e : Fin 4) (f : PendingEntry → PendingEntry) (s : State) : (onEntry e f s).coins = s.coins := rfl
@[simp] theorem onEntry_change (e : Fin 4) (f : PendingEntry → PendingEntry) (s : State) : (onEntry e f s).change = s.change := rfl
@[simp] theorem onEntry_cards (e : Fin 4) (f : PendingEntry → PendingEntry) (s : State) : (onEntry e f s).cards = { s.cards with entries := vmodify s.cards.entries e f } := rfl
@[simp] theorem onEntry_sales (e : Fin 4) (f : PendingEntry → PendingEntry) (s : State) : (onEntry e f s).sales = s.sales := rfl
@[simp] theorem onEntry_print (e : Fin 4) (f : PendingEntry → PendingEntry) (s : State) : (onEntry e f s).print = s.print := rfl
@[simp] theorem onEntry_journal (e : Fin 4) (f : PendingEntry → PendingEntry) (s : State) : (onEntry e f s).journal = s.journal := rfl
@[simp] theorem onEntry_link (e : Fin 4) (f : PendingEntry → PendingEntry) (s : State) : (onEntry e f s).link = s.link := rfl
@[simp] theorem onEntry_port (e : Fin 4) (f : PendingEntry → PendingEntry) (s : State) : (onEntry e f s).port = s.port := rfl
@[simp] theorem onEntry_pending (e : Fin 4) (f : PendingEntry → PendingEntry) (s : State) : (onEntry e f s).pending = s.pending := rfl

@[simp] theorem setRead_power (p : Position) (r : ReadPhase) (s : State) : (setRead p r s).power = s.power := rfl
@[simp] theorem setRead_resetHeld (p : Position) (r : ReadPhase) (s : State) : (setRead p r s).resetHeld = s.resetHeld := rfl
@[simp] theorem setRead_doorLine (p : Position) (r : ReadPhase) (s : State) : (setRead p r s).doorLine = s.doorLine := rfl
@[simp] theorem setRead_fare (p : Position) (r : ReadPhase) (s : State) : (setRead p r s).fare = s.fare := rfl
@[simp] theorem setRead_cash (p : Position) (r : ReadPhase) (s : State) : (setRead p r s).cash = s.cash := rfl
@[simp] theorem setRead_coins (p : Position) (r : ReadPhase) (s : State) : (setRead p r s).coins = s.coins := rfl
@[simp] theorem setRead_change (p : Position) (r : ReadPhase) (s : State) : (setRead p r s).change = s.change := rfl
@[simp] theorem setRead_cards (p : Position) (r : ReadPhase) (s : State) : (setRead p r s).cards = { s.cards with reads := s.cards.reads.set p r } := rfl
@[simp] theorem setRead_sales (p : Position) (r : ReadPhase) (s : State) : (setRead p r s).sales = s.sales := rfl
@[simp] theorem setRead_print (p : Position) (r : ReadPhase) (s : State) : (setRead p r s).print = s.print := rfl
@[simp] theorem setRead_journal (p : Position) (r : ReadPhase) (s : State) : (setRead p r s).journal = s.journal := rfl
@[simp] theorem setRead_link (p : Position) (r : ReadPhase) (s : State) : (setRead p r s).link = s.link := rfl
@[simp] theorem setRead_port (p : Position) (r : ReadPhase) (s : State) : (setRead p r s).port = s.port := rfl
@[simp] theorem setRead_pending (p : Position) (r : ReadPhase) (s : State) : (setRead p r s).pending = s.pending := rfl

@[simp] theorem setSlot_power (i : Fin 8) (x : Slot) (s : State) : (setSlot i x s).power = s.power := rfl
@[simp] theorem setSlot_resetHeld (i : Fin 8) (x : Slot) (s : State) : (setSlot i x s).resetHeld = s.resetHeld := rfl
@[simp] theorem setSlot_doorLine (i : Fin 8) (x : Slot) (s : State) : (setSlot i x s).doorLine = s.doorLine := rfl
@[simp] theorem setSlot_fare (i : Fin 8) (x : Slot) (s : State) : (setSlot i x s).fare = s.fare := rfl
@[simp] theorem setSlot_cash (i : Fin 8) (x : Slot) (s : State) : (setSlot i x s).cash = s.cash := rfl
@[simp] theorem setSlot_coins (i : Fin 8) (x : Slot) (s : State) : (setSlot i x s).coins = s.coins := rfl
@[simp] theorem setSlot_change (i : Fin 8) (x : Slot) (s : State) : (setSlot i x s).change = s.change := rfl
@[simp] theorem setSlot_cards (i : Fin 8) (x : Slot) (s : State) : (setSlot i x s).cards = s.cards := rfl
@[simp] theorem setSlot_sales (i : Fin 8) (x : Slot) (s : State) : (setSlot i x s).sales = s.sales := rfl
@[simp] theorem setSlot_print (i : Fin 8) (x : Slot) (s : State) : (setSlot i x s).print = { s.print with slots := vset s.print.slots i x } := rfl
@[simp] theorem setSlot_journal (i : Fin 8) (x : Slot) (s : State) : (setSlot i x s).journal = s.journal := rfl
@[simp] theorem setSlot_link (i : Fin 8) (x : Slot) (s : State) : (setSlot i x s).link = s.link := rfl
@[simp] theorem setSlot_port (i : Fin 8) (x : Slot) (s : State) : (setSlot i x s).port = s.port := rfl
@[simp] theorem setSlot_pending (i : Fin 8) (x : Slot) (s : State) : (setSlot i x s).pending = s.pending := rfl

@[simp] theorem setPending_power (cs : List Instr) (s : State) : (setPending cs s).power = s.power := rfl
@[simp] theorem setPending_resetHeld (cs : List Instr) (s : State) : (setPending cs s).resetHeld = s.resetHeld := rfl
@[simp] theorem setPending_doorLine (cs : List Instr) (s : State) : (setPending cs s).doorLine = s.doorLine := rfl
@[simp] theorem setPending_fare (cs : List Instr) (s : State) : (setPending cs s).fare = s.fare := rfl
@[simp] theorem setPending_cash (cs : List Instr) (s : State) : (setPending cs s).cash = s.cash := rfl
@[simp] theorem setPending_coins (cs : List Instr) (s : State) : (setPending cs s).coins = s.coins := rfl
@[simp] theorem setPending_change (cs : List Instr) (s : State) : (setPending cs s).change = s.change := rfl
@[simp] theorem setPending_cards (cs : List Instr) (s : State) : (setPending cs s).cards = s.cards := rfl
@[simp] theorem setPending_sales (cs : List Instr) (s : State) : (setPending cs s).sales = s.sales := rfl
@[simp] theorem setPending_print (cs : List Instr) (s : State) : (setPending cs s).print = s.print := rfl
@[simp] theorem setPending_journal (cs : List Instr) (s : State) : (setPending cs s).journal = s.journal := rfl
@[simp] theorem setPending_link (cs : List Instr) (s : State) : (setPending cs s).link = s.link := rfl
@[simp] theorem setPending_port (cs : List Instr) (s : State) : (setPending cs s).port = s.port := rfl
@[simp] theorem setPending_pending (cs : List Instr) (s : State) : (setPending cs s).pending = cs := rfl

@[simp] theorem setReset_power (b : Bool) (s : State) : (setReset b s).power = s.power := rfl
@[simp] theorem setReset_resetHeld (b : Bool) (s : State) : (setReset b s).resetHeld = b := rfl
@[simp] theorem setReset_doorLine (b : Bool) (s : State) : (setReset b s).doorLine = s.doorLine := rfl
@[simp] theorem setReset_fare (b : Bool) (s : State) : (setReset b s).fare = s.fare := rfl
@[simp] theorem setReset_cash (b : Bool) (s : State) : (setReset b s).cash = s.cash := rfl
@[simp] theorem setReset_coins (b : Bool) (s : State) : (setReset b s).coins = s.coins := rfl
@[simp] theorem setReset_change (b : Bool) (s : State) : (setReset b s).change = s.change := rfl
@[simp] theorem setReset_cards (b : Bool) (s : State) : (setReset b s).cards = s.cards := rfl
@[simp] theorem setReset_sales (b : Bool) (s : State) : (setReset b s).sales = s.sales := rfl
@[simp] theorem setReset_print (b : Bool) (s : State) : (setReset b s).print = s.print := rfl
@[simp] theorem setReset_journal (b : Bool) (s : State) : (setReset b s).journal = s.journal := rfl
@[simp] theorem setReset_link (b : Bool) (s : State) : (setReset b s).link = s.link := rfl
@[simp] theorem setReset_port (b : Bool) (s : State) : (setReset b s).port = s.port := rfl
@[simp] theorem setReset_pending (b : Bool) (s : State) : (setReset b s).pending = s.pending := rfl

@[simp] theorem setDoorLine_power (b : Bool) (s : State) : (setDoorLine b s).power = s.power := rfl
@[simp] theorem setDoorLine_resetHeld (b : Bool) (s : State) : (setDoorLine b s).resetHeld = s.resetHeld := rfl
@[simp] theorem setDoorLine_doorLine (b : Bool) (s : State) : (setDoorLine b s).doorLine = b := rfl
@[simp] theorem setDoorLine_fare (b : Bool) (s : State) : (setDoorLine b s).fare = s.fare := rfl
@[simp] theorem setDoorLine_cash (b : Bool) (s : State) : (setDoorLine b s).cash = s.cash := rfl
@[simp] theorem setDoorLine_coins (b : Bool) (s : State) : (setDoorLine b s).coins = s.coins := rfl
@[simp] theorem setDoorLine_change (b : Bool) (s : State) : (setDoorLine b s).change = s.change := rfl
@[simp] theorem setDoorLine_cards (b : Bool) (s : State) : (setDoorLine b s).cards = s.cards := rfl
@[simp] theorem setDoorLine_sales (b : Bool) (s : State) : (setDoorLine b s).sales = s.sales := rfl
@[simp] theorem setDoorLine_print (b : Bool) (s : State) : (setDoorLine b s).print = s.print := rfl
@[simp] theorem setDoorLine_journal (b : Bool) (s : State) : (setDoorLine b s).journal = s.journal := rfl
@[simp] theorem setDoorLine_link (b : Bool) (s : State) : (setDoorLine b s).link = s.link := rfl
@[simp] theorem setDoorLine_port (b : Bool) (s : State) : (setDoorLine b s).port = s.port := rfl
@[simp] theorem setDoorLine_pending (b : Bool) (s : State) : (setDoorLine b s).pending = s.pending := rfl

/-! ### Pairs and vectors -/

@[simp] theorem Pair.get_set_self {α : Type} (x : Pair α) (p : Position) (v : α) : (x.set p v).get p = v := by
  cases p <;> rfl

@[simp] theorem Pair.get_set_other {α : Type} (x : Pair α) (p : Position) (v : α) :
    (x.set p v).get p.other = x.get p.other := by
  cases p <;> rfl

theorem Pair.get_set_ne {α : Type} (x : Pair α) {p q : Position} (h : q ≠ p) (v : α) : (x.set p v).get q = x.get q := by
  cases p <;> cases q <;> first | rfl | exact absurd rfl h

@[simp] theorem Pair.get_both {α : Type} (v : α) (p : Position) : (Pair.both v).get p = v := by
  cases p <;> rfl

theorem vget_eq {α : Type} {n : Nat} (v : Vector α n) (i : Fin n) : vget v i = v[i.val] := rfl

@[simp] theorem vget_vset_self {α : Type} {n : Nat} (v : Vector α n) (i : Fin n) (x : α) : vget (vset v i x) i = x := by
  simp [vget_eq, vset]

theorem vget_vset_ne {α : Type} {n : Nat} (v : Vector α n) {i j : Fin n} (h : j ≠ i) (x : α) :
    vget (vset v i x) j = vget v j := by
  have : i.val ≠ j.val := fun e => h (Fin.ext e.symm)
  simp [vget_eq, vset, this]

@[simp] theorem vget_vtab {α : Type} {n : Nat} (f : Fin n → α) (i : Fin n) : vget (vtab f) i = f i := by
  simp [vget_eq, vtab]

@[simp] theorem vget_vfill {α : Type} (n : Nat) (x : α) (i : Fin n) : vget (vfill n x) i = x := by
  simp [vget_eq, vfill]

@[simp] theorem vget_vmap {α β : Type} {n : Nat} (f : α → β) (v : Vector α n) (i : Fin n) :
    vget (vmap f v) i = f (vget v i) := by
  simp [vget_eq, vmap]

/-! ### Entries after an update -/

@[simp] theorem sess_onSess_self (p : Position) (f : Session → Session) (s : State) :
    sess p (onSess p f s) = f (sess p s) := by
  cases p <;> rfl

@[simp] theorem sess_onSess_other (p : Position) (f : Session → Session) (s : State) :
    sess p.other (onSess p f s) = sess p.other s := by
  cases p <;> rfl

theorem sess_of_sales {s t : State} (p : Position) (h : t.sales = s.sales) : sess p t = sess p s := by
  simp [sess, h]

@[simp] theorem resv_onResv_self (p : Position) (f : Reserve → Reserve) (s : State) :
    resv p (onResv p f s) = f (resv p s) := by
  cases p <;> rfl

@[simp] theorem resv_onResv_other (p : Position) (f : Reserve → Reserve) (s : State) :
    resv p.other (onResv p f s) = resv p.other s := by
  cases p <;> rfl

@[simp] theorem lane_onLane_self (p : Position) (f : Lane → Lane) (s : State) :
    lane p (onLane p f s) = f (lane p s) := by
  cases p <;> rfl

@[simp] theorem lane_onLane_other (p : Position) (f : Lane → Lane) (s : State) :
    lane p.other (onLane p f s) = lane p.other s := by
  cases p <;> rfl

@[simp] theorem readOf_setRead_self (p : Position) (r : ReadPhase) (s : State) : readOf p (setRead p r s) = r := by
  cases p <;> rfl

@[simp] theorem tube_onTube_self (t : Fin 6) (f : Tube → Tube) (s : State) : tube t (onTube t f s) = f (tube t s) := by
  simp [tube, vmodify]

theorem tube_onTube_ne {t u : Fin 6} (h : u ≠ t) (f : Tube → Tube) (s : State) : tube u (onTube t f s) = tube u s := by
  simp [tube, vmodify, vget_vset_ne _ h]

@[simp] theorem entry_onEntry_self (e : Fin 4) (f : PendingEntry → PendingEntry) (s : State) :
    entry e (onEntry e f s) = f (entry e s) := by
  simp [entry, vmodify]

theorem entry_onEntry_ne {e d : Fin 4} (h : d ≠ e) (f : PendingEntry → PendingEntry) (s : State) :
    entry d (onEntry e f s) = entry d s := by
  simp [entry, vmodify, vget_vset_ne _ h]

@[simp] theorem periph_onPeriph_self (a : Addr) (f : Peripheral → Peripheral) (s : State) :
    periph a (onPeriph a f s) = f (periph a s) := by
  simp [periph, vmodify]

theorem addrIndex_inj {a b : Addr} (h : addrIndex a = addrIndex b) : a = b := by
  cases a <;> cases b <;> first | rfl | exact absurd h (by decide)

theorem periph_onPeriph_ne {a b : Addr} (h : b ≠ a) (f : Peripheral → Peripheral) (s : State) :
    periph b (onPeriph a f s) = periph b s := by
  have : addrIndex b ≠ addrIndex a := fun e => h (addrIndex_inj e)
  simp [periph, vmodify, vget_vset_ne _ this]

@[simp] theorem slotOf_setSlot_self (i : Fin 8) (x : Slot) (s : State) : slotOf i (setSlot i x s) = x := by
  simp [slotOf]

theorem slotOf_setSlot_ne {i j : Fin 8} (h : j ≠ i) (x : Slot) (s : State) : slotOf j (setSlot i x s) = slotOf j s := by
  simp [slotOf, vget_vset_ne _ h]

end Sys2Proof.Machine
end

