-- ==== Sys2Proof/Laws/Ops.lean ====
section
/-! SUPPORT. What the shared operations can do, said once: the blocks an operation leaves alone, and for the queues, the
journal and the faults all that it can do. -/

namespace Sys2Proof.Machine

/-! ### The blocks an operation leaves alone -/

@[simp] theorem enqueue_power (a : Answer) (s : State) : (enqueue a s).power = s.power := rfl
@[simp] theorem enqueue_resetHeld (a : Answer) (s : State) : (enqueue a s).resetHeld = s.resetHeld := rfl
@[simp] theorem enqueue_doorLine (a : Answer) (s : State) : (enqueue a s).doorLine = s.doorLine := rfl
@[simp] theorem enqueue_fare (a : Answer) (s : State) : (enqueue a s).fare = s.fare := rfl
@[simp] theorem enqueue_cash (a : Answer) (s : State) : (enqueue a s).cash = s.cash := rfl
@[simp] theorem enqueue_coins (a : Answer) (s : State) : (enqueue a s).coins = s.coins := rfl
@[simp] theorem enqueue_change (a : Answer) (s : State) : (enqueue a s).change = s.change := rfl
@[simp] theorem enqueue_cards (a : Answer) (s : State) : (enqueue a s).cards = s.cards := rfl
@[simp] theorem enqueue_sales (a : Answer) (s : State) : (enqueue a s).sales = s.sales := rfl
@[simp] theorem enqueue_print (a : Answer) (s : State) : (enqueue a s).print = s.print := rfl
@[simp] theorem enqueue_journal (a : Answer) (s : State) : (enqueue a s).journal = s.journal := rfl
@[simp] theorem enqueue_link (a : Answer) (s : State) : (enqueue a s).link = s.link := rfl
@[simp] theorem enqueue_pending (a : Answer) (s : State) : (enqueue a s).pending = s.pending := rfl

@[simp] theorem answerNow_power (ch tag k : Byte) (r : Result) (b : AnswerBody) (s : State) : (answerNow ch tag k r b s).power = s.power := rfl
@[simp] theorem answerNow_resetHeld (ch tag k : Byte) (r : Result) (b : AnswerBody) (s : State) : (answerNow ch tag k r b s).resetHeld = s.resetHeld := rfl
@[simp] theorem answerNow_doorLine (ch tag k : Byte) (r : Result) (b : AnswerBody) (s : State) : (answerNow ch tag k r b s).doorLine = s.doorLine := rfl
@[simp] theorem answerNow_fare (ch tag k : Byte) (r : Result) (b : AnswerBody) (s : State) : (answerNow ch tag k r b s).fare = s.fare := rfl
@[simp] theorem answerNow_cash (ch tag k : Byte) (r : Result) (b : AnswerBody) (s : State) : (answerNow ch tag k r b s).cash = s.cash := rfl
@[simp] theorem answerNow_coins (ch tag k : Byte) (r : Result) (b : AnswerBody) (s : State) : (answerNow ch tag k r b s).coins = s.coins := rfl
@[simp] theorem answerNow_change (ch tag k : Byte) (r : Result) (b : AnswerBody) (s : State) : (answerNow ch tag k r b s).change = s.change := rfl
@[simp] theorem answerNow_cards (ch tag k : Byte) (r : Result) (b : AnswerBody) (s : State) : (answerNow ch tag k r b s).cards = s.cards := rfl
@[simp] theorem answerNow_sales (ch tag k : Byte) (r : Result) (b : AnswerBody) (s : State) : (answerNow ch tag k r b s).sales = s.sales := rfl
@[simp] theorem answerNow_print (ch tag k : Byte) (r : Result) (b : AnswerBody) (s : State) : (answerNow ch tag k r b s).print = s.print := rfl
@[simp] theorem answerNow_journal (ch tag k : Byte) (r : Result) (b : AnswerBody) (s : State) : (answerNow ch tag k r b s).journal = s.journal := rfl
@[simp] theorem answerNow_link (ch tag k : Byte) (r : Result) (b : AnswerBody) (s : State) : (answerNow ch tag k r b s).link = s.link := rfl
@[simp] theorem answerNow_pending (ch tag k : Byte) (r : Result) (b : AnswerBody) (s : State) : (answerNow ch tag k r b s).pending = s.pending := rfl

@[simp] theorem mgmt_power (tag k : Byte) (r : Result) (b : AnswerBody) (s : State) : (mgmt tag k r b s).power = s.power := rfl
@[simp] theorem mgmt_resetHeld (tag k : Byte) (r : Result) (b : AnswerBody) (s : State) : (mgmt tag k r b s).resetHeld = s.resetHeld := rfl
@[simp] theorem mgmt_doorLine (tag k : Byte) (r : Result) (b : AnswerBody) (s : State) : (mgmt tag k r b s).doorLine = s.doorLine := rfl
@[simp] theorem mgmt_fare (tag k : Byte) (r : Result) (b : AnswerBody) (s : State) : (mgmt tag k r b s).fare = s.fare := rfl
@[simp] theorem mgmt_cash (tag k : Byte) (r : Result) (b : AnswerBody) (s : State) : (mgmt tag k r b s).cash = s.cash := rfl
@[simp] theorem mgmt_coins (tag k : Byte) (r : Result) (b : AnswerBody) (s : State) : (mgmt tag k r b s).coins = s.coins := rfl
@[simp] theorem mgmt_change (tag k : Byte) (r : Result) (b : AnswerBody) (s : State) : (mgmt tag k r b s).change = s.change := rfl
@[simp] theorem mgmt_cards (tag k : Byte) (r : Result) (b : AnswerBody) (s : State) : (mgmt tag k r b s).cards = s.cards := rfl
@[simp] theorem mgmt_sales (tag k : Byte) (r : Result) (b : AnswerBody) (s : State) : (mgmt tag k r b s).sales = s.sales := rfl
@[simp] theorem mgmt_print (tag k : Byte) (r : Result) (b : AnswerBody) (s : State) : (mgmt tag k r b s).print = s.print := rfl
@[simp] theorem mgmt_journal (tag k : Byte) (r : Result) (b : AnswerBody) (s : State) : (mgmt tag k r b s).journal = s.journal := rfl
@[simp] theorem mgmt_link (tag k : Byte) (r : Result) (b : AnswerBody) (s : State) : (mgmt tag k r b s).link = s.link := rfl
@[simp] theorem mgmt_pending (tag k : Byte) (r : Result) (b : AnswerBody) (s : State) : (mgmt tag k r b s).pending = s.pending := rfl

@[simp] theorem notify_power (c : Nat) (b : NoticeBody) (s : State) : (notify c b s).power = s.power := rfl
@[simp] theorem notify_resetHeld (c : Nat) (b : NoticeBody) (s : State) : (notify c b s).resetHeld = s.resetHeld := rfl
@[simp] theorem notify_doorLine (c : Nat) (b : NoticeBody) (s : State) : (notify c b s).doorLine = s.doorLine := rfl
@[simp] theorem notify_fare (c : Nat) (b : NoticeBody) (s : State) : (notify c b s).fare = s.fare := rfl
@[simp] theorem notify_cash (c : Nat) (b : NoticeBody) (s : State) : (notify c b s).cash = s.cash := rfl
@[simp] theorem notify_coins (c : Nat) (b : NoticeBody) (s : State) : (notify c b s).coins = s.coins := rfl
@[simp] theorem notify_change (c : Nat) (b : NoticeBody) (s : State) : (notify c b s).change = s.change := rfl
@[simp] theorem notify_cards (c : Nat) (b : NoticeBody) (s : State) : (notify c b s).cards = s.cards := rfl
@[simp] theorem notify_sales (c : Nat) (b : NoticeBody) (s : State) : (notify c b s).sales = s.sales := rfl
@[simp] theorem notify_print (c : Nat) (b : NoticeBody) (s : State) : (notify c b s).print = s.print := rfl
@[simp] theorem notify_journal (c : Nat) (b : NoticeBody) (s : State) : (notify c b s).journal = s.journal := rfl
@[simp] theorem notify_link (c : Nat) (b : NoticeBody) (s : State) : (notify c b s).link = s.link := rfl
@[simp] theorem notify_pending (c : Nat) (b : NoticeBody) (s : State) : (notify c b s).pending = s.pending := rfl

@[simp] theorem takeFrame_power (s : State) : (takeFrame s).power = s.power := rfl
@[simp] theorem takeFrame_resetHeld (s : State) : (takeFrame s).resetHeld = s.resetHeld := rfl
@[simp] theorem takeFrame_doorLine (s : State) : (takeFrame s).doorLine = s.doorLine := rfl
@[simp] theorem takeFrame_fare (s : State) : (takeFrame s).fare = s.fare := rfl
@[simp] theorem takeFrame_cash (s : State) : (takeFrame s).cash = s.cash := rfl
@[simp] theorem takeFrame_coins (s : State) : (takeFrame s).coins = s.coins := rfl
@[simp] theorem takeFrame_change (s : State) : (takeFrame s).change = s.change := rfl
@[simp] theorem takeFrame_cards (s : State) : (takeFrame s).cards = s.cards := rfl
@[simp] theorem takeFrame_sales (s : State) : (takeFrame s).sales = s.sales := rfl
@[simp] theorem takeFrame_print (s : State) : (takeFrame s).print = s.print := rfl
@[simp] theorem takeFrame_journal (s : State) : (takeFrame s).journal = s.journal := rfl
@[simp] theorem takeFrame_link (s : State) : (takeFrame s).link = s.link := rfl
@[simp] theorem takeFrame_pending (s : State) : (takeFrame s).pending = s.pending := rfl

@[simp] theorem kick_power (s : State) : (kick s).power = s.power := by unfold kick; split <;> rfl
@[simp] theorem kick_resetHeld (s : State) : (kick s).resetHeld = s.resetHeld := by unfold kick; split <;> rfl
@[simp] theorem kick_doorLine (s : State) : (kick s).doorLine = s.doorLine := by unfold kick; split <;> rfl
@[simp] theorem kick_fare (s : State) : (kick s).fare = s.fare := by unfold kick; split <;> rfl
@[simp] theorem kick_cash (s : State) : (kick s).cash = s.cash := by unfold kick; split <;> rfl
@[simp] theorem kick_coins (s : State) : (kick s).coins = s.coins := by unfold kick; split <;> rfl
@[simp] theorem kick_change (s : State) : (kick s).change = s.change := by unfold kick; split <;> rfl
@[simp] theorem kick_cards (s : State) : (kick s).cards = s.cards := by unfold kick; split <;> rfl
@[simp] theorem kick_sales (s : State) : (kick s).sales = s.sales := by unfold kick; split <;> rfl
@[simp] theorem kick_print (s : State) : (kick s).print = s.print := by unfold kick; split <;> rfl
@[simp] theorem kick_journal (s : State) : (kick s).journal = s.journal := by unfold kick; split <;> rfl
@[simp] theorem kick_link (s : State) : (kick s).link = s.link := by unfold kick; split <;> rfl
@[simp] theorem kick_pending (s : State) : (kick s).pending = s.pending := by unfold kick; split <;> rfl

@[simp] theorem finish_power (s : State) : (finish s).power = s.power := by simp only [finish, onPort_power, kick_power]
@[simp] theorem finish_resetHeld (s : State) : (finish s).resetHeld = s.resetHeld := by simp only [finish, onPort_resetHeld, kick_resetHeld]
@[simp] theorem finish_doorLine (s : State) : (finish s).doorLine = s.doorLine := by simp only [finish, onPort_doorLine, kick_doorLine]
@[simp] theorem finish_fare (s : State) : (finish s).fare = s.fare := by simp only [finish, onPort_fare, kick_fare]
@[simp] theorem finish_cash (s : State) : (finish s).cash = s.cash := by simp only [finish, onPort_cash, kick_cash]
@[simp] theorem finish_coins (s : State) : (finish s).coins = s.coins := by simp only [finish, onPort_coins, kick_coins]
@[simp] theorem finish_change (s : State) : (finish s).change = s.change := by simp only [finish, onPort_change, kick_change]
@[simp] theorem finish_cards (s : State) : (finish s).cards = s.cards := by simp only [finish, onPort_cards, kick_cards]
@[simp] theorem finish_sales (s : State) : (finish s).sales = s.sales := by simp only [finish, onPort_sales, kick_sales]
@[simp] theorem finish_print (s : State) : (finish s).print = s.print := by simp only [finish, onPort_print, kick_print]
@[simp] theorem finish_journal (s : State) : (finish s).journal = s.journal := by simp only [finish, onPort_journal, kick_journal]
@[simp] theorem finish_link (s : State) : (finish s).link = s.link := by simp only [finish, onPort_link, kick_link]
@[simp] theorem finish_pending (s : State) : (finish s).pending = s.pending := by simp only [finish, onPort_pending, kick_pending]

@[simp] theorem raiseFault_power (a : Addr) (f : Flag) (s : State) : (raiseFault a f s).power = s.power := by unfold raiseFault; split <;> rfl
@[simp] theorem raiseFault_resetHeld (a : Addr) (f : Flag) (s : State) : (raiseFault a f s).resetHeld = s.resetHeld := by unfold raiseFault; split <;> rfl
@[simp] theorem raiseFault_doorLine (a : Addr) (f : Flag) (s : State) : (raiseFault a f s).doorLine = s.doorLine := by unfold raiseFault; split <;> rfl
@[simp] theorem raiseFault_fare (a : Addr) (f : Flag) (s : State) : (raiseFault a f s).fare = s.fare := by unfold raiseFault; split <;> rfl
@[simp] theorem raiseFault_cash (a : Addr) (f : Flag) (s : State) : (raiseFault a f s).cash = s.cash := by unfold raiseFault; split <;> rfl
@[simp] theorem raiseFault_coins (a : Addr) (f : Flag) (s : State) : (raiseFault a f s).coins = s.coins := by unfold raiseFault; split <;> rfl
@[simp] theorem raiseFault_change (a : Addr) (f : Flag) (s : State) : (raiseFault a f s).change = s.change := by unfold raiseFault; split <;> rfl
@[simp] theorem raiseFault_cards (a : Addr) (f : Flag) (s : State) : (raiseFault a f s).cards = s.cards := by unfold raiseFault; split <;> rfl
@[simp] theorem raiseFault_sales (a : Addr) (f : Flag) (s : State) : (raiseFault a f s).sales = s.sales := by unfold raiseFault; split <;> rfl
@[simp] theorem raiseFault_print (a : Addr) (f : Flag) (s : State) : (raiseFault a f s).print = s.print := by unfold raiseFault; split <;> rfl
@[simp] theorem raiseFault_journal (a : Addr) (f : Flag) (s : State) : (raiseFault a f s).journal = s.journal := by unfold raiseFault; split <;> rfl
@[simp] theorem raiseFault_pending (a : Addr) (f : Flag) (s : State) : (raiseFault a f s).pending = s.pending := by unfold raiseFault; split <;> rfl

@[simp] theorem raiseOverrun_power (s : State) : (raiseOverrun s).power = s.power := by unfold raiseOverrun; split <;> rfl
@[simp] theorem raiseOverrun_resetHeld (s : State) : (raiseOverrun s).resetHeld = s.resetHeld := by unfold raiseOverrun; split <;> rfl
@[simp] theorem raiseOverrun_doorLine (s : State) : (raiseOverrun s).doorLine = s.doorLine := by unfold raiseOverrun; split <;> rfl
@[simp] theorem raiseOverrun_fare (s : State) : (raiseOverrun s).fare = s.fare := by unfold raiseOverrun; split <;> rfl
@[simp] theorem raiseOverrun_cash (s : State) : (raiseOverrun s).cash = s.cash := by unfold raiseOverrun; split <;> rfl
@[simp] theorem raiseOverrun_coins (s : State) : (raiseOverrun s).coins = s.coins := by unfold raiseOverrun; split <;> rfl
@[simp] theorem raiseOverrun_change (s : State) : (raiseOverrun s).change = s.change := by unfold raiseOverrun; split <;> rfl
@[simp] theorem raiseOverrun_cards (s : State) : (raiseOverrun s).cards = s.cards := by unfold raiseOverrun; split <;> rfl
@[simp] theorem raiseOverrun_sales (s : State) : (raiseOverrun s).sales = s.sales := by unfold raiseOverrun; split <;> rfl
@[simp] theorem raiseOverrun_print (s : State) : (raiseOverrun s).print = s.print := by unfold raiseOverrun; split <;> rfl
@[simp] theorem raiseOverrun_journal (s : State) : (raiseOverrun s).journal = s.journal := by unfold raiseOverrun; split <;> rfl
@[simp] theorem raiseOverrun_pending (s : State) : (raiseOverrun s).pending = s.pending := by unfold raiseOverrun; split <;> rfl

@[simp] theorem append_power (p : Option Position) (b : RecordBody) (s : State) : (append p b s).power = s.power := by
  unfold append; dsimp only; repeat' split
  all_goals first | rfl | simp only [raiseOverrun_power, onJournal_power]
@[simp] theorem append_resetHeld (p : Option Position) (b : RecordBody) (s : State) : (append p b s).resetHeld = s.resetHeld := by
  unfold append; dsimp only; repeat' split
  all_goals first | rfl | simp only [raiseOverrun_resetHeld, onJournal_resetHeld]
@[simp] theorem append_doorLine (p : Option Position) (b : RecordBody) (s : State) : (append p b s).doorLine = s.doorLine := by
  unfold append; dsimp only; repeat' split
  all_goals first | rfl | simp only [raiseOverrun_doorLine, onJournal_doorLine]
@[simp] theorem append_fare (p : Option Position) (b : RecordBody) (s : State) : (append p b s).fare = s.fare := by
  unfold append; dsimp only; repeat' split
  all_goals first | rfl | simp only [raiseOverrun_fare, onJournal_fare]
@[simp] theorem append_cash (p : Option Position) (b : RecordBody) (s : State) : (append p b s).cash = s.cash := by
  unfold append; dsimp only; repeat' split
  all_goals first | rfl | simp only [raiseOverrun_cash, onJournal_cash]
@[simp] theorem append_coins (p : Option Position) (b : RecordBody) (s : State) : (append p b s).coins = s.coins := by
  unfold append; dsimp only; repeat' split
  all_goals first | rfl | simp only [raiseOverrun_coins, onJournal_coins]
@[simp] theorem append_change (p : Option Position) (b : RecordBody) (s : State) : (append p b s).change = s.change := by
  unfold append; dsimp only; repeat' split
  all_goals first | rfl | simp only [raiseOverrun_change, onJournal_change]
@[simp] theorem append_cards (p : Option Position) (b : RecordBody) (s : State) : (append p b s).cards = s.cards := by
  unfold append; dsimp only; repeat' split
  all_goals first | rfl | simp only [raiseOverrun_cards, onJournal_cards]
@[simp] theorem append_sales (p : Option Position) (b : RecordBody) (s : State) : (append p b s).sales = s.sales := by
  unfold append; dsimp only; repeat' split
  all_goals first | rfl | simp only [raiseOverrun_sales, onJournal_sales]
@[simp] theorem append_print (p : Option Position) (b : RecordBody) (s : State) : (append p b s).print = s.print := by
  unfold append; dsimp only; repeat' split
  all_goals first | rfl | simp only [raiseOverrun_print, onJournal_print]
@[simp] theorem append_pending (p : Option Position) (b : RecordBody) (s : State) : (append p b s).pending = s.pending := by
  unfold append; dsimp only; repeat' split
  all_goals first | rfl | simp only [raiseOverrun_pending, onJournal_pending]

@[simp] theorem note_power (k : Bool) (q : Option (BitVec 32)) (s : State) : (note k q s).power = s.power := by
  unfold note; repeat' split
  all_goals rfl
@[simp] theorem note_resetHeld (k : Bool) (q : Option (BitVec 32)) (s : State) : (note k q s).resetHeld = s.resetHeld := by
  unfold note; repeat' split
  all_goals rfl
@[simp] theorem note_doorLine (k : Bool) (q : Option (BitVec 32)) (s : State) : (note k q s).doorLine = s.doorLine := by
  unfold note; repeat' split
  all_goals rfl
@[simp] theorem note_fare (k : Bool) (q : Option (BitVec 32)) (s : State) : (note k q s).fare = s.fare := by
  unfold note; repeat' split
  all_goals rfl
@[simp] theorem note_cash (k : Bool) (q : Option (BitVec 32)) (s : State) : (note k q s).cash = s.cash := by
  unfold note; repeat' split
  all_goals rfl
@[simp] theorem note_coins (k : Bool) (q : Option (BitVec 32)) (s : State) : (note k q s).coins = s.coins := by
  unfold note; repeat' split
  all_goals rfl
@[simp] theorem note_change (k : Bool) (q : Option (BitVec 32)) (s : State) : (note k q s).change = s.change := by
  unfold note; repeat' split
  all_goals rfl
@[simp] theorem note_cards (k : Bool) (q : Option (BitVec 32)) (s : State) : (note k q s).cards = s.cards := by
  unfold note; repeat' split
  all_goals rfl
@[simp] theorem note_sales (k : Bool) (q : Option (BitVec 32)) (s : State) : (note k q s).sales = s.sales := by
  unfold note; repeat' split
  all_goals rfl
@[simp] theorem note_link (k : Bool) (q : Option (BitVec 32)) (s : State) : (note k q s).link = s.link := by
  unfold note; repeat' split
  all_goals rfl
@[simp] theorem note_port (k : Bool) (q : Option (BitVec 32)) (s : State) : (note k q s).port = s.port := by
  unfold note; repeat' split
  all_goals rfl
@[simp] theorem note_pending (k : Bool) (q : Option (BitVec 32)) (s : State) : (note k q s).pending = s.pending := by
  unfold note; repeat' split
  all_goals rfl

@[simp] theorem addCoinTotals_power (c : Fin 8) (v : Nat) (s : State) : (addCoinTotals c v s).power = s.power := rfl
@[simp] theorem addCoinTotals_resetHeld (c : Fin 8) (v : Nat) (s : State) : (addCoinTotals c v s).resetHeld = s.resetHeld := rfl
@[simp] theorem addCoinTotals_doorLine (c : Fin 8) (v : Nat) (s : State) : (addCoinTotals c v s).doorLine = s.doorLine := rfl
@[simp] theorem addCoinTotals_fare (c : Fin 8) (v : Nat) (s : State) : (addCoinTotals c v s).fare = s.fare := rfl
@[simp] theorem addCoinTotals_cash (c : Fin 8) (v : Nat) (s : State) : (addCoinTotals c v s).cash = s.cash := rfl
@[simp] theorem addCoinTotals_coins (c : Fin 8) (v : Nat) (s : State) : (addCoinTotals c v s).coins = s.coins := rfl
@[simp] theorem addCoinTotals_change (c : Fin 8) (v : Nat) (s : State) : (addCoinTotals c v s).change = s.change := rfl
@[simp] theorem addCoinTotals_cards (c : Fin 8) (v : Nat) (s : State) : (addCoinTotals c v s).cards = s.cards := rfl
@[simp] theorem addCoinTotals_sales (c : Fin 8) (v : Nat) (s : State) : (addCoinTotals c v s).sales = s.sales := rfl
@[simp] theorem addCoinTotals_print (c : Fin 8) (v : Nat) (s : State) : (addCoinTotals c v s).print = s.print := rfl
@[simp] theorem addCoinTotals_link (c : Fin 8) (v : Nat) (s : State) : (addCoinTotals c v s).link = s.link := rfl
@[simp] theorem addCoinTotals_port (c : Fin 8) (v : Nat) (s : State) : (addCoinTotals c v s).port = s.port := rfl
@[simp] theorem addCoinTotals_pending (c : Fin 8) (v : Nat) (s : State) : (addCoinTotals c v s).pending = s.pending := rfl

@[simp] theorem sortEvent_power (a : Addr) (c : Byte) (d : EventData) (x : PartResult) (s : State) : (sortEvent a c d x s).power = s.power := by unfold sortEvent; split <;> rfl
@[simp] theorem sortEvent_resetHeld (a : Addr) (c : Byte) (d : EventData) (x : PartResult) (s : State) : (sortEvent a c d x s).resetHeld = s.resetHeld := by unfold sortEvent; split <;> rfl
@[simp] theorem sortEvent_doorLine (a : Addr) (c : Byte) (d : EventData) (x : PartResult) (s : State) : (sortEvent a c d x s).doorLine = s.doorLine := by unfold sortEvent; split <;> rfl
@[simp] theorem sortEvent_fare (a : Addr) (c : Byte) (d : EventData) (x : PartResult) (s : State) : (sortEvent a c d x s).fare = s.fare := by unfold sortEvent; split <;> rfl
@[simp] theorem sortEvent_cash (a : Addr) (c : Byte) (d : EventData) (x : PartResult) (s : State) : (sortEvent a c d x s).cash = s.cash := by unfold sortEvent; split <;> rfl
@[simp] theorem sortEvent_coins (a : Addr) (c : Byte) (d : EventData) (x : PartResult) (s : State) : (sortEvent a c d x s).coins = s.coins := by unfold sortEvent; split <;> rfl
@[simp] theorem sortEvent_change (a : Addr) (c : Byte) (d : EventData) (x : PartResult) (s : State) : (sortEvent a c d x s).change = s.change := by unfold sortEvent; split <;> rfl
@[simp] theorem sortEvent_cards (a : Addr) (c : Byte) (d : EventData) (x : PartResult) (s : State) : (sortEvent a c d x s).cards = s.cards := by unfold sortEvent; split <;> rfl
@[simp] theorem sortEvent_sales (a : Addr) (c : Byte) (d : EventData) (x : PartResult) (s : State) : (sortEvent a c d x s).sales = s.sales := by unfold sortEvent; split <;> rfl
@[simp] theorem sortEvent_print (a : Addr) (c : Byte) (d : EventData) (x : PartResult) (s : State) : (sortEvent a c d x s).print = s.print := by unfold sortEvent; split <;> rfl
@[simp] theorem sortEvent_journal (a : Addr) (c : Byte) (d : EventData) (x : PartResult) (s : State) : (sortEvent a c d x s).journal = s.journal := by unfold sortEvent; split <;> rfl
@[simp] theorem sortEvent_link (a : Addr) (c : Byte) (d : EventData) (x : PartResult) (s : State) : (sortEvent a c d x s).link = s.link := by unfold sortEvent; split <;> rfl
@[simp] theorem sortEvent_pending (a : Addr) (c : Byte) (d : EventData) (x : PartResult) (s : State) : (sortEvent a c d x s).pending = s.pending := by unfold sortEvent; split <;> rfl

@[simp] theorem pushCard_power (p : Position) (c : CardCmd) (s : State) : (pushCard p c s).power = s.power := rfl
@[simp] theorem pushCard_resetHeld (p : Position) (c : CardCmd) (s : State) : (pushCard p c s).resetHeld = s.resetHeld := rfl
@[simp] theorem pushCard_doorLine (p : Position) (c : CardCmd) (s : State) : (pushCard p c s).doorLine = s.doorLine := rfl
@[simp] theorem pushCard_fare (p : Position) (c : CardCmd) (s : State) : (pushCard p c s).fare = s.fare := rfl
@[simp] theorem pushCard_cash (p : Position) (c : CardCmd) (s : State) : (pushCard p c s).cash = s.cash := rfl
@[simp] theorem pushCard_coins (p : Position) (c : CardCmd) (s : State) : (pushCard p c s).coins = s.coins := rfl
@[simp] theorem pushCard_change (p : Position) (c : CardCmd) (s : State) : (pushCard p c s).change = s.change := rfl
@[simp] theorem pushCard_cards (p : Position) (c : CardCmd) (s : State) : (pushCard p c s).cards = s.cards := rfl
@[simp] theorem pushCard_sales (p : Position) (c : CardCmd) (s : State) : (pushCard p c s).sales = s.sales := rfl
@[simp] theorem pushCard_print (p : Position) (c : CardCmd) (s : State) : (pushCard p c s).print = s.print := rfl
@[simp] theorem pushCard_journal (p : Position) (c : CardCmd) (s : State) : (pushCard p c s).journal = s.journal := rfl
@[simp] theorem pushCard_port (p : Position) (c : CardCmd) (s : State) : (pushCard p c s).port = s.port := rfl
@[simp] theorem pushCard_pending (p : Position) (c : CardCmd) (s : State) : (pushCard p c s).pending = s.pending := rfl

@[simp] theorem dropReadCmds_power (p : Position) (s : State) : (dropReadCmds p s).power = s.power := rfl
@[simp] theorem dropReadCmds_resetHeld (p : Position) (s : State) : (dropReadCmds p s).resetHeld = s.resetHeld := rfl
@[simp] theorem dropReadCmds_doorLine (p : Position) (s : State) : (dropReadCmds p s).doorLine = s.doorLine := rfl
@[simp] theorem dropReadCmds_fare (p : Position) (s : State) : (dropReadCmds p s).fare = s.fare := rfl
@[simp] theorem dropReadCmds_cash (p : Position) (s : State) : (dropReadCmds p s).cash = s.cash := rfl
@[simp] theorem dropReadCmds_coins (p : Position) (s : State) : (dropReadCmds p s).coins = s.coins := rfl
@[simp] theorem dropReadCmds_change (p : Position) (s : State) : (dropReadCmds p s).change = s.change := rfl
@[simp] theorem dropReadCmds_cards (p : Position) (s : State) : (dropReadCmds p s).cards = s.cards := rfl
@[simp] theorem dropReadCmds_sales (p : Position) (s : State) : (dropReadCmds p s).sales = s.sales := rfl
@[simp] theorem dropReadCmds_print (p : Position) (s : State) : (dropReadCmds p s).print = s.print := rfl
@[simp] theorem dropReadCmds_journal (p : Position) (s : State) : (dropReadCmds p s).journal = s.journal := rfl
@[simp] theorem dropReadCmds_port (p : Position) (s : State) : (dropReadCmds p s).port = s.port := rfl
@[simp] theorem dropReadCmds_pending (p : Position) (s : State) : (dropReadCmds p s).pending = s.pending := rfl

@[simp] theorem sendMask_power (p : Position) (m : BitVec 8) (s : State) : (sendMask p m s).power = s.power := by unfold sendMask; split <;> rfl
@[simp] theorem sendMask_resetHeld (p : Position) (m : BitVec 8) (s : State) : (sendMask p m s).resetHeld = s.resetHeld := by unfold sendMask; split <;> rfl
@[simp] theorem sendMask_doorLine (p : Position) (m : BitVec 8) (s : State) : (sendMask p m s).doorLine = s.doorLine := by unfold sendMask; split <;> rfl
@[simp] theorem sendMask_fare (p : Position) (m : BitVec 8) (s : State) : (sendMask p m s).fare = s.fare := by unfold sendMask; split <;> rfl
@[simp] theorem sendMask_cash (p : Position) (m : BitVec 8) (s : State) : (sendMask p m s).cash = s.cash := by unfold sendMask; split <;> rfl
@[simp] theorem sendMask_coins (p : Position) (m : BitVec 8) (s : State) : (sendMask p m s).coins = s.coins := by unfold sendMask; split <;> rfl
@[simp] theorem sendMask_change (p : Position) (m : BitVec 8) (s : State) : (sendMask p m s).change = s.change := by unfold sendMask; split <;> rfl
@[simp] theorem sendMask_cards (p : Position) (m : BitVec 8) (s : State) : (sendMask p m s).cards = s.cards := by unfold sendMask; split <;> rfl
@[simp] theorem sendMask_sales (p : Position) (m : BitVec 8) (s : State) : (sendMask p m s).sales = s.sales := by unfold sendMask; split <;> rfl
@[simp] theorem sendMask_print (p : Position) (m : BitVec 8) (s : State) : (sendMask p m s).print = s.print := by unfold sendMask; split <;> rfl
@[simp] theorem sendMask_journal (p : Position) (m : BitVec 8) (s : State) : (sendMask p m s).journal = s.journal := by unfold sendMask; split <;> rfl
@[simp] theorem sendMask_port (p : Position) (m : BitVec 8) (s : State) : (sendMask p m s).port = s.port := by unfold sendMask; split <;> rfl
@[simp] theorem sendMask_pending (p : Position) (m : BitVec 8) (s : State) : (sendMask p m s).pending = s.pending := by unfold sendMask; split <;> rfl

@[simp] theorem changeMask_power (p : Position) (m : BitVec 8) (s : State) : (changeMask p m s).power = s.power := by
  unfold changeMask; repeat' split
  all_goals first | rfl | simp only [onLink_power, sendMask_power]
@[simp] theorem changeMask_resetHeld (p : Position) (m : BitVec 8) (s : State) : (changeMask p m s).resetHeld = s.resetHeld := by
  unfold changeMask; repeat' split
  all_goals first | rfl | simp only [onLink_resetHeld, sendMask_resetHeld]
@[simp] theorem changeMask_doorLine (p : Position) (m : BitVec 8) (s : State) : (changeMask p m s).doorLine = s.doorLine := by
  unfold changeMask; repeat' split
  all_goals first | rfl | simp only [onLink_doorLine, sendMask_doorLine]
@[simp] theorem changeMask_fare (p : Position) (m : BitVec 8) (s : State) : (changeMask p m s).fare = s.fare := by
  unfold changeMask; repeat' split
  all_goals first | rfl | simp only [onLink_fare, sendMask_fare]
@[simp] theorem changeMask_cash (p : Position) (m : BitVec 8) (s : State) : (changeMask p m s).cash = s.cash := by
  unfold changeMask; repeat' split
  all_goals first | rfl | simp only [onLink_cash, sendMask_cash]
@[simp] theorem changeMask_coins (p : Position) (m : BitVec 8) (s : State) : (changeMask p m s).coins = s.coins := by
  unfold changeMask; repeat' split
  all_goals first | rfl | simp only [onLink_coins, sendMask_coins]
@[simp] theorem changeMask_change (p : Position) (m : BitVec 8) (s : State) : (changeMask p m s).change = s.change := by
  unfold changeMask; repeat' split
  all_goals first | rfl | simp only [onLink_change, sendMask_change]
@[simp] theorem changeMask_cards (p : Position) (m : BitVec 8) (s : State) : (changeMask p m s).cards = s.cards := by
  unfold changeMask; repeat' split
  all_goals first | rfl | simp only [onLink_cards, sendMask_cards]
@[simp] theorem changeMask_sales (p : Position) (m : BitVec 8) (s : State) : (changeMask p m s).sales = s.sales := by
  unfold changeMask; repeat' split
  all_goals first | rfl | simp only [onLink_sales, sendMask_sales]
@[simp] theorem changeMask_print (p : Position) (m : BitVec 8) (s : State) : (changeMask p m s).print = s.print := by
  unfold changeMask; repeat' split
  all_goals first | rfl | simp only [onLink_print, sendMask_print]
@[simp] theorem changeMask_journal (p : Position) (m : BitVec 8) (s : State) : (changeMask p m s).journal = s.journal := by
  unfold changeMask; repeat' split
  all_goals first | rfl | simp only [onLink_journal, sendMask_journal]
@[simp] theorem changeMask_port (p : Position) (m : BitVec 8) (s : State) : (changeMask p m s).port = s.port := by
  unfold changeMask; repeat' split
  all_goals first | rfl | simp only [onLink_port, sendMask_port]
@[simp] theorem changeMask_pending (p : Position) (m : BitVec 8) (s : State) : (changeMask p m s).pending = s.pending := by
  unfold changeMask; repeat' split
  all_goals first | rfl | simp only [onLink_pending, sendMask_pending]

@[simp] theorem recompute_power (p : Position) (r : Option Rise) (s : State) : (recompute p r s).power = s.power := by
  unfold recompute; dsimp only; repeat' split
  all_goals simp only [notify_power, changeMask_power, onLane_power]
@[simp] theorem recompute_resetHeld (p : Position) (r : Option Rise) (s : State) : (recompute p r s).resetHeld = s.resetHeld := by
  unfold recompute; dsimp only; repeat' split
  all_goals simp only [notify_resetHeld, changeMask_resetHeld, onLane_resetHeld]
@[simp] theorem recompute_doorLine (p : Position) (r : Option Rise) (s : State) : (recompute p r s).doorLine = s.doorLine := by
  unfold recompute; dsimp only; repeat' split
  all_goals simp only [notify_doorLine, changeMask_doorLine, onLane_doorLine]
@[simp] theorem recompute_fare (p : Position) (r : Option Rise) (s : State) : (recompute p r s).fare = s.fare := by
  unfold recompute; dsimp only; repeat' split
  all_goals simp only [notify_fare, changeMask_fare, onLane_fare]
@[simp] theorem recompute_cash (p : Position) (r : Option Rise) (s : State) : (recompute p r s).cash = s.cash := by
  unfold recompute; dsimp only; repeat' split
  all_goals simp only [notify_cash, changeMask_cash, onLane_cash]
@[simp] theorem recompute_change (p : Position) (r : Option Rise) (s : State) : (recompute p r s).change = s.change := by
  unfold recompute; dsimp only; repeat' split
  all_goals simp only [notify_change, changeMask_change, onLane_change]
@[simp] theorem recompute_cards (p : Position) (r : Option Rise) (s : State) : (recompute p r s).cards = s.cards := by
  unfold recompute; dsimp only; repeat' split
  all_goals simp only [notify_cards, changeMask_cards, onLane_cards]
@[simp] theorem recompute_sales (p : Position) (r : Option Rise) (s : State) : (recompute p r s).sales = s.sales := by
  unfold recompute; dsimp only; repeat' split
  all_goals simp only [notify_sales, changeMask_sales, onLane_sales]
@[simp] theorem recompute_print (p : Position) (r : Option Rise) (s : State) : (recompute p r s).print = s.print := by
  unfold recompute; dsimp only; repeat' split
  all_goals simp only [notify_print, changeMask_print, onLane_print]
@[simp] theorem recompute_journal (p : Position) (r : Option Rise) (s : State) : (recompute p r s).journal = s.journal := by
  unfold recompute; dsimp only; repeat' split
  all_goals simp only [notify_journal, changeMask_journal, onLane_journal]
@[simp] theorem recompute_pending (p : Position) (r : Option Rise) (s : State) : (recompute p r s).pending = s.pending := by
  unfold recompute; dsimp only; repeat' split
  all_goals simp only [notify_pending, changeMask_pending, onLane_pending]

@[simp] theorem masks_power (r : Option Rise) (s : State) : (masks r s).power = s.power := by simp only [masks, recompute_power]
@[simp] theorem masks_resetHeld (r : Option Rise) (s : State) : (masks r s).resetHeld = s.resetHeld := by simp only [masks, recompute_resetHeld]
@[simp] theorem masks_doorLine (r : Option Rise) (s : State) : (masks r s).doorLine = s.doorLine := by simp only [masks, recompute_doorLine]
@[simp] theorem masks_fare (r : Option Rise) (s : State) : (masks r s).fare = s.fare := by simp only [masks, recompute_fare]
@[simp] theorem masks_cash (r : Option Rise) (s : State) : (masks r s).cash = s.cash := by simp only [masks, recompute_cash]
@[simp] theorem masks_change (r : Option Rise) (s : State) : (masks r s).change = s.change := by simp only [masks, recompute_change]
@[simp] theorem masks_cards (r : Option Rise) (s : State) : (masks r s).cards = s.cards := by simp only [masks, recompute_cards]
@[simp] theorem masks_sales (r : Option Rise) (s : State) : (masks r s).sales = s.sales := by simp only [masks, recompute_sales]
@[simp] theorem masks_print (r : Option Rise) (s : State) : (masks r s).print = s.print := by simp only [masks, recompute_print]
@[simp] theorem masks_journal (r : Option Rise) (s : State) : (masks r s).journal = s.journal := by simp only [masks, recompute_journal]
@[simp] theorem masks_pending (r : Option Rise) (s : State) : (masks r s).pending = s.pending := by simp only [masks, recompute_pending]

@[simp] theorem onCounters_power (a : Addr) (g : LinkCounters → LinkCounters) (s : State) : (onCounters a g s).power = s.power := rfl
@[simp] theorem onCounters_resetHeld (a : Addr) (g : LinkCounters → LinkCounters) (s : State) : (onCounters a g s).resetHeld = s.resetHeld := rfl
@[simp] theorem onCounters_doorLine (a : Addr) (g : LinkCounters → LinkCounters) (s : State) : (onCounters a g s).doorLine = s.doorLine := rfl
@[simp] theorem onCounters_fare (a : Addr) (g : LinkCounters → LinkCounters) (s : State) : (onCounters a g s).fare = s.fare := rfl
@[simp] theorem onCounters_cash (a : Addr) (g : LinkCounters → LinkCounters) (s : State) : (onCounters a g s).cash = s.cash := rfl
@[simp] theorem onCounters_coins (a : Addr) (g : LinkCounters → LinkCounters) (s : State) : (onCounters a g s).coins = s.coins := rfl
@[simp] theorem onCounters_change (a : Addr) (g : LinkCounters → LinkCounters) (s : State) : (onCounters a g s).change = s.change := rfl
@[simp] theorem onCounters_cards (a : Addr) (g : LinkCounters → LinkCounters) (s : State) : (onCounters a g s).cards = s.cards := rfl
@[simp] theorem onCounters_sales (a : Addr) (g : LinkCounters → LinkCounters) (s : State) : (onCounters a g s).sales = s.sales := rfl
@[simp] theorem onCounters_print (a : Addr) (g : LinkCounters → LinkCounters) (s : State) : (onCounters a g s).print = s.print := rfl
@[simp] theorem onCounters_journal (a : Addr) (g : LinkCounters → LinkCounters) (s : State) : (onCounters a g s).journal = s.journal := rfl
@[simp] theorem onCounters_port (a : Addr) (g : LinkCounters → LinkCounters) (s : State) : (onCounters a g s).port = s.port := rfl
@[simp] theorem onCounters_pending (a : Addr) (g : LinkCounters → LinkCounters) (s : State) : (onCounters a g s).pending = s.pending := rfl

@[simp] theorem freeLine_power (s : State) : (freeLine s).power = s.power := rfl
@[simp] theorem freeLine_resetHeld (s : State) : (freeLine s).resetHeld = s.resetHeld := rfl
@[simp] theorem freeLine_doorLine (s : State) : (freeLine s).doorLine = s.doorLine := rfl
@[simp] theorem freeLine_fare (s : State) : (freeLine s).fare = s.fare := rfl
@[simp] theorem freeLine_cash (s : State) : (freeLine s).cash = s.cash := rfl
@[simp] theorem freeLine_coins (s : State) : (freeLine s).coins = s.coins := rfl
@[simp] theorem freeLine_change (s : State) : (freeLine s).change = s.change := rfl
@[simp] theorem freeLine_cards (s : State) : (freeLine s).cards = s.cards := rfl
@[simp] theorem freeLine_sales (s : State) : (freeLine s).sales = s.sales := rfl
@[simp] theorem freeLine_print (s : State) : (freeLine s).print = s.print := rfl
@[simp] theorem freeLine_journal (s : State) : (freeLine s).journal = s.journal := rfl
@[simp] theorem freeLine_port (s : State) : (freeLine s).port = s.port := rfl
@[simp] theorem freeLine_pending (s : State) : (freeLine s).pending = s.pending := rfl

@[simp] theorem answered_power (a : Addr) (s : State) : (answered a s).power = s.power := rfl
@[simp] theorem answered_resetHeld (a : Addr) (s : State) : (answered a s).resetHeld = s.resetHeld := rfl
@[simp] theorem answered_doorLine (a : Addr) (s : State) : (answered a s).doorLine = s.doorLine := rfl
@[simp] theorem answered_fare (a : Addr) (s : State) : (answered a s).fare = s.fare := rfl
@[simp] theorem answered_cash (a : Addr) (s : State) : (answered a s).cash = s.cash := rfl
@[simp] theorem answered_coins (a : Addr) (s : State) : (answered a s).coins = s.coins := rfl
@[simp] theorem answered_change (a : Addr) (s : State) : (answered a s).change = s.change := rfl
@[simp] theorem answered_cards (a : Addr) (s : State) : (answered a s).cards = s.cards := rfl
@[simp] theorem answered_sales (a : Addr) (s : State) : (answered a s).sales = s.sales := rfl
@[simp] theorem answered_print (a : Addr) (s : State) : (answered a s).print = s.print := rfl
@[simp] theorem answered_journal (a : Addr) (s : State) : (answered a s).journal = s.journal := rfl
@[simp] theorem answered_port (a : Addr) (s : State) : (answered a s).port = s.port := rfl
@[simp] theorem answered_pending (a : Addr) (s : State) : (answered a s).pending = s.pending := rfl

@[simp] theorem countAnswered_power (x : LinkFrame) (s : State) : (countAnswered x s).power = s.power := by unfold countAnswered; split <;> rfl
@[simp] theorem countAnswered_resetHeld (x : LinkFrame) (s : State) : (countAnswered x s).resetHeld = s.resetHeld := by unfold countAnswered; split <;> rfl
@[simp] theorem countAnswered_doorLine (x : LinkFrame) (s : State) : (countAnswered x s).doorLine = s.doorLine := by unfold countAnswered; split <;> rfl
@[simp] theorem countAnswered_fare (x : LinkFrame) (s : State) : (countAnswered x s).fare = s.fare := by unfold countAnswered; split <;> rfl
@[simp] theorem countAnswered_cash (x : LinkFrame) (s : State) : (countAnswered x s).cash = s.cash := by unfold countAnswered; split <;> rfl
@[simp] theorem countAnswered_coins (x : LinkFrame) (s : State) : (countAnswered x s).coins = s.coins := by unfold countAnswered; split <;> rfl
@[simp] theorem countAnswered_change (x : LinkFrame) (s : State) : (countAnswered x s).change = s.change := by unfold countAnswered; split <;> rfl
@[simp] theorem countAnswered_cards (x : LinkFrame) (s : State) : (countAnswered x s).cards = s.cards := by unfold countAnswered; split <;> rfl
@[simp] theorem countAnswered_sales (x : LinkFrame) (s : State) : (countAnswered x s).sales = s.sales := by unfold countAnswered; split <;> rfl
@[simp] theorem countAnswered_print (x : LinkFrame) (s : State) : (countAnswered x s).print = s.print := by unfold countAnswered; split <;> rfl
@[simp] theorem countAnswered_journal (x : LinkFrame) (s : State) : (countAnswered x s).journal = s.journal := by unfold countAnswered; split <;> rfl
@[simp] theorem countAnswered_port (x : LinkFrame) (s : State) : (countAnswered x s).port = s.port := by unfold countAnswered; split <;> rfl
@[simp] theorem countAnswered_pending (x : LinkFrame) (s : State) : (countAnswered x s).pending = s.pending := by unfold countAnswered; split <;> rfl

@[simp] theorem countUnanswered_power (x : LinkFrame) (s : State) : (countUnanswered x s).power = s.power := by unfold countUnanswered; split <;> rfl
@[simp] theorem countUnanswered_resetHeld (x : LinkFrame) (s : State) : (countUnanswered x s).resetHeld = s.resetHeld := by unfold countUnanswered; split <;> rfl
@[simp] theorem countUnanswered_doorLine (x : LinkFrame) (s : State) : (countUnanswered x s).doorLine = s.doorLine := by unfold countUnanswered; split <;> rfl
@[simp] theorem countUnanswered_fare (x : LinkFrame) (s : State) : (countUnanswered x s).fare = s.fare := by unfold countUnanswered; split <;> rfl
@[simp] theorem countUnanswered_cash (x : LinkFrame) (s : State) : (countUnanswered x s).cash = s.cash := by unfold countUnanswered; split <;> rfl
@[simp] theorem countUnanswered_coins (x : LinkFrame) (s : State) : (countUnanswered x s).coins = s.coins := by unfold countUnanswered; split <;> rfl
@[simp] theorem countUnanswered_change (x : LinkFrame) (s : State) : (countUnanswered x s).change = s.change := by unfold countUnanswered; split <;> rfl
@[simp] theorem countUnanswered_cards (x : LinkFrame) (s : State) : (countUnanswered x s).cards = s.cards := by unfold countUnanswered; split <;> rfl
@[simp] theorem countUnanswered_sales (x : LinkFrame) (s : State) : (countUnanswered x s).sales = s.sales := by unfold countUnanswered; split <;> rfl
@[simp] theorem countUnanswered_print (x : LinkFrame) (s : State) : (countUnanswered x s).print = s.print := by unfold countUnanswered; split <;> rfl
@[simp] theorem countUnanswered_journal (x : LinkFrame) (s : State) : (countUnanswered x s).journal = s.journal := by unfold countUnanswered; split <;> rfl
@[simp] theorem countUnanswered_port (x : LinkFrame) (s : State) : (countUnanswered x s).port = s.port := by unfold countUnanswered; split <;> rfl
@[simp] theorem countUnanswered_pending (x : LinkFrame) (s : State) : (countUnanswered x s).pending = s.pending := by unfold countUnanswered; split <;> rfl

@[simp] theorem onProgress_power (g : Progress → Progress) (s : State) : (onProgress g s).power = s.power := by unfold onProgress; split <;> rfl
@[simp] theorem onProgress_resetHeld (g : Progress → Progress) (s : State) : (onProgress g s).resetHeld = s.resetHeld := by unfold onProgress; split <;> rfl
@[simp] theorem onProgress_doorLine (g : Progress → Progress) (s : State) : (onProgress g s).doorLine = s.doorLine := by unfold onProgress; split <;> rfl
@[simp] theorem onProgress_fare (g : Progress → Progress) (s : State) : (onProgress g s).fare = s.fare := by unfold onProgress; split <;> rfl
@[simp] theorem onProgress_cash (g : Progress → Progress) (s : State) : (onProgress g s).cash = s.cash := by unfold onProgress; split <;> rfl
@[simp] theorem onProgress_coins (g : Progress → Progress) (s : State) : (onProgress g s).coins = s.coins := by unfold onProgress; split <;> rfl
@[simp] theorem onProgress_change (g : Progress → Progress) (s : State) : (onProgress g s).change = s.change := by unfold onProgress; split <;> rfl
@[simp] theorem onProgress_cards (g : Progress → Progress) (s : State) : (onProgress g s).cards = s.cards := by unfold onProgress; split <;> rfl
@[simp] theorem onProgress_sales (g : Progress → Progress) (s : State) : (onProgress g s).sales = s.sales := by unfold onProgress; split <;> rfl
@[simp] theorem onProgress_journal (g : Progress → Progress) (s : State) : (onProgress g s).journal = s.journal := by unfold onProgress; split <;> rfl
@[simp] theorem onProgress_link (g : Progress → Progress) (s : State) : (onProgress g s).link = s.link := by unfold onProgress; split <;> rfl
@[simp] theorem onProgress_port (g : Progress → Progress) (s : State) : (onProgress g s).port = s.port := by unfold onProgress; split <;> rfl
@[simp] theorem onProgress_pending (g : Progress → Progress) (s : State) : (onProgress g s).pending = s.pending := by unfold onProgress; split <;> rfl

@[simp] theorem unready_power (r : ReadyFrame) (s : State) : (unready r s).power = s.power := by
  unfold unready; split
  all_goals first | rfl | simp only [onProgress_power]
@[simp] theorem unready_resetHeld (r : ReadyFrame) (s : State) : (unready r s).resetHeld = s.resetHeld := by
  unfold unready; split
  all_goals first | rfl | simp only [onProgress_resetHeld]
@[simp] theorem unready_doorLine (r : ReadyFrame) (s : State) : (unready r s).doorLine = s.doorLine := by
  unfold unready; split
  all_goals first | rfl | simp only [onProgress_doorLine]
@[simp] theorem unready_fare (r : ReadyFrame) (s : State) : (unready r s).fare = s.fare := by
  unfold unready; split
  all_goals first | rfl | simp only [onProgress_fare]
@[simp] theorem unready_cash (r : ReadyFrame) (s : State) : (unready r s).cash = s.cash := by
  unfold unready; split
  all_goals first | rfl | simp only [onProgress_cash]
@[simp] theorem unready_coins (r : ReadyFrame) (s : State) : (unready r s).coins = s.coins := by
  unfold unready; split
  all_goals first | rfl | simp only [onProgress_coins]
@[simp] theorem unready_cards (r : ReadyFrame) (s : State) : (unready r s).cards = s.cards := by
  unfold unready; split
  all_goals first | rfl | simp only [onProgress_cards]
@[simp] theorem unready_sales (r : ReadyFrame) (s : State) : (unready r s).sales = s.sales := by
  unfold unready; split
  all_goals first | rfl | simp only [onProgress_sales]
@[simp] theorem unready_journal (r : ReadyFrame) (s : State) : (unready r s).journal = s.journal := by
  unfold unready; split
  all_goals first | rfl | simp only [onProgress_journal]
@[simp] theorem unready_port (r : ReadyFrame) (s : State) : (unready r s).port = s.port := by
  unfold unready; split
  all_goals first | rfl | simp only [onProgress_port]
@[simp] theorem unready_pending (r : ReadyFrame) (s : State) : (unready r s).pending = s.pending := by
  unfold unready; split
  all_goals first | rfl | simp only [onProgress_pending]

@[simp] theorem defer_power (r : ReadyFrame) (s : State) : (defer r s).power = s.power := by
  unfold defer; dsimp only; split
  all_goals simp only [onLink_power, raiseFault_power, onCounters_power]
@[simp] theorem defer_resetHeld (r : ReadyFrame) (s : State) : (defer r s).resetHeld = s.resetHeld := by
  unfold defer; dsimp only; split
  all_goals simp only [onLink_resetHeld, raiseFault_resetHeld, onCounters_resetHeld]
@[simp] theorem defer_doorLine (r : ReadyFrame) (s : State) : (defer r s).doorLine = s.doorLine := by
  unfold defer; dsimp only; split
  all_goals simp only [onLink_doorLine, raiseFault_doorLine, onCounters_doorLine]
@[simp] theorem defer_fare (r : ReadyFrame) (s : State) : (defer r s).fare = s.fare := by
  unfold defer; dsimp only; split
  all_goals simp only [onLink_fare, raiseFault_fare, onCounters_fare]
@[simp] theorem defer_cash (r : ReadyFrame) (s : State) : (defer r s).cash = s.cash := by
  unfold defer; dsimp only; split
  all_goals simp only [onLink_cash, raiseFault_cash, onCounters_cash]
@[simp] theorem defer_coins (r : ReadyFrame) (s : State) : (defer r s).coins = s.coins := by
  unfold defer; dsimp only; split
  all_goals simp only [onLink_coins, raiseFault_coins, onCounters_coins]
@[simp] theorem defer_change (r : ReadyFrame) (s : State) : (defer r s).change = s.change := by
  unfold defer; dsimp only; split
  all_goals simp only [onLink_change, raiseFault_change, onCounters_change]
@[simp] theorem defer_cards (r : ReadyFrame) (s : State) : (defer r s).cards = s.cards := by
  unfold defer; dsimp only; split
  all_goals simp only [onLink_cards, raiseFault_cards, onCounters_cards]
@[simp] theorem defer_sales (r : ReadyFrame) (s : State) : (defer r s).sales = s.sales := by
  unfold defer; dsimp only; split
  all_goals simp only [onLink_sales, raiseFault_sales, onCounters_sales]
@[simp] theorem defer_print (r : ReadyFrame) (s : State) : (defer r s).print = s.print := by
  unfold defer; dsimp only; split
  all_goals simp only [onLink_print, raiseFault_print, onCounters_print]
@[simp] theorem defer_journal (r : ReadyFrame) (s : State) : (defer r s).journal = s.journal := by
  unfold defer; dsimp only; split
  all_goals simp only [onLink_journal, raiseFault_journal, onCounters_journal]
@[simp] theorem defer_pending (r : ReadyFrame) (s : State) : (defer r s).pending = s.pending := by
  unfold defer; dsimp only; split
  all_goals simp only [onLink_pending, raiseFault_pending, onCounters_pending]

@[simp] theorem handOut_power (busy : Bool) (s : State) : (handOut busy s).power = s.power := by
  unfold handOut; repeat' split
  all_goals first | rfl | simp only [defer_power, onLink_power, unready_power]
@[simp] theorem handOut_resetHeld (busy : Bool) (s : State) : (handOut busy s).resetHeld = s.resetHeld := by
  unfold handOut; repeat' split
  all_goals first | rfl | simp only [defer_resetHeld, onLink_resetHeld, unready_resetHeld]
@[simp] theorem handOut_doorLine (busy : Bool) (s : State) : (handOut busy s).doorLine = s.doorLine := by
  unfold handOut; repeat' split
  all_goals first | rfl | simp only [defer_doorLine, onLink_doorLine, unready_doorLine]
@[simp] theorem handOut_fare (busy : Bool) (s : State) : (handOut busy s).fare = s.fare := by
  unfold handOut; repeat' split
  all_goals first | rfl | simp only [defer_fare, onLink_fare, unready_fare]
@[simp] theorem handOut_cash (busy : Bool) (s : State) : (handOut busy s).cash = s.cash := by
  unfold handOut; repeat' split
  all_goals first | rfl | simp only [defer_cash, onLink_cash, unready_cash]
@[simp] theorem handOut_coins (busy : Bool) (s : State) : (handOut busy s).coins = s.coins := by
  unfold handOut; repeat' split
  all_goals first | rfl | simp only [defer_coins, onLink_coins, unready_coins]
@[simp] theorem handOut_cards (busy : Bool) (s : State) : (handOut busy s).cards = s.cards := by
  unfold handOut; repeat' split
  all_goals first | rfl | simp only [defer_cards, onLink_cards, unready_cards]
@[simp] theorem handOut_sales (busy : Bool) (s : State) : (handOut busy s).sales = s.sales := by
  unfold handOut; repeat' split
  all_goals first | rfl | simp only [defer_sales, onLink_sales, unready_sales]
@[simp] theorem handOut_journal (busy : Bool) (s : State) : (handOut busy s).journal = s.journal := by
  unfold handOut; repeat' split
  all_goals first | rfl | simp only [defer_journal, onLink_journal, unready_journal]
@[simp] theorem handOut_pending (busy : Bool) (s : State) : (handOut busy s).pending = s.pending := by
  unfold handOut; repeat' split
  all_goals first | rfl | simp only [defer_pending, onLink_pending, unready_pending]

@[simp] theorem standIn_power (p : Position) (s : State) : (standIn p s).power = s.power := by
  unfold standIn; repeat' split
  all_goals rfl
@[simp] theorem standIn_resetHeld (p : Position) (s : State) : (standIn p s).resetHeld = s.resetHeld := by
  unfold standIn; repeat' split
  all_goals rfl
@[simp] theorem standIn_doorLine (p : Position) (s : State) : (standIn p s).doorLine = s.doorLine := by
  unfold standIn; repeat' split
  all_goals rfl
@[simp] theorem standIn_fare (p : Position) (s : State) : (standIn p s).fare = s.fare := by
  unfold standIn; repeat' split
  all_goals rfl
@[simp] theorem standIn_cash (p : Position) (s : State) : (standIn p s).cash = s.cash := by
  unfold standIn; repeat' split
  all_goals rfl
@[simp] theorem standIn_coins (p : Position) (s : State) : (standIn p s).coins = s.coins := by
  unfold standIn; repeat' split
  all_goals rfl
@[simp] theorem standIn_change (p : Position) (s : State) : (standIn p s).change = s.change := by
  unfold standIn; repeat' split
  all_goals rfl
@[simp] theorem standIn_cards (p : Position) (s : State) : (standIn p s).cards = s.cards := by
  unfold standIn; repeat' split
  all_goals rfl
@[simp] theorem standIn_sales (p : Position) (s : State) : (standIn p s).sales = s.sales := by
  unfold standIn; repeat' split
  all_goals rfl
@[simp] theorem standIn_print (p : Position) (s : State) : (standIn p s).print = s.print := by
  unfold standIn; repeat' split
  all_goals rfl
@[simp] theorem standIn_journal (p : Position) (s : State) : (standIn p s).journal = s.journal := by
  unfold standIn; repeat' split
  all_goals rfl
@[simp] theorem standIn_pending (p : Position) (s : State) : (standIn p s).pending = s.pending := by
  unfold standIn; repeat' split
  all_goals rfl

/-- All that `standIn` can do: nothing; or forget a due poll whose read has a command ready; or make the read's command ready in the
poll's place, with the poll's age. -/
theorem standIn_cases (p : Position) (s : State) :
    standIn p s = s ∨ ∃ age c, (periph (cardAddr p) s).pollDue = some age ∧ readRetry p s = some c ∧
      (readCmdReady p s = true ∧ standIn p s = onPeriph (cardAddr p) (fun x => { x with pollDue := none }) s ∨
       readCmdReady p s = false ∧ readCmdOnLine p s = false ∧
       standIn p s = onLink (fun l => { l with cardReady := l.cardReady ++ [⟨p, age, c⟩] })
         (onPeriph (cardAddr p) (fun x => { x with pollDue := none }) s)) := by
  unfold standIn
  split
  · rename_i age c ha hc
    refine (Bool.eq_false_or_eq_true (readCmdReady p s)).elim (fun hr => ?_) (fun hr => ?_)
    · exact .inr ⟨age, c, ha, hc, .inl ⟨hr, by simp only [hr, if_true]⟩⟩
    · refine (Bool.eq_false_or_eq_true (readCmdOnLine p s)).elim (fun ho => ?_) (fun ho => ?_)
      · exact .inl (by simp [hr, ho])
      · exact .inr ⟨age, c, ha, hc, .inr ⟨hr, ho, by simp [hr, ho]⟩⟩
  · exact .inl rfl

@[simp] theorem arbitrate_power (busy : Bool) (s : State) : (arbitrate busy s).power = s.power := by
  simp only [arbitrate, handOut_power, standIn_power]
@[simp] theorem arbitrate_resetHeld (busy : Bool) (s : State) : (arbitrate busy s).resetHeld = s.resetHeld := by
  simp only [arbitrate, handOut_resetHeld, standIn_resetHeld]
@[simp] theorem arbitrate_doorLine (busy : Bool) (s : State) : (arbitrate busy s).doorLine = s.doorLine := by
  simp only [arbitrate, handOut_doorLine, standIn_doorLine]
@[simp] theorem arbitrate_fare (busy : Bool) (s : State) : (arbitrate busy s).fare = s.fare := by
  simp only [arbitrate, handOut_fare, standIn_fare]
@[simp] theorem arbitrate_cash (busy : Bool) (s : State) : (arbitrate busy s).cash = s.cash := by
  simp only [arbitrate, handOut_cash, standIn_cash]
@[simp] theorem arbitrate_coins (busy : Bool) (s : State) : (arbitrate busy s).coins = s.coins := by
  simp only [arbitrate, handOut_coins, standIn_coins]
@[simp] theorem arbitrate_cards (busy : Bool) (s : State) : (arbitrate busy s).cards = s.cards := by
  simp only [arbitrate, handOut_cards, standIn_cards]
@[simp] theorem arbitrate_sales (busy : Bool) (s : State) : (arbitrate busy s).sales = s.sales := by
  simp only [arbitrate, handOut_sales, standIn_sales]
@[simp] theorem arbitrate_journal (busy : Bool) (s : State) : (arbitrate busy s).journal = s.journal := by
  simp only [arbitrate, handOut_journal, standIn_journal]
@[simp] theorem arbitrate_pending (busy : Bool) (s : State) : (arbitrate busy s).pending = s.pending := by
  simp only [arbitrate, handOut_pending, standIn_pending]

@[simp] theorem settle_power (busy : Bool) (s : State) : (settle busy s).power = s.power := by simp only [settle, finish_power, arbitrate_power]
@[simp] theorem settle_resetHeld (busy : Bool) (s : State) : (settle busy s).resetHeld = s.resetHeld := by simp only [settle, finish_resetHeld, arbitrate_resetHeld]
@[simp] theorem settle_doorLine (busy : Bool) (s : State) : (settle busy s).doorLine = s.doorLine := by simp only [settle, finish_doorLine, arbitrate_doorLine]
@[simp] theorem settle_fare (busy : Bool) (s : State) : (settle busy s).fare = s.fare := by simp only [settle, finish_fare, arbitrate_fare]
@[simp] theorem settle_cash (busy : Bool) (s : State) : (settle busy s).cash = s.cash := by simp only [settle, finish_cash, arbitrate_cash]
@[simp] theorem settle_coins (busy : Bool) (s : State) : (settle busy s).coins = s.coins := by simp only [settle, finish_coins, arbitrate_coins]
@[simp] theorem settle_cards (busy : Bool) (s : State) : (settle busy s).cards = s.cards := by simp only [settle, finish_cards, arbitrate_cards]
@[simp] theorem settle_sales (busy : Bool) (s : State) : (settle busy s).sales = s.sales := by simp only [settle, finish_sales, arbitrate_sales]
@[simp] theorem settle_journal (busy : Bool) (s : State) : (settle busy s).journal = s.journal := by simp only [settle, finish_journal, arbitrate_journal]
@[simp] theorem settle_pending (busy : Bool) (s : State) : (settle busy s).pending = s.pending := by simp only [settle, finish_pending, arbitrate_pending]

/-! ### Requests (R189, R190) -/

theorem request_taken {c : Instr} {f : State → State} {s : State} (h : takes c s = true) :
    request c f s = .next (finish (f (takeFrame s))) := by
  simp only [request, h, if_true]

theorem request_waits {c : Instr} {f : State → State} {s : State} (h : takes c s = false) :
    request c f s = .next s := by
  simp [request, h]

/-- All that a request can do. -/
theorem request_cases {c : Instr} {f : State → State} {s t : State} (h : request c f s = .next t) :
    (takes c s = true ∧ t = finish (f (takeFrame s))) ∨ (takes c s = false ∧ t = s) := by
  cases hk : takes c s with
  | true => rw [request_taken hk] at h; exact .inl ⟨rfl, (Host.Outcome.next.inj h).symm⟩
  | false => rw [request_waits hk] at h; exact .inr ⟨rfl, (Host.Outcome.next.inj h).symm⟩

/-! ### Events that occur or do not -/

theorem expiry_occurs {b busy : Bool} {f : State → State} {s : State} (hp : s.power = true) (hb : b = true) :
    expiry b f busy s = .next (settle busy (masks none (f s))) := by
  simp [expiry, hp, hb]

/-- All that an expiry can do. -/
theorem expiry_cases {b busy : Bool} {f : State → State} {s t : State} (h : expiry b f busy s = .next t) :
    (s.power = true ∧ b = true ∧ t = settle busy (masks none (f s))) ∨ t = s := by
  unfold expiry at h
  split at h
  · rename_i hc
    simp only [Bool.and_eq_true] at hc
    exact .inl ⟨hc.1, hc.2, (Host.Outcome.next.inj h).symm⟩
  · exact .inr (Host.Outcome.next.inj h).symm

/-! ### The journal (R147, R149) -/

/-- With room, the record is placed at the end under the next number. -/
theorem append_journal_room {p : Option Position} {b : RecordBody} {s : State}
    (h : s.journal.records.length < Config.journalCapacity) :
    (append p b s).journal =
      { s.journal with records := s.journal.records ++ [commonPart s.fare.clock s.journal.next p b],
                       next := s.journal.next + 1 } := by
  unfold append
  simp only [h, if_true]
  split <;> rfl

/-- Without room, only the not-written counter rises. -/
theorem append_journal_full {p : Option Position} {b : RecordBody} {s : State}
    (h : ¬ s.journal.records.length < Config.journalCapacity) :
    (append p b s).journal = { s.journal with notWritten := s.journal.notWritten + 1 } := by
  unfold append
  simp only [h, if_false]
  simp only [raiseOverrun_journal, onJournal_journal]

/-! ### The transmit line (R192) -/

theorem finish_port (s : State) : (finish s).port =
    { (match s.port.tx with
       | .idle => nextFrame s.port
       | .answer _ => s.port
       | .notice _ _ => s.port) with moment := (match s.port.tx with
         | .idle => (nextFrame s.port).moment
         | .answer _ => s.port.moment
         | .notice _ _ => s.port.moment) + 1 } := by
  unfold finish kick
  cases s.port.tx <;> rfl

/-- A state is its blocks: serving the transmit line changes the port alone. -/
theorem finish_eq (s : State) : finish s = { s with port := (finish s).port } := by
  unfold finish kick
  cases s.port.tx <;> rfl

/-! ### New answers of the device link, and the bodies of requests -/

/-- An acknowledged set changes the device link's register of it alone (R175). -/
theorem setAcked_eq (p : Position) (m : BitVec 8) (s : State) :
    setAcked p m s = { s with link := { s.link with acked := s.link.acked.set p (some m) } } := rfl

/-- All that an unmatched WRITE answer can do (R176). -/
theorem writeUnmatched_cases (p : Position) (card : CardId) (s : State) :
    (s.link.lastWrite.get p = some card ∧ writeUnmatched p card s = s) ∨
    (s.link.lastWrite.get p ≠ some card ∧ writeUnmatched p card s = raiseFault (cardAddr p) .moduleError s) := by
  by_cases h : s.link.lastWrite.get p = some card
  · exact .inl ⟨h, if_pos h⟩
  · exact .inr ⟨h, if_neg h⟩

/-- All that a forwarded READ's failure can raise (R71, R74). -/
theorem forwardedFault_cases (failed : Bool) (q : QueuedPass) (s : State) :
    (failed = true ∧ q.unfiltered = false ∧ forwardedFault failed q s = raiseFault q.addr .moduleError s) ∨
    ((failed = false ∨ q.unfiltered = true) ∧ forwardedFault failed q s = s) := by
  cases failed <;> cases h : q.unfiltered <;> simp [forwardedFault, h]

/-- A request is taken from its own frame alone: the head of the buffer has its channel, tag and kind, and spells it (R190). -/
theorem headIs_cons {c : Instr} {f : RxFrame} {rest : List RxFrame} (h : headIs c (f :: rest) = true) :
    requestHead c = some (f.channel, f.tag, f.kind) ∧ spells f c = true := by
  unfold headIs at h
  split at h
  · cases h
  · cases ‹f :: rest = []›
  · rename_i heq
    cases heq
    simp only [Bool.and_eq_true, decide_eq_true_eq] at h
    obtain ⟨⟨⟨rfl, rfl⟩, rfl⟩, hs⟩ := h
    exact ⟨‹_›, hs⟩

/-- Whether the line is found busy is no part of a request's frame. -/
theorem requestHead_unheard (c : Instr) : requestHead (unheard c) = requestHead c := by cases c <;> rfl

/-- All that a frame's body can spell: a request of the frame's own channel, tag and kind (R190). -/
theorem requestIn_some {f : RxFrame} {c : Instr} (h : requestIn f = some c) :
    requestHead c = some (f.channel, f.tag, f.kind) ∧ unheard c = c := by
  unfold requestIn at h
  split at h
  · cases h
  · split at h
    · cases h; assumption
    · cases h
  · cases h

/-- All that an answer to a forwarded frame can do: it goes to the sale processor, and the printer's status in it, outside a
lend, is taken as that of any other answer (R138, R178, R180). -/
theorem passAnswered_cases (q : QueuedPass) (reply : DeviceReply) (s : State) :
    (∃ st, q.addr = .printer ∧ q.unfiltered = false ∧ replyStatus reply = some st ∧
      passAnswered q reply s = handTickets (takeStatus st (passReply q (some reply) s))) ∨
    passAnswered q reply s = passReply q (some reply) s := by
  simp only [passAnswered]
  split
  · exact .inl ⟨_, ‹_›, ‹_›, ‹_›, rfl⟩
  · exact .inr rfl

/-- A frame comes as the command of its answer only with an answer kind that section 9.7 lists (R180). -/
theorem hasCommand_listed {a : Addr} {kind : Nat} {body : List Byte} (h : hasCommand a kind body = true) :
    129 ≤ kind ∧ kind ≤ 140 := by
  unfold hasCommand at h
  split at h <;> first | omega | cases h

/-- All that a right frame that fits its exchange can do where no command of its answer carries it (R165, R180). -/
theorem otherAnswer_cons (x kind n : Byte) (rest : List Byte) (r : ReadyFrame) (busy : Bool) (s : State) :
    let body := rest.take (fieldAt (x :: kind :: n :: rest) 2 1)
    (hasCommand (frameAddr r.frame) kind.toNat body = true ∧ otherAnswer (x :: kind :: n :: rest) r busy s = s) ∨
    (∃ q, r.frame = .pass q ∧ otherAnswer (x :: kind :: n :: rest) r busy s =
      settle busy (masks none (passAnswered q (.other kind body) (countAnswered r.frame (freeLine s))))) ∨
    ((∀ q, r.frame ≠ .pass q) ∧ otherAnswer (x :: kind :: n :: rest) r busy s =
      settle busy (masks none (discardInWindow r true s))) := by
  simp only [otherAnswer]
  split
  · exact .inl ⟨‹_›, rfl⟩
  · split
    · exact .inr (.inl ⟨_, ‹_›, rfl⟩)
    · exact .inr (.inr ⟨‹_›, rfl⟩)

/-- A BOX_INSERTED record is its common part alone (R148). -/
@[simp] theorem kindLength_boxInserted : kindLength .boxInserted = 0 := rfl

end Sys2Proof.Machine
end

