-- ==== Sys2Proof/Laws/PerInstr.lean ====
section
/-! SUPPORT. Per command: a request carries a channel and kind that R206 gives a request, and no other command carries any; a
frame that matches no request carries whatever its frame did. -/

open Sys2Proof Sys2Proof.Machine

namespace Sys2Proof.Laws

/-- What a command carries as a request: nothing, a channel and kind of R206, or, for a frame that matches no request, the
channel, tag and kind of its frame. -/
def Forms.Statement (c : Instr) : Prop :=
  requestHead c = none ∨ (∃ ch tag k, requestHead c = some (ch, tag, k) ∧ knownKind ch.toNat k.toNat = true) ∨
  (∃ ch tag k, c = .unknownRequest ch tag k ∧ requestHead c = some (ch, tag, k))

theorem Forms.quote (tag : Byte) (pos : Option Position) (q : QuoteReq) (busy : Bool) : Forms.Statement (.quote tag pos q busy) := .inr (.inl ⟨_, _, _, rfl, rfl⟩)
theorem Forms.pay (tag : Byte) (pos : Option Position) (payment : Payment) (busy : Bool) : Forms.Statement (.pay tag pos payment busy) := .inr (.inl ⟨_, _, _, rfl, rfl⟩)
theorem Forms.cancel (tag : Byte) (pos : Option Position) (busy : Bool) : Forms.Statement (.cancel tag pos busy) := .inr (.inl ⟨_, _, _, rfl, rfl⟩)
theorem Forms.touch (tag : Byte) (pos : Option Position) : Forms.Statement (.touch tag pos) := .inr (.inl ⟨_, _, _, rfl, rfl⟩)
theorem Forms.loadTable (tag : Byte) (table : Nat) (index : Nat) (body : List Byte) : Forms.Statement (.loadTable tag table index body) := .inr (.inl ⟨_, _, _, rfl, rfl⟩)
theorem Forms.clearStaged (tag : Byte) : Forms.Statement (.clearStaged tag) := .inr (.inl ⟨_, _, _, rfl, rfl⟩)
theorem Forms.stagedCheck (tag : Byte) : Forms.Statement (.stagedCheck tag) := .inr (.inl ⟨_, _, _, rfl, rfl⟩)
theorem Forms.readTable (tag : Byte) (src : TableSource) (table : Nat) (index : Nat) : Forms.Statement (.readTable tag src table index) := .inr (.inl ⟨_, _, _, rfl, rfl⟩)
theorem Forms.activate (tag : Byte) (check : BitVec 16) (time : ActTime) : Forms.Statement (.activate tag check time) := .inr (.inl ⟨_, _, _, rfl, rfl⟩)
theorem Forms.cancelActivation (tag : Byte) : Forms.Statement (.cancelActivation tag) := .inr (.inl ⟨_, _, _, rfl, rfl⟩)
theorem Forms.cashConfig (tag : Byte) (body : List Byte) (busy : Bool) : Forms.Statement (.cashConfig tag body busy) := .inr (.inl ⟨_, _, _, rfl, rfl⟩)
theorem Forms.tubeAdjust (tag : Byte) (tube : Nat) (n : Int) (busy : Bool) : Forms.Statement (.tubeAdjust tag tube n busy) := .inr (.inl ⟨_, _, _, rfl, rfl⟩)
theorem Forms.tubeClear (tag : Byte) (tube : Nat) (busy : Bool) : Forms.Statement (.tubeClear tag tube busy) := .inr (.inl ⟨_, _, _, rfl, rfl⟩)
theorem Forms.denyAdd (tag : Byte) (card : CardId) : Forms.Statement (.denyAdd tag card) := .inr (.inl ⟨_, _, _, rfl, rfl⟩)
theorem Forms.denyRemove (tag : Byte) (card : CardId) : Forms.Statement (.denyRemove tag card) := .inr (.inl ⟨_, _, _, rfl, rfl⟩)
theorem Forms.denyLoad (tag : Byte) (chunk : List CardId) : Forms.Statement (.denyLoad tag chunk) := .inr (.inl ⟨_, _, _, rfl, rfl⟩)
theorem Forms.denyClear (tag : Byte) : Forms.Statement (.denyClear tag) := .inr (.inl ⟨_, _, _, rfl, rfl⟩)
theorem Forms.readJournal (tag : Byte) (n : Nat) : Forms.Statement (.readJournal tag n) := .inr (.inl ⟨_, _, _, rfl, rfl⟩)
theorem Forms.confirmJournal (tag : Byte) (seq : BitVec 32) : Forms.Statement (.confirmJournal tag seq) := .inr (.inl ⟨_, _, _, rfl, rfl⟩)
theorem Forms.readTotals (tag : Byte) : Forms.Statement (.readTotals tag) := .inr (.inl ⟨_, _, _, rfl, rfl⟩)
theorem Forms.closeShift (tag : Byte) : Forms.Statement (.closeShift tag) := .inr (.inl ⟨_, _, _, rfl, rfl⟩)
theorem Forms.ackFaults (tag : Byte) (sets : Vector Flags 6) (overrun : Bool) : Forms.Statement (.ackFaults tag sets overrun) := .inr (.inl ⟨_, _, _, rfl, rfl⟩)
theorem Forms.lendLink (tag : Byte) (addr : Nat) (limit : Nat) (busy : Bool) : Forms.Statement (.lendLink tag addr limit busy) := .inr (.inl ⟨_, _, _, rfl, rfl⟩)
theorem Forms.returnLink (tag : Byte) (busy : Bool) : Forms.Statement (.returnLink tag busy) := .inr (.inl ⟨_, _, _, rfl, rfl⟩)
theorem Forms.setTime (tag : Byte) (day : BitVec 16) (minute : Nat) (second : Nat) : Forms.Statement (.setTime tag day minute second) := .inr (.inl ⟨_, _, _, rfl, rfl⟩)
theorem Forms.setTiming (tag : Byte) (t : SessTiming) : Forms.Statement (.setTiming tag t) := .inr (.inl ⟨_, _, _, rfl, rfl⟩)
theorem Forms.linkTiming (tag : Byte) (t : LinkTiming) : Forms.Statement (.linkTiming tag t) := .inr (.inl ⟨_, _, _, rfl, rfl⟩)
theorem Forms.setMode (tag : Byte) (target : Option Mode) : Forms.Statement (.setMode tag target) := .inr (.inl ⟨_, _, _, rfl, rfl⟩)
theorem Forms.readStatus (tag : Byte) : Forms.Statement (.readStatus tag) := .inr (.inl ⟨_, _, _, rfl, rfl⟩)
theorem Forms.restart (tag : Byte) : Forms.Statement (.restart tag) := .inr (.inl ⟨_, _, _, rfl, rfl⟩)
theorem Forms.factoryClear (tag : Byte) : Forms.Statement (.factoryClear tag) := .inr (.inl ⟨_, _, _, rfl, rfl⟩)
theorem Forms.discardPending (tag : Byte) (card : CardId) : Forms.Statement (.discardPending tag card) := .inr (.inl ⟨_, _, _, rfl, rfl⟩)
theorem Forms.passFrame (tag : Byte) (f : PassFrame) (busy : Bool) : Forms.Statement (.passFrame tag f busy) := .inr (.inl ⟨_, _, _, rfl, rfl⟩)
theorem Forms.unknownRequest (channel : Byte) (tag : Byte) (kind : Byte) : Forms.Statement (.unknownRequest channel tag kind) := .inr (.inr ⟨_, _, _, rfl, rfl⟩)
theorem Forms.saleFrameReceived (bytes : List Byte) : Forms.Statement (.saleFrameReceived bytes) := .inl rfl
theorem Forms.saleFrameSent (busy : Bool) : Forms.Statement (.saleFrameSent busy) := .inl rfl
theorem Forms.doorOpened (busy : Bool) : Forms.Statement (.doorOpened busy) := .inl rfl
theorem Forms.doorClosed (busy : Bool) : Forms.Statement (.doorClosed busy) := .inl rfl
theorem Forms.resetLineAsserted : Forms.Statement .resetLineAsserted := .inl rfl
theorem Forms.resetLineReleased (busy : Bool) : Forms.Statement (.resetLineReleased busy) := .inl rfl
theorem Forms.powerUp (backupLost : Bool) (markerHolds : Bool) (busy : Bool) : Forms.Statement (.powerUp backupLost markerHolds busy) := .inl rfl
theorem Forms.powerLoss : Forms.Statement .powerLoss := .inl rfl
theorem Forms.clockSecond : Forms.Statement .clockSecond := .inl rfl
theorem Forms.quoteLifeExpiry (p : Position) (busy : Bool) : Forms.Statement (.quoteLifeExpiry p busy) := .inl rfl
theorem Forms.inactivityExpiry (p : Position) (busy : Bool) : Forms.Statement (.inactivityExpiry p busy) := .inl rfl
theorem Forms.cardWaitExpiry (p : Position) (busy : Bool) : Forms.Statement (.cardWaitExpiry p busy) := .inl rfl
theorem Forms.tearWindowExpiry (p : Position) (busy : Bool) : Forms.Statement (.tearWindowExpiry p busy) := .inl rfl
theorem Forms.settleLimitExpiry (p : Position) (seq : Byte) (busy : Bool) : Forms.Statement (.settleLimitExpiry p seq busy) := .inl rfl
theorem Forms.cutLimitExpiry (busy : Bool) : Forms.Statement (.cutLimitExpiry busy) := .inl rfl
theorem Forms.lendLimitExpiry (busy : Bool) : Forms.Statement (.lendLimitExpiry busy) := .inl rfl
theorem Forms.reclaimGraceExpiry (busy : Bool) : Forms.Statement (.reclaimGraceExpiry busy) := .inl rfl
theorem Forms.pollDue (a : Addr) (busy : Bool) : Forms.Statement (.pollDue a busy) := .inl rfl
theorem Forms.answerTimeout (busy : Bool) : Forms.Statement (.answerTimeout busy) := .inl rfl
theorem Forms.missingThreshold (a : Addr) (busy : Bool) : Forms.Statement (.missingThreshold a busy) := .inl rfl
theorem Forms.dispensePollLimit (busy : Bool) : Forms.Statement (.dispensePollLimit busy) := .inl rfl
theorem Forms.writeAnswerTimeout (p : Position) (busy : Bool) : Forms.Statement (.writeAnswerTimeout p busy) := .inl rfl
theorem Forms.deviceFrameDiscarded (bytes : List Byte) (busy : Bool) : Forms.Statement (.deviceFrameDiscarded bytes busy) := .inl rfl
theorem Forms.pollAnswer (report : Byte) (body : PollBody) (busy : Bool) : Forms.Statement (.pollAnswer report body busy) := .inl rfl
theorem Forms.announceAnswer (a : Addr) (kind : Announced) (revision : Byte) (busy : Bool) : Forms.Statement (.announceAnswer a kind revision busy) := .inl rfl
theorem Forms.acknowledgement (a : Addr) (set : Option (BitVec 8)) (busy : Bool) : Forms.Statement (.acknowledgement a set busy) := .inl rfl
theorem Forms.present (p : Position) (card : CardId) (busy : Bool) : Forms.Statement (.present p card busy) := .inl rfl
theorem Forms.noCard (p : Position) (busy : Bool) : Forms.Statement (.noCard p busy) := .inl rfl
theorem Forms.collision (p : Position) (busy : Bool) : Forms.Statement (.collision p busy) := .inl rfl
theorem Forms.image (p : Position) (body : List Byte) (busy : Bool) : Forms.Statement (.image p body busy) := .inl rfl
theorem Forms.readFailed (p : Position) (r : ReadFault) (busy : Bool) : Forms.Statement (.readFailed p r busy) := .inl rfl
theorem Forms.writeOk (p : Position) (card : CardId) (busy : Bool) : Forms.Statement (.writeOk p card busy) := .inl rfl
theorem Forms.writeFailed (p : Position) (card : CardId) (r : WriteFault) (busy : Bool) : Forms.Statement (.writeFailed p card r busy) := .inl rfl
theorem Forms.writeUncertain (p : Position) (card : CardId) (busy : Bool) : Forms.Statement (.writeUncertain p card busy) := .inl rfl
theorem Forms.statusAnswer (st : PrinterStatus) (busy : Bool) : Forms.Statement (.statusAnswer st busy) := .inl rfl
theorem Forms.deviceFrameSent (busy : Bool) : Forms.Statement (.deviceFrameSent busy) := .inl rfl

end Sys2Proof.Laws
end

