-- ==== Sys2Proof/Machine/Answers.lean ====
section
/-! DEFINITION. The bytes of what the port sends, where section 9.7 lays them out: the QUOTE answer (R106), the answers that
hold a result code alone or a table (R190, R200), the common part of a journal record (R147), and the heads of notices
(R193). State holds answers and notices as data; these functions say which bytes stand on the line for them. -/

namespace Sys2Proof.Machine

/-! ### The QUOTE answer (R106, section 9.7) -/

def bitIf (b : Bool) (n : Nat) : Nat := if b then 2 ^ n else 0

/-- The flags of a QUOTE answer: CLAMPED, REDUCED, free issue, receipt required, card fields present, and the slot
replaces the chaining pass. -/
def quoteFlags (r : QuoteResult) : Nat :=
  bitIf r.clamped 0 + bitIf r.reduced 1 + bitIf r.free 2 + bitIf r.receipt 3 + bitIf r.card.isSome 4 +
  bitIf (match r.card with
    | some c => c.chaining
    | none => false) 5

/-- The card fields of a QUOTE answer: card id, balance as read, top-up amount, and the slot chosen. -/
def quoteCardBytes : Option CardQuote → List Byte
  | some c =>
    beBytes 7 c.id.toNat ++ beBytes 3 c.balance ++ beBytes 3 (c.topUp.getD 0) ++
    (match c.slot with
     | some i => beBytes 1 i.val
     | none => [0xFF])
  | none => List.replicate 13 0 ++ [0xFF]

/-- The body of an accepted QUOTE's answer, 24 bytes. -/
def quoteAnswerBytes (r : QuoteResult) : List Byte :=
  let days := r.days.getD (0, 0)
  beBytes 1 (resultCode .ok) ++ beBytes 1 (quoteFlags r) ++ beBytes 2 r.price ++ beBytes 2 r.cash ++
  beBytes 2 days.1 ++ beBytes 2 days.2 ++ quoteCardBytes r.card

/-! ### Answers (R190, section 9.7) -/

/-- The body of an answer, the result code first, where the spec states its layout: a result code alone, a QUOTE answer,
or the contents of a table. -/
def answerBytes (a : Answer) : Option (List Byte) :=
  let code := beBytes 1 (resultCode a.result)
  match a.body with
  | .empty => some code
  | .quote r => some (quoteAnswerBytes r)
  | .table bs => some (code ++ bs)
  | _ => none

/-- The frame of an answer: its request's channel, tag and kind (R190). -/
def answerFrame (a : Answer) : Option (List Byte) := (answerBytes a).map (saleFrameBytes a.channel a.tag a.kind)

/-! ### Notices (R193) -/

/-- The kind code of a notice, from 1 in the order of R193's table; JOURNAL_OVERRUN travels as a DEVICE_FAULT. -/
def noticeKind : NoticeBody → Nat
  | .credit _ _ _ _ => 1
  | .session _ _ _ => 2
  | .deviceEvent _ _ _ _ => 3
  | .deviceFault _ _ => 4
  | .journalOverrun => 4
  | .printDone _ _ _ _ _ _ => 5
  | .activation _ _ _ => 6
  | .linkReclaim _ _ _ => 7
  | .journalLevel _ _ _ => 8

/-- The first bytes of a notice's frame: channel 3, tag 0, its kind, its length, and the notice number that opens its
body. -/
def noticeHead (no : BitVec 16) (n : Notice) (length : Nat) : List Byte :=
  [3, 0] ++ beBytes 1 (noticeKind n.body) ++ beBytes 2 length ++ beBytes 2 no.toNat

/-! ### Journal records (R147, R148, section 9.7) -/

/-- The kind of a record, from 1 in the order of R148's table. -/
def recordKind : RecordBody → Nat
  | .sale _ => 1
  | .refund _ => 2
  | .interrupted _ => 3
  | .unclaimedCoin _ _ _ => 4
  | .cardBlocked _ _ _ => 5
  | .writeResolved _ _ _ _ _ => 6
  | .discardedPending _ _ _ _ _ => 7
  | .boxRemoved _ _ _ => 8
  | .boxInserted => 9
  | .tubeAdjust _ _ _ => 10
  | .tableActivated _ _ _ => 11
  | .shiftClose _ _ => 12

def positionCode : Option Position → Nat
  | none => 0
  | some .A => 1
  | some .B => 2

/-- The common part of a record, 14 bytes; the length of the kind-specific part is a free value (log 10). -/
def recordHead (r : Record) : List Byte :=
  beBytes 4 r.seq.toNat ++ beBytes 1 (recordKind r.body) ++ beBytes 1 (positionCode r.pos) ++ beBytes 2 r.day ++
  beBytes 2 r.minute ++ beBytes 1 r.second ++
  beBytes 1 (bitIf r.timeInvalid 0 + bitIf r.receiptNote 1 + bitIf r.slipNote 2) ++
  beBytes 2 (kindLength r.body)

end Sys2Proof.Machine
end

