-- ==== Sys2Proof/WellFormed.lean ====
section
/-! DEFINITION. Which commands can reach the block: each operand within what its field on a link can hold. `exec` is
total and says what every command does; this check names the terms that stand for no frame or event of the spec. -/

namespace Sys2Proof

/-- A sample lies in 0–1,023 (section 2.2). -/
def Samples.wf (x : Samples) : Bool :=
  decide (x.x ≤ 1023) && decide (x.y ≤ 1023) && decide (x.z ≤ 1023)

def GateReading.wf (r : GateReading) : Bool := r.diameter.wf && r.thickness.wf && r.material.wf

/-- An event with a code the controller does not know names no code of its peripheral's column (section 9.7). -/
def ValidatorEvent.wf : ValidatorEvent → Bool
  | .coinAtGate _ r => r.wf
  | .coinRouted _ _ _ => true
  | .coinReturned _ _ => true
  | .returnLever => true
  | .unknown c d => decide (4 < c.toNat) && decide (d.length ≤ Config.linkBody)

def ModuleEvent.wf : ModuleEvent → Bool
  | .fieldFault => true
  | .unknown c d => decide (1 < c.toNat) && decide (d.length ≤ Config.linkBody)

/-- A paid number is one a DISPENSE report can carry in one byte. -/
def ChangerEvent.wf : ChangerEvent → Bool
  | .payoutDone _ n => decide (n ≤ 255)
  | .payoutJam _ n => decide (n ≤ 255)
  | .gauge _ _ _ => true
  | .boxState _ => true
  | .unknown c d => decide (4 < c.toNat) && decide (d.length ≤ Config.linkBody)

def PrinterEvent.wf : PrinterEvent → Bool
  | .cutDone => true
  | .unknown c d => decide (2 < c.toNat) && decide (d.length ≤ Config.linkBody)

def PollBody.wf : PollBody → Bool
  | .validator _ es => es.all ValidatorEvent.wf
  | .cardModule _ _ es => es.all ModuleEvent.wf
  | .changer _ es => es.all ChangerEvent.wf
  | .printer _ es => es.all PrinterEvent.wf

/-- An unknown kind is none of the four kind codes 1–4. -/
def Announced.wf : Announced → Bool
  | .unknown k => decide (k.toNat = 0) || decide (4 < k.toNat)
  | .validator => true
  | .cardModule => true
  | .changer _ => true
  | .printer _ => true

/-- An acknowledgement comes from a validator or the changer, and only a validator's carries a set (R175, R177). -/
def ackWf (a : Addr) (set : Option (BitVec 8)) : Bool :=
  match a with
  | .valA => true
  | .valB => true
  | .changer => set.isNone
  | .cardA => false
  | .cardB => false
  | .printer => false

/-- The operands of a command fit the frame or event it stands for. -/
def Instr.wf : Instr → Bool
  | .quote _ _ _ _ => true
  | .pay _ _ _ _ => true
  | .cancel _ _ _ => true
  | .touch _ _ => true
  | .loadTable _ _ _ body => decide (body.length ≤ Config.saleBody)
  | .clearStaged _ => true
  | .stagedCheck _ => true
  | .readTable _ _ _ _ => true
  | .activate _ _ .now => true
  | .activate _ _ (.day d _) => decide (d ≤ 65535)
  | .cancelActivation _ => true
  | .cashConfig _ body _ => decide (body.length = 163)
  | .tubeAdjust _ _ _ _ => true
  | .tubeClear _ _ _ => true
  | .denyAdd _ _ => true
  | .denyRemove _ _ => true
  | .denyLoad _ chunk => decide (chunk.length ≤ Config.denyChunk)
  | .denyClear _ => true
  | .readJournal _ _ => true
  | .confirmJournal _ _ => true
  | .readTotals _ => true
  | .closeShift _ => true
  | .ackFaults _ _ _ => true
  | .lendLink _ _ _ _ => true
  | .returnLink _ _ => true
  | .setTime _ _ _ _ => true
  | .setTiming _ _ => true
  | .linkTiming _ _ => true
  | .setMode _ _ => true
  | .readStatus _ => true
  | .restart _ => true
  | .factoryClear _ => true
  | .discardPending _ _ => true
  | .passFrame _ f _ => decide (f.body.length ≤ Config.saleBody)
  | .unknownRequest _ _ _ => true
  | .saleFrameReceived _ => true
  | .saleFrameSent _ => true
  | .doorOpened _ => true
  | .doorClosed _ => true
  | .resetLineAsserted => true
  | .resetLineReleased _ => true
  | .powerUp _ _ _ => true
  | .powerLoss => true
  | .clockSecond => true
  | .quoteLifeExpiry _ _ => true
  | .inactivityExpiry _ _ => true
  | .cardWaitExpiry _ _ => true
  | .tearWindowExpiry _ _ => true
  | .settleLimitExpiry _ _ _ => true
  | .cutLimitExpiry _ => true
  | .lendLimitExpiry _ => true
  | .reclaimGraceExpiry _ => true
  | .pollDue _ _ => true
  | .answerTimeout _ => true
  | .missingThreshold _ _ => true
  | .dispensePollLimit _ => true
  | .writeAnswerTimeout _ _ => true
  | .deviceFrameDiscarded _ _ => true
  | .pollAnswer _ body _ => body.wf
  | .announceAnswer _ k _ _ => k.wf
  | .acknowledgement a set _ => ackWf a set
  | .present _ _ _ => true
  | .noCard _ _ => true
  | .collision _ _ => true
  | .image _ body _ => decide (body.length ≤ Config.linkBody)
  | .readFailed _ _ _ => true
  | .writeOk _ _ _ => true
  | .writeFailed _ _ _ _ => true
  | .writeUncertain _ _ _ => true
  | .statusAnswer _ _ => true
  | .deviceFrameSent _ => true

end Sys2Proof
end

