-- ==== Sys2Proof/Tests/Slice0.lean ====
section
/-! SUPPORT. Tests: the checks of WellFormed refuse an ill-formed term each, the spec's worked figures come out, and for each
statement of the certificates with hypotheses a concrete state and operands meet the hypotheses of every clause. -/

set_option Elab.async false

open Sys2Proof Sys2Proof.Machine

/-! ### WellFormed refuses -/

def sample (n : Nat) : Samples := ⟨n, n, n⟩

theorem test_wf_sample : (Samples.wf (sample 1023)) = true ∧ Samples.wf (sample 1024) = false := by decide +kernel
theorem test_wf_reading : GateReading.wf ⟨sample 0, sample 1024, sample 0⟩ = false := by decide +kernel
theorem test_wf_validator_event : ValidatorEvent.wf (.unknown 4 []) = false := by decide +kernel
theorem test_wf_module_event : ModuleEvent.wf (.unknown 1 []) = false := by decide +kernel
theorem test_wf_changer_event : ChangerEvent.wf (.payoutDone 0 256) = false ∧ ChangerEvent.wf (.unknown 2 []) = false := by
  decide +kernel
theorem test_wf_printer_event : PrinterEvent.wf (.unknown 2 []) = false := by decide +kernel
theorem test_wf_poll : Instr.wf (.pollAnswer 0 (.printer .ready [.unknown 1 []]) false) = false := by decide +kernel
theorem test_wf_announced : Instr.wf (.announceAnswer .valA (.unknown 3) 0 false) = false := by decide +kernel
theorem test_wf_acknowledgement : Instr.wf (.acknowledgement .changer (some 0) false) = false := by decide +kernel
theorem test_wf_table_body : Instr.wf (.loadTable 0 1 0 (List.replicate 1025 0)) = false := by decide +kernel
theorem test_wf_cash_body : Instr.wf (.cashConfig 0 [] false) = false := by decide +kernel
theorem test_wf_chunk : Instr.wf (.denyLoad 0 (List.replicate 147 0)) = false := by decide +kernel
theorem test_wf_activation : Instr.wf (.activate 0 0 (.day 65536 0)) = false := by decide +kernel
theorem test_wf_pass_body : Instr.wf (.passFrame 0 ⟨1, 1, List.replicate 1025 0, 0, []⟩ false) = false := by decide +kernel
theorem test_wf_image_body : Instr.wf (.image .A (List.replicate 65 0) false) = false := by decide +kernel

/-! ### Figures the spec works out -/

/-- R188: the check over the nine characters. -/
theorem test_crc16 : crc16 [49, 50, 51, 52, 53, 54, 55, 56, 57] = 0x29B1 := by decide +kernel

/-- R165: the check over the nine characters. -/
theorem test_crc8 : crc8 [49, 50, 51, 52, 53, 54, 55, 56, 57] = 0xF4 := by decide +kernel

/-- The CRC over one run of 128 bytes of the cleared bank, from the value before it. -/
def clearedPiece (k c : Nat) : Nat := (((bankBytes clearedBank).drop (128 * k)).take 128).foldl crc16Byte c

theorem test_cleared_pieces :
    clearedPiece 0 65535 = 61450 ∧ clearedPiece 1 61450 = 16872 ∧ clearedPiece 2 16872 = 60547 ∧
    clearedPiece 3 60547 = 5684 ∧ clearedPiece 4 5684 = 55313 ∧ clearedPiece 5 55313 = 21625 ∧
    clearedPiece 6 21625 = 1988 ∧ clearedPiece 7 1988 = 46959 ∧ clearedPiece 8 46959 = 30969 ∧
    clearedPiece 9 30969 = 6263 ∧ clearedPiece 10 6263 = 26817 ∧ clearedPiece 11 26817 = 59956 ∧
    clearedPiece 12 59956 = 11865 := by
  refine ⟨?_, ?_, ?_, ?_, ?_, ?_, ?_, ?_, ?_, ?_, ?_, ?_, ?_⟩ <;> decide +kernel

/-- One run more of the cleared bank's bytes. -/
theorem cleared_run (k c : Nat) :
    ((bankBytes clearedBank).take (128 * (k + 1))).foldl crc16Byte c =
      clearedPiece k (((bankBytes clearedBank).take (128 * k)).foldl crc16Byte c) := by
  rw [clearedPiece, ← List.foldl_append, show 128 * (k + 1) = 128 * k + 128 from rfl, List.take_add]

/-- The constant that stands for the check value of the cleared bank is that value. -/
theorem test_cleared_check : bankCheck clearedBank = clearedCheck := by
  have h : (bankBytes clearedBank).take (128 * 13) = bankBytes clearedBank :=
    List.take_of_length_le (by decide +kernel)
  obtain ⟨h0, h1, h2, h3, h4, h5, h6, h7, h8, h9, h10, h11, h12⟩ := test_cleared_pieces
  have e : (bankBytes clearedBank).foldl crc16Byte 0xFFFF = 11865 := by
    rw [← h, cleared_run, cleared_run, cleared_run, cleared_run, cleared_run, cleared_run, cleared_run, cleared_run,
      cleared_run, cleared_run, cleared_run, cleared_run, cleared_run, show 128 * 0 = 0 from rfl, List.take_zero,
      List.foldl_nil, h0, h1, h2, h3, h4, h5, h6, h7, h8, h9, h10, h11, h12]
  unfold bankCheck crc16
  rw [e]
  rfl

/-- R63: Gray 001101 has parity bit 1, decodes to 9, and gives 36 at 4 coins per step. -/
theorem test_gauge : parityEven 0b001101#6 true = true ∧ grayLevel 0b001101#6 * 4 = 36 := by decide +kernel

/-- R14: an exact half rounds up, and just below it down. -/
theorem test_rounding : rounded 1 1 1 134217728 = 1 ∧ rounded 1 1 1 134217727 = 0 := by decide +kernel

/-- R17: to the nearest multiple of 10, a half up; a small price becomes U; a large one is lowered. -/
theorem test_cash_price : cashPrice 10 245 = 250 ∧ cashPrice 10 244 = 240 ∧ cashPrice 10 3 = 10 ∧
    cashPrice 100 65535 = 65500 ∧ cashPrice 10 0 = 0 := by decide +kernel

/-- R53: 60 from one 50 and three 20s takes the 20s. -/
theorem test_planner_pass2 : planFor #v[50, 20, 0, 0, 0, 0] #v[1, 3, 0, 0, 0, 0] 60 = some [(1, 3)] := by decide +kernel

/-- R55: 60 from one 50 and two 20s has no plan; the short plan makes 50. -/
theorem test_short_plan : planFor #v[50, 20, 0, 0, 0, 0] #v[1, 2, 0, 0, 0, 0] 60 = none ∧
    planOrShort #v[50, 20, 0, 0, 0, 0] #v[1, 2, 0, 0, 0, 0] 60 = ([(0, 1)], 10) := by decide +kernel

/-- R54: of two tubes of 20, the one with more coins gives first, and of equal ones the lower. -/
theorem test_givers : planFor #v[20, 20, 0, 0, 0, 0] #v[2, 3, 0, 0, 0, 0] 80 = some [(0, 1), (1, 3)] ∧
    planFor #v[20, 20, 0, 0, 0, 0] #v[3, 3, 0, 0, 0, 0] 80 = some [(0, 3), (1, 1)] := by decide +kernel

/-- R1: the end of day 65,535. -/
theorem test_clock_end : clockTick ⟨65535, 1439, 59, true⟩ = ⟨0, 0, 0, false⟩ := by decide +kernel

/-- R89: the amount above the ceiling is cut off; an amount below 0 is cut off. -/
theorem test_clamp_balance : clampBalance 5000 5700 = (5000, 700) ∧ clampBalance 5000 (-1) = (0, 0) := by decide +kernel

/-- Section 9.7: a table's codes are its number in the table's order. -/
theorem test_cleared_bank_length : (bankBytes clearedBank).length = 512 + 2 + 896 + 112 + 56 + 20 + 16 + 1 + 1 := by
  decide +kernel

/-- The QUOTE answer of the worked case of a chained monthly pass, with an id and a balance: result, flags CLAMPED and card
fields, price and cash price 12,000, days 20,011 and 20,040, card id, balance, no top-up, slot 1. -/
theorem test_quote_answer : quoteAnswerBytes ⟨12, .period, some (3, 9), some 0, 12000, 12000, true, false, false,
      some (20011, 20040), false, some ⟨7, 2300, none, none, some 1, false, false⟩⟩ =
    [0, 0x11, 0x2E, 0xE0, 0x2E, 0xE0, 0x4E, 0x2B, 0x4E, 0x48, 0, 0, 0, 0, 0, 0, 7, 0, 0x08, 0xFC, 0, 0, 0, 1] := by
  decide +kernel

/-- A record's marks and kind stand at their offsets (section 9.7). -/
theorem test_record_head : (recordHead { commonPart Clock.cold 18453 (some .B) .boxInserted with slipNote := true }).take 12 =
    [0, 0, 0x48, 0x15, 9, 2, 0, 0, 0, 0, 0, 5] := by rfl

/-! ### States for the witnesses -/

def rideT : Product := { Product.cleared with kind := .single, mult := 256, classes := 1 }
def topUpT : Product := { Product.cleared with kind := .topup, classes := 1 }
def passT : Product := { Product.cleared with kind := .period, mult := 256, flat := 900, days := 7, classes := 1 }

def bankT : Bank :=
  { clearedBank with
    ceiling := 60000
    matrix := vset clearedBank.matrix 1 150
    products := vset (vset (vset clearedBank.products 0 rideT) 1 topUpT) 2 passT
    classes := vfill 8 { factor := 1024, name := List.replicate 12 0 }
    params := { ceiling := 50000, topMin := 1000, topMax := 20000, topStep := 500, daily := 30000 }
    pass := [⟨.validator, 4, .merge⟩, ⟨.cardModule, 20, .pass⟩, ⟨.printer, 11, .queue⟩] }

def coinT (v lo hi : Nat) (t : Fin 6) : CoinType :=
  { value := v, diaLo := lo, diaHi := hi, thickLo := 0, thickHi := 9, matLo := 0, matHi := 9, noise := 5, strict := true,
    route := some t }

def tubeT (c : Fin 8) (n : Nat) : Tube :=
  { Tube.cold with ctype := some c, capacity := 100, count := n, state := .active, tolerance := 3 }

/-- In service, every peripheral ONLINE, nothing on the device link. -/
def serving : State :=
  { State.reset with
    fare := { State.reset.fare with live := bankT, staged := bankT, clock := ⟨20000, 400, 0, true⟩ }
    cash := { types := vset (vset Cash.cold.types 0 (coinT 10 0 99 0)) 1 (coinT 50 100 199 1), unit := 10, limit := 2000 }
    change := { ChangeStore.cold with
      tubes := vset (vset ChangeStore.cold.tubes 0 (tubeT 0 20)) 1 (tubeT 1 20)
      box := { Box.cold with present := true } }
    print := { PrintUnit.start with last := some .ready }
    link := { Link.start with periph := vfill 6 { Peripheral.start with state := .online, pollDue := none } }
    port := { Port.start false with mode := .inService } }

/-- As serving, with the door open. -/
def opened : State := onPort (fun t => { t with mode := .serviceOpen, doorOpen := true }) { serving with doorLine := true }

def onlineNot (a : Addr) (s : State) : State := onPeriph a (fun x => { x with state := .missing }) s
def lentTo (a : Addr) (h : LendPhase) (s : State) : State := onLink (fun l => { l with lend := some ⟨a, 60, h⟩ }) s
def lineIs (x : Line) (s : State) : State := onLink (fun l => { l with line := x }) s
def withRecords (n : Nat) (s : State) : State :=
  onJournal (fun j => { j with
    records := (List.range n).map (fun i => commonPart Clock.cold (BitVec.ofNat 32 i) none .boxInserted)
    next := BitVec.ofNat 32 n }) s
def sessIs (x : Session) (s : State) : State := onSess .A (fun _ => x) s

def paperQ : QuoteReq := ⟨0, 1, 2, 0, .paper, .coins, false, 0⟩
def passQ : QuoteReq := ⟨2, 1, 1, 0, .card, .storedValue, false, 0⟩
def passC : CardQuote := ⟨7, 5000, none, none, some 0, false, false⟩
def paperR : QuoteResult := ⟨0, .single, some (1, 2), some 0, 150, 150, false, false, false, none, false, none⟩
def passR : QuoteResult := ⟨2, .period, some (1, 1), some 0, 900, 900, false, false, false, some (20000, 20006), false, some passC⟩
def imgT : CardImage := ⟨7, .standard, 0, .active, 5000, 41, 0, 0, none, none⟩

def quotedT : Session :=
  { Session.idle 1 with state := .quoted, req := some paperQ, result := some paperR, quoteLife := some 60 }
def quotedCardT : Session :=
  { Session.idle 1 with state := .quoted, req := some passQ, result := some passR, quoteLife := some 60, held := some imgT,
                        entry := some 0 }
def collectingT (credit : Nat) : Session :=
  { Session.idle 1 with state := .collecting, req := some paperQ, result := some paperR, payment := some .coins, due := 150,
                        credit := credit, inactivity := some 45 }
def readingT : Session := { Session.idle 1 with state := .reading, req := some passQ, entry := some 0, cardWait := some 10 }
def writingT : Session :=
  { quotedCardT with state := .issuing, stage := .cardWrite, payment := some .storedValue, quoteLife := none }
def payingOutT : Session :=
  { collectingT 200 with state := .payingOut, issued := true, priceKept := 150, change := 50, changePaid := 10 }
def tornT : Session := { writingT with stage := .torn, write := .torn, tearWindow := some 30 }

/-- One coin of 50 outstanding for the session at A. -/
def coinOut (s : State) : State := onLane .A (fun l => { l with list := [⟨9, 1, 50, .tube 1, 1⟩] }) s

def writeT : CardWrite := ⟨0, .sale, 41, (writeImage 50000 (saleDelta writingT) imgT).1, 0⟩
def entryIs (x : EntryState) (s : State) : State :=
  onEntry 0 (fun _ => { PendingEntry.free with state := x, owner := some (.A, 1), card := some 7, before := 41 }) s
def tornFree (s : State) : State := onEntry 0 (fun y => { y with owner := none }) (entryIs .torn s)

def dispenseT : Dispense := ⟨.A, 1, 2, 0, true, true⟩
def heldT : Reserve :=
  { Reserve.start with mode := .hold, plan := [(1, 2)], amount := 100, paying := true, reserved := vset (vfill 6 0) 1 2 }
def paying (s : State) : State :=
  onChange (fun c => { c with dispense := some dispenseT, misses := 3, resv := c.resv.set .A heldT }) s

def jobT (k : JobKind) : Job := ⟨k, some .A, 1, none, none, some 0, false, 0, []⟩
def progressT : Progress := ⟨1, [[65]], 1, none, true, true, true⟩
def printing (k : JobKind) (s : State) : State := setSlot 0 (.active (jobT k) progressT) s

/-! ### Witnesses: a state and operands that meet the hypotheses of each clause -/

theorem test_untaken : requestHead (.touch 0 none) ≠ none ∧ takes (.touch 0 none) { serving with power := false } = false := by decide +kernel

theorem test_transmit : serving.port.tx = .idle ∧ serving.port.answers = [] ∧ serving.port.notices = [] ∧
    (answerNow 0 0 1 .ok .empty serving).port.answers = [⟨0, 0, 1, .ok, .empty, none⟩] ∧
    firstNotice (notify 1 .journalOverrun serving).port.notices = some ⟨1, 0, .journalOverrun⟩ ∧
    (kick (notify 1 .journalOverrun serving)).port.tx ≠ .idle := by decide +kernel

def fullQueue : State :=
  onPort (fun t => { t with notices := List.replicate 32 ⟨0, 0, .session .A .idle .quote⟩,
                            answers := List.replicate 16 ⟨0, 0, 1, .ok, .empty, none⟩ }) serving

theorem test_full_queues : serving.port.notices.length < 32 ∧ 32 ≤ fullQueue.port.notices.length ∧
    fullQueue.port.notices = List.replicate 31 ⟨0, 0, .session .A .idle .quote⟩ ++ ⟨0, 0, .session .A .idle .quote⟩ :: [] ∧
    replaces (.session .A .quoted .priced) (.session .A .idle .quote) = true ∧
    (∀ n ∈ fullQueue.port.notices, replaces .journalOverrun n.body = false) ∧
    16 ≤ fullQueue.port.answers.length ∧ serving.port.answers.length < 16 ∧ serving.port.overflow = [] := by decide +kernel

def rxFull : State := onPort (fun t => { t with rx := [⟨0, 0, 1, []⟩, ⟨0, 0, 1, []⟩] }) serving
def onWire (a : Answer) : State := onPort (fun t => { t with tx := .answer a }) serving

theorem test_sale_frames : serving.power = true ∧ serving.resetHeld = false ∧ serving.port.rx.length < 2 ∧
    2 ≤ rxFull.port.rx.length ∧ saleCheckRight [1, 2, 3] = false ∧
    (onWire ⟨1, 0, 26, .ok, .empty, some .restartRequest⟩).port.tx = .answer ⟨1, 0, 26, .ok, .empty, some .restartRequest⟩ ∧
    (onPort (fun t => { t with tx := .notice 0 ⟨1, 0, .journalOverrun⟩ }) serving).port.tx =
      .notice 0 ⟨1, 0, .journalOverrun⟩ := by decide +kernel

theorem test_lines : (setReset true serving).power = true ∧ (setReset true serving).resetHeld = true ∧
    { serving with power := false }.power = false ∧ serving.journal.marker = true ∧
    (onJournal (fun j => { j with marker := false }) serving).journal.marker = false := by decide +kernel

theorem test_interrupted : (sess .A (sessIs (collectingT 100) serving)).state = .collecting ∧
    (sess .A (sessIs (collectingT 100) serving)).payment = some .coins ∧
    (sess .A (sessIs (collectingT 100) serving)).issued = false ∧ serving.journal.records.length < 512 ∧
    512 ≤ (withRecords 512 serving).journal.records.length ∧ (sess .A (sessIs payingOutT serving)).issued = true ∧
    (sess .A (sessIs payingOutT serving)).state = .payingOut ∧ (sess .A (sessIs quotedT serving)).state = .quoted ∧
    tornT.state = .issuing ∧ tornT.payment = some .storedValue ∧ tornT.result = some passR ∧ tornT.write = .torn ∧
    writingT.write = .none ∧ writingT.stage = .cardWrite ∧ quotedCardT.stage ≠ .cardWrite := by decide +kernel

/-- The unpaid balance of the last record. -/
def lastOwed (s : State) : Option Nat :=
  match s.journal.records.getLast?.map Record.body with
  | some (.interrupted r) => some r.owed
  | _ => none

/-- R156: the same session adds its change, its owed amount and one sale of its product to the totals. -/
theorem test_interrupted_totals : let t := (interrupt .A (sessIs payingOutT serving)).journal.running
    t.changePaid = 10 ∧ t.owed = 40 ∧ vget t.sales 0 = 1 ∧ t.freeIssues = 0 := by decide +kernel

/-- A receipt waits to be printed against record 1. -/
def receiptWaits (s : State) : State :=
  setSlot 3 (.waiting { kind := .receipt, pos := some .A, queueNo := 1, time := none, sale := none, seq := some 1,
                        pending := false, tag := 0, lines := [] }) (withRecords 3 s)

/-- R161: a warm restart with main power present keeps the journal and notes the receipt that was not printed. -/
theorem test_warm_journal : jobFor .receipt 1 (receiptWaits serving) = true ∧
    (warmStart .resetLine true false (receiptWaits serving)).journal.records.map (fun r => (r.seq, r.receiptNote)) =
      [(0, false), (1, true), (2, false)] ∧
    (warmStart .powerUp false false (receiptWaits serving)).journal.records = (withRecords 3 serving).journal.records := by
  decide +kernel

/-- R130: of 200 paid for a ride of 150 that was issued, 10 came back and 40 are owed; a pass whose write is not known to be done
or not owes what it debited. -/
theorem test_interrupted_owes : lastOwed (interrupt .A (sessIs payingOutT serving)) = some 40 ∧
    lastOwed (interrupt .A (sessIs tornT serving)) = some 900 := by decide +kernel

/-- The lend that a command leaves. -/
def afterLend (o : Host.Outcome State Fault Refusal) : Option Lend :=
  match o with
  | .next t => t.link.lend
  | _ => none

theorem test_door : serving.power = true ∧ serving.port.doorOpen = false ∧ opened.power = true ∧
    opened.port.doorOpen = true ∧ (sess .A (sessIs quotedT serving)).state = .quoted ∧
    (sess .A (sessIs (collectingT 0) serving)).credit = 0 ∧ currentList .A (sessIs (collectingT 0) serving) = [] ∧
    (lentTo .valA .lent serving).link.lend = some ⟨.valA, 60, .lent⟩ ∧
    (lentTo .valA (.reclaiming .limit) opened).link.lend = some ⟨.valA, 60, .reclaiming .limit⟩ := by decide +kernel

/-- R186: a lend in phase LENT is reclaimed at the opening of the door. -/
theorem test_door_reclaims : afterLend (exec (.doorOpened false) (lentTo .valA .lent serving)) =
    some ⟨.valA, 60, .reclaiming .door⟩ := by decide +kernel

/-- R166: the first ANNOUNCE after a start waits when a frame is found on the line. -/
theorem test_start_defers : (coldStart .factoryClear true serving).link.line = .foreign ∧
    (periph .valA (coldStart .factoryClear true serving)).flags.contention = true := by decide +kernel

/-- R192: the notice that a start leaves ready is on the line at the end of the start. -/
theorem test_start_sends : (coldStart .factoryClear true serving).port.tx =
    .notice 0 ⟨1, 0, .deviceFault .valA .contention⟩ ∧ (coldStart .factoryClear true serving).port.notices = [] := by
  decide +kernel

def nextMinute (s : State) : State :=
  onFare (fun f => { f with clock := { f.clock with second := 59 }, act := some ⟨20000, 401, 0⟩ }) s

theorem test_clock : serving.fare.clock.second < 59 ∧ 59 ≤ (nextMinute serving).fare.clock.second ∧
    (nextMinute serving).fare.clock.valid = true ∧ (nextMinute serving).fare.act = some ⟨20000, 401, 0⟩ ∧
    (nextMinute serving).fare.clock.minute < 1439 ∧ (20000 : Nat) = (nextMinute serving).fare.clock.day ∧
    (401 : Nat) ≤ (nextMinute serving).fare.clock.minute + 1 ∧ serving.fare.act = none := by decide +kernel

theorem test_quote_priced : takes (.quote 0 (some .A) paperQ true) serving = true ∧ QuoteOpen .A paperQ serving ∧
    quotePlain serving.fare.live serving.fare.clock serving.cash.unit paperQ = .ok paperR := by decide +kernel

theorem test_quote_refusals :
    (sess .A (sessIs quotedT serving)).state ≠ .idle ∧ opened.port.mode ≠ .inService ∧
    (lentTo .valA .lent serving).link.lend ≠ none ∧ 496 ≤ (withRecords 496 serving).journal.records.length ∧
    (periph .valA (onlineNot .valA serving)).state ≠ .online ∧ ¬ PrinterServes (onlineNot .printer serving) ∧
    stage1 bankT serving.fare.clock { paperQ with product := 40 } = some .productUnknown ∧
    (entry 0 serving).state = .free ∧ (periph .cardA (onlineNot .cardA serving)).state ≠ .online := by decide +kernel

theorem test_quote_refused_by_price : QuoteOpen .A paperQ (onFare (fun f => { f with live := clearedBank }) serving) ∧
    stage1 clearedBank serving.fare.clock paperQ = some .productUnknown ∧
    QuoteOpen .A { passQ with medium := .paper, payment := .coins } (onFare (fun f =>
      { f with clock := ⟨65535, 0, 0, true⟩ }) serving) ∧
    (priceQuote bankT ⟨65535, 0, 0, true⟩ 10 { passQ with medium := .paper, payment := .coins } none) = .error .range := by
  decide +kernel

theorem test_quote_read : takes (.quote 0 (some .A) passQ false) serving = true ∧ QuoteOpen .A passQ serving ∧ readsCard passQ = true ∧
    stage1 serving.fare.live serving.fare.clock passQ = none ∧ (entry 1 (entryIs .torn serving)).state = .free ∧
    (∀ i : Fin 4, i.val < (1 : Fin 4).val → (entry i (entryIs .torn serving)).state ≠ .free) ∧
    (periph .cardA serving).state = .online := by decide +kernel

theorem test_pay : takes (.pay 0 (some .A) .coins false) (sessIs quotedT serving) = true ∧ (sess .A (sessIs quotedT serving)).state = .quoted ∧
    (sess .A (sessIs quotedT serving)).req = some paperQ ∧ (sess .A (sessIs quotedT serving)).result = some paperR ∧
    paperR.free = false ∧ 0 < paperR.price ∧ (periph .valA serving).state = .online ∧ PrinterServes serving ∧
    slotOf 0 serving = .free ∧ (∀ i, slotOf i (onPrint (fun u => { u with slots := vfill 8 (.reserved .B) }) serving) ≠ .free) ∧
    passQ.medium = .card ∧ passQ.payment = .storedValue := by decide +kernel

theorem test_pay_card : takes (.pay 0 (some .A) .storedValue false) (sessIs quotedCardT (entryIs .reserved serving)) = true ∧
    (sess .A (sessIs quotedCardT serving)).held = some imgT ∧ passR.card = some passC ∧ passC.topUp = none ∧
    (∀ i : Fin 4, i ≠ 0 → (entry i serving).state = .free ∨ (entry i serving).card ≠ some imgT.id) ∧
    (periph .cardA serving).state = .online := by decide +kernel

theorem test_cancel : takes (.cancel 0 (some .A) false) serving = true ∧ takes (.cancel 0 none false) serving = true ∧ (sess .A serving).state = .idle ∧
    (sess .A (sessIs readingT serving)).state = .reading ∧ (sess .A (sessIs writingT serving)).state = .issuing ∧
    pledged .A (sessIs (collectingT 0) serving) = 0 ∧
    currentList .A (coinOut (sessIs (collectingT 100) serving)) ≠ [] ∧
    0 < pledged .A (coinOut (sessIs (collectingT 100) serving)) := by decide +kernel

theorem test_refund : RefundPayable .A 1 2 [] (sessIs (collectingT 100) serving) ∧
    RefundUnpayable .A (onlineNot .changer (sessIs (collectingT 100) serving)) ∧
    takes (.cancel 0 (some .A) false) (sessIs (collectingT 100) serving) = true ∧
    takes (.cancel 0 (some .A) false) (onlineNot .changer (sessIs (collectingT 100) serving)) = true ∧
    (sess .A (onlineNot .changer (sessIs (collectingT 100) serving))).inactivity ≠ none := by
  unfold RefundPayable RefundUnpayable; decide +kernel

/-- R57, R125, R156: with the changer MISSING the refund of 100 is owed, and its record adds to no sale count. -/
theorem test_refund_owed : (match exec (.cancel 0 (some .A) false) (onlineNot .changer (sessIs (collectingT 100) serving)) with
    | .next t => some (t.journal.records.map (fun r => match r.body with | .refund x => x.owed | _ => 0),
        t.journal.running.owed, vget t.journal.running.sales 0)
    | _ => none) = some ([100], 100, 0) := by decide +kernel

theorem test_touch : takes (.touch 0 (some .A)) (sessIs quotedT serving) = true ∧ (sess .A (sessIs quotedT serving)).state = .quoted ∧
    (sess .A (sessIs (collectingT 0) serving)).state = .collecting ∧ (sess .A serving).state ≠ .quoted := by decide +kernel

theorem test_load : takes (.loadTable 0 5 0 []) serving = true ∧ takes (.clearStaged 0) serving = true ∧ serving.fare.act = none ∧
    (nextMinute serving).fare.act ≠ none ∧ (loadInto 5 0 [] bankT = .error .badLength) ∧
    loadInto 5 0 [1, 0] bankT = .ok { bankT with ceiling := 256 } := by decide +kernel

theorem test_tables_load : (∀ i : Fin 256, vget bankT.matrix i < 65536) ∧ bankT.ceiling < 65536 ∧
    (∀ i : Fin 8, (vget bankT.bands i).days.toNat < 128 ∧ (vget bankT.bands i).start ≤ 1439 ∧
      1 ≤ (vget bankT.bands i).stop ∧ (vget bankT.bands i).stop ≤ 1440 ∧ (vget bankT.bands i).factor < 65536) ∧
    bankT.params.ceiling ≤ 500000 ∧ (∀ i : Fin 32, (vget bankT.products i).name.length = 20 ∧
      (vget bankT.products i).mult ≤ 2048 ∧ ((vget bankT.products i).kind = .period → 1 ≤ (vget bankT.products i).days)) ∧
    (∀ i : Fin 8, (vget bankT.classes i).factor ≤ 1024 ∧ (vget bankT.classes i).name.length = 12) ∧
    bankT.pass.length ≤ 64 ∧ bankT.pass.Pairwise (fun x y =>
      PeriphKind.code x.kind * 256 + x.code.toNat < PeriphKind.code y.kind * 256 + y.code.toNat) := by decide +kernel

theorem test_line_fits : LineFits [.text [65, 66], .mark .seq] := by
  refine ⟨by decide, ?_, by decide⟩
  intro x h
  simp at h
  simp [h]

theorem test_cash_fits : CashFits (cashTables serving) := by unfold CashFits; decide +kernel

theorem test_reads : takes (.stagedCheck 0) serving = true ∧ takes (.readTable 0 .live 5 0) serving = true ∧
    takes (.readJournal 0 1) serving = true ∧ takes (.readTotals 0) serving = true ∧ takes (.readStatus 0) serving = true ∧
    serving.journal.records = [] ∧ (withRecords 3 serving).journal.records ≠ [] ∧ readTableBytes .live 10 0 serving = none ∧
    readTableBytes .live 5 0 serving = some [0xEA, 0x60] := by decide +kernel

theorem test_activate : takes (.activate 0 0 .now) serving = true ∧ consistency serving.fare.staged serving.cash.unit = none ∧
    serving.fare.clock.valid = true ∧ (20000 : Nat) * 1440 + 400 = serving.fare.clock.day * 1440 + serving.fare.clock.minute ∧
    consistency clearedBank 1 = some (1, 5) ∧ takes (.cancelActivation 0) (nextMinute serving) = true ∧
    (onFare (fun f => { f with clock := Clock.cold }) serving).fare.clock.valid = false := by decide +kernel

def cashBody : List Byte := cashBytes (cashTables serving)

theorem test_cash_config : takes (.cashConfig 0 cashBody false) opened = true ∧ cashBody.length = 163 ∧ cashInRange cashBody = true ∧
    (cashOf cashBody).unit = 10 ∧ opened.fare.live.params.topStep % (cashOf cashBody).unit = 0 ∧ opened.fare.act = none ∧
    (∀ i : Fin 6, (vget (cashOf cashBody).tubes i).ctype = (tube i opened).ctype ∧
      (tube i opened).count ≤ (vget (cashOf cashBody).tubes i).capacity) ∧
    (vget (cashOf cashBody).types 0).value = (coinType 0 opened).value ∧
    (vget (cashOf cashBody).types 1).value = (coinType 1 opened).value := by decide +kernel

theorem test_cash_config_refused : serving.port.mode ≠ .serviceOpen ∧ (List.replicate 163 (0 : Byte)).length = 163 ∧
    cashInRange (List.replicate 163 0) = false ∧
    bankT.params.topStep % (cashOf (cashBody.take 160 ++ [7, 0, 9])).unit ≠ 0 ∧
    cashInRange (cashBody.take 160 ++ [7, 0, 9]) = true ∧
    (vget (cashOf (cashBody.take 136 ++ [1] ++ cashBody.drop 137)).tubes 0).ctype ≠ (tube 0 opened).ctype ∧
    (vget (cashOf (cashBody.take 137 ++ [10] ++ cashBody.drop 138)).tubes 0).capacity < (tube 0 opened).count := by
  decide +kernel

theorem test_tube_requests : takes (.tubeAdjust 0 0 5 false) opened = true ∧ takes (.tubeClear 0 0 false) opened = true ∧ (tube 0 opened).state ≠ .disabled ∧
    (0 : Int) ≤ (tube 0 opened).count + (-20) ∧ (tube 2 opened).state = .disabled ∧ (tube 0 opened).state ≠ .jammed ∧
    ((tube 0 opened).capacity : Int) < (tube 0 opened).count + 81 ∧
    ((tube 1 (paying opened)).count : Int) + (-19) < (vget (resv .A (paying opened)).reserved 1 +
      vget (resv .B (paying opened)).reserved 1 : Nat) ∧
    (tube 0 (onTube 0 (fun x => { x with state := .jammed }) opened)).state = .jammed := by decide +kernel

def denying (n : Nat) (s : State) : State := setDeny ((List.range n).map (BitVec.ofNat 56)) s

theorem test_deny : takes (.denyAdd 0 3) (denying 3 serving) = true ∧ (denying 3 serving).cards.deny = [0, 1, 2] ∧
    (2 : CardId) ∈ (denying 3 serving).cards.deny ∧ (3 : CardId) ∉ (denying 3 serving).cards.deny ∧
    [(3 : CardId), 4].Pairwise (fun a b => a.toNat < b.toNat) ∧ takes (.denyRemove 0 3) (denying 3 serving) = true ∧
    takes (.denyLoad 0 [3, 4]) (denying 3 serving) = true ∧ takes (.denyClear 0) (denying 3 serving) = true ∧
    (denying 3 serving).cards.deny.getLast? = some 2 := by decide +kernel

theorem test_deny_ok : DenyOk (denying 3 serving).cards := by unfold DenyOk; decide +kernel

theorem test_deny_full : (denying 2048 serving).cards.deny.length = 2048 := by
  simp [denying, setDeny, onCards]

theorem test_confirm : takes (.confirmJournal 0 0) (withRecords 3 serving) = true ∧
    ((withRecords 3 serving).journal.next - 1 - 0).toNat < 3 ∧
    3 ≤ ((withRecords 3 serving).journal.next - 1 - 0xFFFFFFFF).toNat ∧
    2147483648 ≤ ((withRecords 3 serving).journal.next - 1 - 3).toNat := by decide +kernel

theorem test_journal_ok : JournalOk (withRecords 3 serving).journal := by unfold JournalOk; decide +kernel

theorem test_close_shift : takes (.closeShift 0) serving = true ∧ (∀ p : Position, p = .A ∨ p = .B → (sess p serving).state = .idle) ∧
    serving.journal.records.length < 496 ∧ 496 ≤ (withRecords 496 serving).journal.records.length ∧
    (sess .A (sessIs quotedT serving)).state ≠ .idle := by
  refine ⟨by decide +kernel, ?_, by decide +kernel, by decide +kernel, by decide +kernel⟩
  rintro p (rfl | rfl) <;> decide +kernel

theorem test_append : (withRecords 383 serving).journal.records.length = 383 ∧
    512 ≤ (withRecords 512 serving).journal.records.length ∧ serving.link.overrun = false ∧
    (onLink (fun l => { l with overrun := true }) serving).link.overrun = true := by decide +kernel

theorem test_settings : takes (.ackFaults 0 (vfill 6 Flags.none) true) serving = true ∧
    takes (.setTime 0 20000 400 0) serving = true ∧ takes (.setTiming 0 SessTiming.default) serving = true ∧
    takes (.linkTiming 0 LinkTiming.default) serving = true ∧ takes (.setMode 0 none) serving = true ∧
    (nextMinute serving).fare.act = some ⟨20000, 401, 0⟩ ∧
    ¬ ((nextMinute serving).fare.clock.valid = true ∧ (nextMinute serving).fare.clock.day = (20001 : BitVec 16).toNat ∧
      (nextMinute serving).fare.clock.minute = 1) ∧ 20000 * 1440 + 401 ≤ (20001 : BitVec 16).toNat * 1440 + 1 ∧ serving.fare.act = none ∧
    linkTimingInRange LinkTiming.default = true ∧ linkTimingInRange { LinkTiming.default with missing := 9 } = false ∧
    serving.port.mode ≠ .serviceOpen ∧ opened.port.mode = .serviceOpen ∧
    sessTimingInRange SessTiming.default = true ∧ sessTimingInRange { SessTiming.default with cardWait := 1 } = false := by
  decide +kernel

theorem test_lend : takes (.lendLink 0 2 60 false) serving = true ∧ takes (.returnLink 0 false) serving = true ∧ serving.link.lend = none ∧
    (periph .valB serving).state = .online ∧ (sess .A serving).state = .idle ∧ (sess .B serving).state = .idle ∧
    (lane .A serving).list = [] ∧ (lane .B serving).list = [] ∧ serving.change.dispense = none ∧
    serving.link.cardReady = [] ∧ serving.link.line = .idle ∧ (paying serving).change.dispense ≠ none ∧
    (lentTo .valB .lent serving).link.lend = some ⟨.valB, 60, .lent⟩ ∧
    (lentTo .printer (.reclaiming .door) serving).link.lend = some ⟨.printer, 60, .reclaiming .door⟩ := by decide +kernel

/-- R171, R187: at the end of a lend a poll that was due before it keeps its age, and the others fall due at that moment. -/
theorem test_lend_end_polls : let t := allPollsDue .valA (onPort (fun t => { t with moment := 9 })
      (onPeriph .printer (fun x => { x with pollDue := some 2 }) (lentTo .valA .lent serving)))
    (periph .printer t).pollDue = some 2 ∧ (periph .changer t).pollDue = some 9 ∧ (periph .valA t).announceNext = true := by
  decide +kernel

theorem test_starts : takes (.restart 0) opened = true ∧ takes (.factoryClear 0) opened = true ∧ opened.port.mode = .serviceOpen ∧
    (sess .A opened).state = .idle ∧ (sess .B opened).state = .idle ∧ opened.link.lend = none ∧
    opened.journal.records = [] ∧ (∀ e : Fin 4, (entry e opened).state = .free) ∧
    (entry 0 (tornFree opened)).state ≠ .free ∧ takes (.unknownRequest 3 0 1) serving = true ∧ knownKind 3 1 = false ∧
    knownKind 1 28 = true ∧ running opened = true ∧ opened.port.startReq = none ∧ opened.port.answers.length < 16 := by
  decide +kernel

/-- R190: a CASH_CONFIG frame of the right length is taken with its own body alone, and not as a misfit; one of another length
has a body that does not fit. -/
def rxCash (n : Nat) : State := onPort (fun t => { t with rx := [⟨1, 0, 7, List.replicate n 0⟩] }) opened

theorem test_frame_head : takes (.cashConfig 0 (List.replicate 163 0) false) (rxCash 163) = true ∧
    takes (.cashConfig 0 [] false) (rxCash 163) = false ∧ takes (.unknownRequest 1 0 7) (rxCash 163) = false ∧
    takes (.unknownRequest 1 0 7) (rxCash 162) = true ∧ knownKind 1 7 = true ∧
    bodyFits ⟨1, 0, 7, List.replicate 163 0⟩ = true ∧ bodyFits ⟨1, 0, 7, List.replicate 162 0⟩ = false ∧
    requestHead (.touch 0 none) = some (0, 0, 4) := by decide +kernel

theorem test_discard : takes (.discardPending 0 7) (tornFree opened) = true ∧ (entry 0 (tornFree opened)).state = .torn ∧
    (entry 0 (tornFree opened)).card = some 7 ∧ (entry 0 (tornFree opened)).owner = none ∧
    (∀ i : Fin 4, (entry i (tornFree opened)).state ≠ .free → i = 0) ∧
    (entry 0 (entryIs .writing opened)).state ≠ .torn := by decide +kernel

def frameT (n : Nat) (code : Byte) : PassFrame := ⟨n, code, [], 0x0F, [[72, 73]]⟩
def queueFull (s : State) : State :=
  onLink (fun l => { l with passQueue := List.replicate 8 ⟨0, .cardA, 20, [], false⟩ }) s

theorem test_pass : takes (.passFrame 0 (frameT 1 4) false) serving = true ∧ (frameT 1 4).addr = addrNumber .valA ∧
    passVerdict .valA 4 serving = .merge ∧ passVerdict .cardA 20 serving = .pass ∧ passVerdict .printer 11 serving = .queue ∧
    passVerdict .changer 8 serving = .drop ∧ serving.link.passQueue.length < 8 ∧
    8 ≤ (queueFull serving).link.passQueue.length ∧ (freeSlots serving).length = 8 ∧ slotOf 0 serving = .free ∧
    (lentTo .cardA .lent serving).link.lend = some ⟨.cardA, 60, .lent⟩ ∧
    (periph .cardA (onlineNot .cardA serving)).state ≠ .online ∧ (frameT 1 4).lines = [[72, 73]] ∧
    (List.replicate 49 (65 : Byte)).length = 49 ∧ (onPrint (fun u => { u with last := some .paperOut }) serving).print.last =
      some .paperOut ∧ (freeSlots (onPrint (fun u => { u with slots := vset (vset (vfill 8 (.reserved .B)) 0 .free) 1 .free })
        serving)).length = 2 := by decide +kernel

theorem test_session_timers : (sess .A (sessIs quotedT serving)).quoteLife ≠ none ∧
    (sess .A (sessIs readingT serving)).cardWait ≠ none ∧ (sess .A (sessIs (collectingT 0) serving)).inactivity ≠ none ∧
    (sess .A serving).quoteLife = none ∧ currentList .A (coinOut (sessIs (collectingT 0) serving)) ≠ [] ∧
    0 < pledged .A (coinOut (sessIs (collectingT 0) serving)) := by decide +kernel

/-- R103, R121: the inactivity expiry pays 100 as two coins of 50; with the changer MISSING it is owed. -/
theorem test_inactive_refund : (match exec (.inactivityExpiry .A false) (sessIs (collectingT 100) serving) with
    | .next t => t.change.dispense.map (fun d => (d.tube, d.count))
    | _ => none) = some (1, 2) ∧
    (match exec (.inactivityExpiry .A false) (onlineNot .changer (sessIs (collectingT 100) serving)) with
    | .next t => some t.journal.running.owed
    | _ => none) = some 100 := by decide +kernel

theorem test_tear_window : (sess .A (sessIs tornT serving)).stage = .torn ∧ (sess .A (sessIs tornT serving)).tearWindow ≠ none ∧
    (sess .A (sessIs tornT serving)).entry = some 0 ∧ (sess .A (sessIs tornT serving)).result = some passR ∧
    passR.free = false ∧ (sess .A (sessIs tornT serving)).refunded = false ∧
    (sess .A (sessIs tornT serving)).payment = some .storedValue ∧ currentList .A (sessIs tornT serving) = [] ∧
    currentList .A (coinOut (sessIs tornT serving)) ≠ [] ∧ (sess .A (sessIs tornT serving)).state = .issuing := by decide +kernel

theorem test_settle_limit : (lane .A (coinOut serving)).list.find? (fun y => decide (y.seq = 9)) = some ⟨9, 1, 50, .tube 1, 1⟩ ∧
    current .A ⟨9, 1, 50, .tube 1, 1⟩ (coinOut (sessIs (collectingT 0) serving)) = true ∧ (collectingT 0).stage = .none ∧
    (sess .A (coinOut (sessIs { collectingT 150 with stage := .held } serving))).further = 0 ∧
    (sess .A (coinOut (sessIs { collectingT 0 with stage := .refundWait } serving))).credit = 0 ∧
    (sess .A (sessIs (collectingT 0) serving)).stage = .none ∧ (lane .A serving).list = [] := by decide +kernel

/-- A WRITE of the sale processor's, sent during a lend of the card module at A. -/
def lentWriteT : QueuedPass := ⟨4, .cardA, 7, [], true⟩

theorem test_device_line : (lentTo .valA .lent serving).link.lend ≠ none ∧ readOf .A serving = .none ∧
    writeHeld .A serving = false ∧ writeTo lentWriteT = some .A ∧ writeTo ⟨0, .cardA, 20, [], false⟩ = none ∧
    (lineIs (.sending ⟨0, .pass lentWriteT⟩) serving).link.line = .sending ⟨0, .pass lentWriteT⟩ ∧ lentWriteT.code = 7 ∧
    (lineIs (.sending ⟨0, .poll .valA none⟩) serving).link.line = .sending ⟨0, .poll .valA none⟩ ∧
    (lineIs (.sending ⟨0, .card .A (.write writeT)⟩) serving).link.line = .sending ⟨0, .card .A (.write writeT)⟩ ∧
    (lineIs (.window ⟨0, .poll .valA none⟩) serving).link.line = .window ⟨0, .poll .valA none⟩ ∧
    linkFrameTaken [1, 2] = false ∧ serving.change.dispense = none ∧ serving.link.inhibit.get .A = none ∧
    (lineIs (.window ⟨0, .inhibit .A 3⟩) serving).link.line = .window ⟨0, .inhibit .A 3⟩ ∧
    (lineIs (.window ⟨0, .pass ⟨0, .cardA, 20, [], false⟩⟩) serving).link.line =
      .window ⟨0, .pass ⟨0, .cardA, 20, [], false⟩⟩ ∧ serving.resetHeld = false ∧
    knowsCode (addrKind .changer) 20 = false ∧ hasCommand .changer 132 [1] = false ∧ hasCommand .cardA 136 [] = false ∧
    hasCommand .cardA 138 [1] = false ∧ hasCommand .printer 140 [] = false := by decide +kernel

/-- The DETECT of a read at A, in its answer window. -/
def detects : State := lineIs (.window ⟨0, .card .A (.detect 1 false)⟩) (setRead .A .detecting (sessIs readingT serving))

theorem test_read_sends : ReadSends .A (.detect 1 false) detects ∧ NoReadReady .A detects ∧
    (periph .cardA detects).pollDue = none ∧ detects.link.lend = none ∧ writeHeld .A detects = false ∧
    ReadSends .A (.read 1 7) (setRead .A (.reading 7) detects) ∧ writeHeld .A (onLink (fun l => { l with writeOut := ⟨some writeT, none⟩ }) detects) = true ∧
    NoReadReady .A (lineIs .idle detects) ∧ ¬ NoReadReady .A (pushCard .A (.detect 1 false) detects) := by
  refine ⟨.inl (by decide +kernel), ?_, by decide +kernel, by decide +kernel, by decide +kernel,
    .inr ⟨7, by decide +kernel⟩, by decide +kernel, ?_, ?_⟩ <;> unfold NoReadReady <;> decide +kernel

/-- R171: a poll that falls due during the exchange of a read's DETECT is not lost: left unanswered, the DETECT is sent again. -/
def dueIn (s : State) : State := match exec (.pollDue .cardA false) s with
  | .next t => t
  | _ => serving

theorem test_poll_during_detect : (periph .cardA (dueIn detects)).pollDue = some 0 ∧
    (match exec (.answerTimeout false) (dueIn detects) with
    | .next t => some (t.link.line, (periph .cardA t).pollDue)
    | _ => none) = some (.sending ⟨0, .card .A (.detect 1 false)⟩, none) := by decide +kernel

/-- An INHIBIT of the set 1 is unanswered on the line to the validator at A, which acknowledged 3 last, and the sets given follow
it one by one (R41). -/
def inhibiting (sets : List (BitVec 8)) : State :=
  sets.foldl (fun s m => changeMask .A m s) (onLink (fun l => { l with
    line := .window ⟨0, .inhibit .A 1⟩, inhibitKept := ⟨some (0, 1), none⟩, acked := ⟨some 3, none⟩ })
    serving)

/-- R41: unanswered, it is withdrawn where the mask has come back to the set acknowledged last, and otherwise goes with the newest
set. -/
theorem test_inhibit_unanswered : (unanswered ⟨0, .inhibit .A 1⟩ (inhibiting [2, 3])).link.inhibit.get .A = none ∧
    (unanswered ⟨0, .inhibit .A 1⟩ (inhibiting [2])).link.inhibit.get .A = some (0, 2) ∧
    (unanswered ⟨0, .inhibit .A 1⟩ (inhibiting [])).link.inhibit.get .A = some (0, 1) := by decide +kernel

/-- R41: acknowledged, the validator still gets the newest set. -/
theorem test_inhibit_acknowledged : (acknowledged (some 1) ⟨0, .inhibit .A 1⟩ (inhibiting [2, 3])).link.inhibit.get .A =
    some (0, 3) ∧ (acknowledged (some 1) ⟨0, .inhibit .A 1⟩ (inhibiting [])).link.inhibit.get .A = none ∧
    eventDue serving = false ∧ serving.link.verdicts = [] := by decide +kernel

theorem test_missing : (periph .changer (onPeriph .changer (fun x => { x with missingDue := true }) (paying serving))).state =
      .online ∧
    (periph .changer (onPeriph .changer (fun x => { x with missingDue := true }) serving)).missingDue = true ∧
    (periph .changer serving).missingDue = false ∧ (paying serving).change.dispense = some dispenseT ∧
    dispenseT.sent = true ∧ 3 ≤ (paying serving).change.misses ∧ (periph .changer (paying serving)).state = .online ∧
    (onChange (fun c => { c with misses := 2 }) (paying serving)).change.misses < 3 := by decide +kernel

def missed (a : Addr) (s : State) : State := onPeriph a (fun x => { x with missingDue := true }) s
def waitingWrite (w : CardWrite) (s : State) : State := onLink (fun l => { l with cardReady := [⟨.A, 3, .write w⟩] }) s

theorem test_missing_waits : (missed .cardA (queueFull serving)).link.passQueue ≠ [] ∧
    (sess .A (missed .cardA (sessIs readingT serving))).state = .reading ∧
    (waitingWrite writeT serving).link.cardReady.filter (fun x => decide (x.pos = .A)) = [⟨.A, 3, .write writeT⟩] ∧
    writeT.purpose ≠ .completion ∧ activeJob (printing .freeText serving) = some (0, jobT .freeText, progressT) ∧
    (∀ k : Fin 8, k ≠ 0 → slotOf k (printing .freeText serving) = .free) ∧ 0 < progressT.taken := by decide +kernel

/-- R140, R169: a frame of the pass channel is answered PERIPHERAL_MISSING, and a slip half printed fails. -/
theorem test_missing_answers : (match exec (.missingThreshold .cardA false) (missed .cardA (onLink (fun l => { l with
      passQueue := [⟨4, .cardA, 20, [], false⟩] }) serving)) with
    | .next t => some (t.link.passQueue, t.port.tx)
    | _ => none) = some ([], .answer ⟨2, 4, 1, .peripheralMissing, .empty, none⟩) ∧
    (match exec (.missingThreshold .printer false) (missed .printer (printing .freeText serving)) with
    | .next t => some (vget t.print.failed (kindIndex .freeText))
    | _ => none) = some (vget serving.print.failed (kindIndex .freeText) + 1) := by decide +kernel

def written : State := onLink (fun l => { l with writeOut := ⟨some writeT, none⟩, lastWrite := ⟨some 7, none⟩ })
  (sessIs writingT (entryIs .writing serving))

def completed : State :=
  onLink (fun l => { l with writeOut := ⟨some { writeT with purpose := .completion }, none⟩ }) (tornFree serving)
def lendWrite : State := onLink (fun l => { l with passWrite := ⟨some lentWriteT, none⟩ }) (lentTo .cardA .lent serving)

theorem test_writes : written.link.passWrite.get .A = none ∧ completed.link.writeOut.get .A =
      some { writeT with purpose := .completion } ∧ (entry 0 completed).owner = none ∧ readOf .A completed ≠ .resolving 0 ∧
    readOf .A (setRead .A (.resolving 0) completed) = .resolving 0 ∧ completed.journal.records.length < 512 ∧
    lendWrite.link.writeOut.get .A = none ∧ lendWrite.link.passWrite.get .A = some lentWriteT ∧ lendWrite.link.lend ≠ none ∧
    lendWrite.link.line = .idle ∧ written.link.writeOut.get .A = some writeT ∧ written.link.line = .idle ∧ writeT.image.id = 7 ∧
    writeT.purpose = .sale ∧ serving.link.writeOut.get .A = none ∧ written.link.lastWrite.get .A = some 7 ∧
    serving.link.lastWrite.get .A ≠ some 7 := by decide +kernel

/-- R185: the answer to a forwarded WRITE goes to the sale processor. -/
theorem test_lend_write : (match exec (.writeOk .A 9 false) lendWrite with
    | .next t => (t.link.passWrite.get .A, t.port.tx)
    | _ => (some lentWriteT, .idle)) = (none, .answer ⟨2, 4, 1, .ok, .reply (some (.writeOk 9)), none⟩) := by decide +kernel

/-- R171: at the end of a WRITE a read in DETECTING sends its DETECT in the poll's place. -/
def writeBehind : State := setRead .A .detecting (sessIs readingT (onEntry 0 (fun x => { x with owner := none }) written))
def behindEnded : State := match exec (.writeAnswerTimeout .A false) writeBehind with
  | .next t => t
  | _ => serving

theorem test_write_then_detect : behindEnded.link.line = .sending ⟨0, .card .A (.detect 1 false)⟩ ∧
    (periph .cardA behindEnded).pollDue = none ∧ (entry 0 behindEnded).state = .torn := by decide +kernel

/-- R169, R185: a frame accepted before a lend and sent during it is one of the lend. -/
theorem test_lend_frame : (arbitrate false (onLink (fun l => { l with passQueue := [⟨3, .cardA, 20, [], false⟩] })
    (lentTo .cardA .lent serving))).link.line = .sending ⟨0, .pass ⟨3, .cardA, 20, [], true⟩⟩ := by decide +kernel

theorem test_written_sale : (entry writeT.entry written).owner = some (.A, (sess .A written).serial) ∧ writeT.excess = 0 ∧
    (sess .A written).state = .issuing ∧ (sess .A written).stage = .cardWrite ∧ (sess .A written).req = some passQ ∧
    (sess .A written).payment = some .storedValue ∧ (sess .A written).result = some passR ∧ passR.card = some passC ∧
    writeT.image.balance = 4100 ∧ passC.balance = 5000 ∧ (sess .A written).owed = 0 ∧ (sess .A written).cardOwed = 0 ∧
    (sess .A written).change = 0 ∧ (sess .A written).further = 0 ∧ (sess .A written).refunded = false ∧
    currentList .A written = [] ∧ written.journal.records.length < 512 := by decide +kernel

/-- The answer window of a poll at an address. -/
def polled (a : Addr) (s : State) : State := lineIs (.window ⟨0, .poll a none⟩) s

/-- An address whose last report is numbered 5. -/
def reported (a : Addr) (s : State) : State := onPeriph a (fun x => { x with lastReport := some 5 }) s

/-- A frame to the printer of a code that it does not know. -/
def unknownT : QueuedPass := ⟨4, .printer, 20, [], false⟩

theorem test_poll_answers : (polled .changer (paying serving)).link.line = .window ⟨0, .poll .changer none⟩ ∧
    running (polled .changer (paying serving)) = true ∧ (periph .changer (paying serving)).lastReport ≠ some 5 ∧
    (paying serving).change.dispense = some dispenseT ∧ dispenseT.acked = true ∧ 1 < dispenseT.count ∧ dispenseT.count ≤ 2 ∧
    (onChange (fun c => { c with dispense := some { dispenseT with acked := false } }) serving).change.dispense =
      some { dispenseT with acked := false } ∧ serving.change.box.present = true ∧
    (onBox (fun b => { b with present := false }) serving).change.box.present = false ∧
    activeJob serving = none ∧ serving.print.stub = none ∧
    activeJob (printing .ticket serving) = some (0, jobT .ticket, progressT) ∧ progressT.cutSent = true ∧
    (∀ a : Addr, a ∈ [Addr.printer, .cardA] → (periph a (reported a serving)).lastReport = some 5) ∧
    (lineIs (.window ⟨0, .pass unknownT⟩) serving).link.line = .window ⟨0, .pass unknownT⟩ ∧
    knowsCode .printer unknownT.code.toNat = false := by decide +kernel

/-- R138, R178: a status in the printer's answer to a forwarded frame is its last status, and its flag is raised. -/
theorem test_forwarded_status : (match exec (.pollAnswer 5 (.printer .jammed []) false)
      (lineIs (.window ⟨0, .pass unknownT⟩) serving) with
    | .next t => some (t.print.last, (periph .printer t).flags.jam, t.port.tx)
    | _ => none) = some (some .jammed, true, .answer ⟨2, 4, 1, .ok, .reply (some (.poll 5 (.printer .jammed []))), none⟩) := by
  decide +kernel

/-- R180: an answer of a kind its peripheral has no command for goes to the sale processor. -/
theorem test_forwarded_other : (match exec (.deviceFrameDiscarded (linkFrameBytes 5 132 [1]) false)
      (lineIs (.window ⟨0, .pass ⟨4, .changer, 20, [], false⟩⟩) serving) with
    | .next t => some t.port.tx
    | _ => none) = some (.answer ⟨2, 4, 1, .ok, .reply (some (.other 132 [1])), none⟩) := by decide +kernel

/-- R177: an unacknowledged DISPENSE found idle is ready again; a busy changer leaves it outstanding. -/
theorem test_changer_idle : (changerBusy none (onChange (fun c => { c with
      dispense := some { dispenseT with acked := false } }) serving)).change.dispense =
        some { dispenseT with acked := false, sent := false } ∧
    (changerBusy (some 1) (paying serving)).change.dispense = some dispenseT := by decide +kernel

theorem test_poll_answer : running (lineIs (.window ⟨0, .poll .valA none⟩) serving) = true ∧
    (periph .valA serving).lastReport ≠ some 5 ∧
    (periph .valA (onPeriph .valA (fun x => { x with lastReport := some 5 }) serving)).lastReport = some 5 := by decide +kernel

def coin10 : GateReading := ⟨sample 50, sample 5, sample 5⟩
def coin50 : GateReading := ⟨sample 150, sample 5, sample 5⟩
def noisy50 : GateReading := ⟨⟨150, 150, 160⟩, sample 5, sample 5⟩
def collects (n : Nat) : State := sessIs (collectingT n) serving

theorem test_coin_types : (∀ c : Fin 8, candidate ⟨sample 500, sample 5, sample 5⟩ (coinType c serving) = false) ∧
    candidate coin50 (coinType 1 serving) = true ∧
    (∀ d : Fin 8, d ≠ 1 → candidate coin50 (coinType d serving) = false) ∧ noisy noisy50 (coinType 1 serving) = true ∧
    noisy coin50 (coinType 1 serving) = false ∧ candidate noisy50 (coinType 1 serving) = true ∧
    (lane .A serving).last ≠ some (9, .accept .box) ∧
    (lane .A (coinOut serving)).list.find? (fun y => decide (y.seq = 9)) = some ⟨9, 1, 50, .tube 1, 1⟩ ∧
    (lane .A (onLane .A (fun l => { l with last := some (9, .reject .noise) }) serving)).last = some (9, .reject .noise) := by
  decide +kernel

theorem test_coin_ambiguous : let s := onCash (fun c => { c with types := vset c.types 2 (coinT 20 100 199 2) }) serving
    candidate coin50 (coinType 1 s) = true ∧ candidate coin50 (coinType 2 s) = true := by decide +kernel

theorem test_coin_checks : (sess .A (collects 0)).state = .collecting ∧ (lane .A (collects 0)).spMask.getLsbD 1 = true ∧
    destinationOpen 1 (collects 0) = true ∧ pledged .A (collects 100) + (coinType 1 (collects 100)).value ≤
      (sess .A (collects 100)).due ∧ pledged .A (collects 140) < (sess .A (collects 140)).due ∧
    (sess .A (collects 140)).due < pledged .A (collects 140) + (coinType 1 (collects 140)).value ∧
    planAt (collects 140) .A 40 = some [(0, 4)] ∧
    planAt (onTube 0 (fun x => { x with count := 3 }) (collects 140)) .A 40 = none ∧
    (sess .A (collects 150)).due ≤ pledged .A (collects 150) := by decide +kernel

/-- R38, R39: with 30 due a coin of 50 is enabled because its change can be made; the changed mask becomes the last and is made
ready as the INHIBIT. -/
theorem test_mask : effectiveMask .A (collects 120) = 0b11 ∧ effectiveMask .A (lentTo .valB .lent (collects 120)) = 0 ∧
    (lane .A (collects 120)).lastMask = 0 ∧ (lane .A (recompute .A none (collects 120))).lastMask = 0b11 ∧
    (recompute .A none (collects 120)).link.inhibit.get .A = some (0, 0b11) ∧
    (recompute .A none (collects 120)).port.notices = [⟨0, 0, .credit .A 120 150 0b11⟩] ∧
    recompute .B (some ⟨.A, 120, 150⟩) (collects 120) = collects 120 := by decide +kernel

/-- A plan for 40 in change is held provisionally at A. -/
def provisionalT (s : State) : State := reserveProvisional .A [(0, 4)] 40 s

/-- R34, R36: a coin of 50 returned LATE leaves 120 pledged against 150, and the plan is dropped. -/
theorem test_coin_returned : let s := provisionalT (coinOut (collects 120))
    (resv .A s).mode = .provisional ∧ (coinReturned .A 9 .late s).2 = .matched ∧
    (resv .A (coinReturned .A 9 .late s).1).mode = .cover ∧ (lane .A (coinReturned .A 9 .late s).1).returnedLate = 1 ∧
    (sess .A (coinReturned .A 9 .late s).1).credit = 120 := by decide +kernel

/-- The event table forwards RETURN_LEVER alone. -/
def sortsLever : State :=
  onFare (fun f => { f with live := { f.live with events := [⟨.validator, 4, .forward, 2⟩] } }) serving

/-- R181: an event goes by its entry, and one without an entry gives no notice. -/
theorem test_event_sorted : let s := sortsLever
    (sortEvent .valA 4 (.validator .returnLever) .notUsed s).port.notices =
      [⟨2, 0, .deviceEvent .valA 4 (.validator .returnLever) none⟩] ∧
    sortEvent .valA 3 (.validator .returnLever) .notUsed s = s := by decide +kernel

/-- R112: the lever on a session that has taken nothing ends it as a CANCEL does. -/
theorem test_lever : (sess .A (validatorEvent .A (collects 0) .returnLever)).state = .idle ∧
    (sess .A (validatorEvent .A (coinOut (collects 0)) .returnLever)).endReason = some .lever ∧
    validatorEvent .A serving .returnLever = serving := by decide +kernel

theorem test_coin_refused : (lane .A (onLane .A (fun l => { l with spMask := 1 }) (collects 0))).spMask.getLsbD 1 = false ∧
    4 ≤ (lane .A (onLane .A (fun l => { l with list := List.replicate 4 ⟨9, 1, 50, .tube 1, 1⟩ }) (collects 0))).list.length ∧
    destinationOpen 1 (onTube 1 (fun x => { x with state := .jammed }) (onBox (fun b => { b with present := false })
      (collects 0))) = false := by decide +kernel

theorem test_coin_routed : (lane .A serving).list = [] ∧ (tube 1 serving).state = .active ∧ (tube 1 serving).ctype = some 1 ∧
    (tube 1 serving).count < (tube 1 serving).capacity ∧ serving.change.box.count + 1 < serving.cash.limit ∧
    (onLane .A (fun l => { l with list := [⟨9, 1, 50, .box, 1⟩] }) (collects 0)).coins.a.list.find?
      (fun y => decide (y.seq = 9)) = some ⟨9, 1, 50, .box, 1⟩ ∧ (1 : Nat) = (sess .A (collects 0)).serial ∧
    (sess .A (collects 0)).credit + 50 < (sess .A (collects 0)).due := by decide +kernel

/-- A coin of 50 to box or tube, listed for the session at A. -/
def coinTo (d : Dest) (s : State) : State := onLane .A (fun l => { l with list := [⟨9, 1, 50, d, 1⟩] }) s
def lastCoin : State := setSlot 0 (.reserved .A) (coinTo .box (collects 100))
def lateCoin (g : Stage) : State := coinTo (.tube 1) (sessIs { collectingT 100 with state := .issuing, stage := g } serving)

theorem test_coin_paid : (lane .A lastCoin).list.find? (fun y => decide (y.seq = 9)) = some ⟨9, 1, 50, .box, 1⟩ ∧
    (sess .A lastCoin).due ≤ (sess .A lastCoin).credit + 50 ∧ (sess .A lastCoin).req = some paperQ ∧
    PrinterServes lastCoin ∧ slotOf 0 lastCoin = .reserved .A ∧
    (sess .A lastCoin).payment = some .coins ∧ (sess .A (lateCoin .ticket)).state ≠ .collecting ∧
    (sess .A (lateCoin .ticket)).stage ≠ .held ∧ (sess .A (lateCoin .refundWait)).stage = .refundWait ∧
    (tube 1 (lateCoin .ticket)).count < (tube 1 (lateCoin .ticket)).capacity := by decide +kernel

/-- R49, R109, R117: the coin that brings 140 to a due of 150 makes 40 in change and queues the ticket. -/
theorem test_coin_pays : let s := setSlot 0 (.reserved .A) (coinTo .box (collects 140))
    let u := (coinRouted .A 9 1 .box s).1
    (sess .A u).change = 40 ∧ (sess .A u).stage = .ticket ∧ (resv .A u).plan = [(0, 4)] ∧ (resv .A u).amount = 40 := by
  decide +kernel

theorem test_payout : (paying serving).change.dispense = some dispenseT ∧ dispenseT.tube = 1 ∧ dispenseT.count ≤ 2 ∧
    1 < dispenseT.count := by decide +kernel

/-- R59: with the other tube empty nothing of the 100 left is planned again, and all of it is carried as owed. -/
theorem test_jam_owes : let s := onTube 0 (fun x => { x with count := 0 }) (paying serving)
    (resv .A (jam .A 1 1 s)).amount = 0 ∧ (resv .A (jam .A 1 1 s)).short = 50 := by decide +kernel

theorem test_gauge_cases : (tube 2 serving).state = .disabled ∧ (tube 1 serving).state ≠ .disabled ∧
    parityEven 0b001101#6 false = false ∧ parityEven 0b000000#6 false = true ∧ matchDispense 1 serving = none ∧
    matchDispense 1 (paying serving) ≠ none := by decide +kernel

theorem test_announced : (lineIs (.window ⟨0, .announce .printer⟩) serving).link.line = .window ⟨0, .announce .printer⟩ ∧
    (⟨0, .valA, 4, [], false⟩ : QueuedPass).addr = valAddr .A ∧ (⟨0, .valA, 4, [], false⟩ : QueuedPass).code = 4 ∧
    serving.link.inhibit.get .A = none := by decide +kernel

theorem test_announce : (lineIs (.window ⟨0, .announce .cardA⟩) serving).link.line = .window ⟨0, .announce .cardA⟩ ∧
    (lineIs (.window ⟨0, .dispense .A 1 2⟩) (paying serving)).link.line = .window ⟨0, .dispense .A 1 2⟩ ∧
    running (lineIs (.window ⟨0, .announce .cardA⟩) serving) = true := by decide +kernel

def reading (x : ReadPhase) (r : ReadyFrame) : State :=
  lineIs (.window r) (setRead .A x (sessIs readingT (entryIs .free serving)))

theorem test_card_read : running (reading .detecting ⟨0, .card .A (.detect 1 false)⟩) = true ∧
    (sess .A (reading .detecting ⟨0, .card .A (.detect 1 false)⟩)).serial = 1 ∧
    readOf .A (reading .detecting ⟨0, .card .A (.detect 1 false)⟩) = .detecting ∧
    readOf .A (reading (.reading 7) ⟨0, .card .A (.read 1 7)⟩) = .reading 7 ∧ imageOf [] = none ∧
    imageOf (imageBytes imgT) = some imgT ∧ denied serving.cards.deny imgT.id = false ∧
    (sess .A (reading (.reading 7) ⟨0, .card .A (.read 1 7)⟩)).req = some passQ ∧
    quoteCard bankT serving.fare.clock 10 passQ imgT = .ok passR := by decide +kernel

/-- A stored-value sale at A whose ticket has failed, with the DETECT of its credit-back in its answer window (R93). -/
def creditingT : Session :=
  { writingT with stage := .creditDetect, write := .done, ticket := .failed, debited := 900, endReason := some .ticketFailed }
def crediting : State :=
  lineIs (.window ⟨0, .card .A (.detect 1 true)⟩) (sessIs creditingT (entryIs .reserved serving))
def creditOut : State := onLink (fun l => { l with writeOut := ⟨some { writeT with purpose := .creditBack }, none⟩, line := .idle })
  (onEntry 0 (fun y => { y with state := .writing }) (sessIs { creditingT with stage := .creditWrite } crediting))

theorem test_credit_back : TicketFailedSale .A crediting ∧ TicketFailedSale .A creditOut ∧ currentList .A crediting = [] ∧
    currentList .A (coinOut crediting) ≠ [] ∧ (sess .A crediting).held = some imgT ∧ (sess .A crediting).entry = some 0 ∧
    (sess .A crediting).result = some passR ∧ passR.free = false ∧ (periph .cardA crediting).state = .online ∧
    (∀ i : Fin 4, i ≠ 0 → (entry i crediting).state = .free ∨ (entry i crediting).card ≠ some imgT.id) ∧
    (entry 0 creditOut).owner = some (.A, (sess .A creditOut).serial) ∧ (sess .A creditOut).state ≠ .idle := by
  unfold TicketFailedSale; decide +kernel

/-- R93: the held card gets the credit-back's WRITE; with no card the price of 900 is owed. -/
theorem test_credit_detect : (match exec (.present .A 7 false) crediting with
    | .next t => some ((entry 0 t).delta.value, (sess .A t).stage)
    | _ => none) = some (900, .creditWrite) ∧
    (match exec (.noCard .A false) crediting with
    | .next t => some (t.journal.running.owed, (sess .A t).state)
    | _ => none) = some (900, .idle) := by decide +kernel

/-- A read at A of the card whose write is torn, held for the session at B. -/
def tornRead (o : Option (Position × Nat)) : State :=
  onEntry 0 (fun y => { y with owner := o }) (lineIs (.window ⟨0, .card .A (.read 1 7)⟩)
    (setRead .A (.reading 7) (sessIs { readingT with entry := some 1 } (entryIs .torn (onLane .B (fun l => { l with
      list := [⟨9, 1, 50, .box, 1⟩] }) (onSess .B (fun _ => tornT) serving))))))

theorem test_read_refused : ({ imgT with status := .blocked } : CardImage).status = .blocked ∧
    denied (setDeny [7] serving).cards.deny 7 = true ∧ (sess .A (sessIs readingT serving)).entry = some 0 ∧
    imageOf (imageBytes { imgT with status := .blocked }) = some { imgT with status := .blocked } ∧
    quoteCard bankT serving.fare.clock 10 passQ { imgT with balance := 10 } = .error .insufficientValue ∧
    (entry 0 (entryIs .writing serving)).state = .writing ∧ (entry 0 (entryIs .writing serving)).card = some imgT.id := by
  decide +kernel

theorem test_torn_read : (entry 0 (tornRead none)).state = .torn ∧ imgT.counter = (entry 0 (tornRead none)).before ∧
    ({ imgT with counter := 42 } : CardImage).counter = (entry 0 (tornRead none)).before + 1 ∧
    (sess .A (tornRead none)).entry ≠ some 0 ∧ (tornRead none).journal.records.length < 512 ∧
    (∀ i : Fin 4, i ≠ 0 → (entry i (tornRead none)).state = .free ∨ (entry i (tornRead none)).card ≠ some imgT.id) ∧
    (entry 0 (tornRead (some (.B, 1)))).owner = some (.B, (sess .B (tornRead none)).serial) ∧
    currentList .B (tornRead none) ≠ [] ∧ mediumOf (sess .B (tornRead none)) = .card ∧
    (sess .B (tornRead none)).change = 0 ∧ (sess .B (tornRead none)).further = 0 := by decide +kernel

/-- R96: what a completion cuts off at the ceiling is kept with its entry. -/
theorem test_completion_excess : (entry 0 (startCompletion .A 0 { imgT with balance := 49000 }
    (onEntry 0 (fun y => { y with delta := { Delta.zero with value := 1700 } }) (tornFree serving)))).excess = 700 := by
  decide +kernel

theorem test_printer : activeJob (printing .receipt serving) = some (0, jobT .receipt, progressT) ∧
    serving.print.last = some .ready ∧ progressT.cutSent = true ∧ progressT.limit = true ∧ (jobT .receipt).kind ≠ .ticket ∧
    0 < progressT.taken ∧ (lineIs (.window ⟨0, .line 1 [65]⟩) (printing .receipt serving)).link.line =
      .window ⟨0, .line progressT.serial [65]⟩ := by decide +kernel

/-- A ticket at its cut limit, its session at A, paid in coins, with a coin outstanding. -/
def ticketing : State := coinOut (printing .ticket
  (sessIs { collectingT 150 with state := .issuing, stage := .ticket, ticket := .queued } serving))

theorem test_ticket_limit : activeJob ticketing = some (0, jobT .ticket, progressT) ∧ (jobT .ticket).pos = some .A ∧
    (sess .A ticketing).stage = .ticket ∧ (sess .A ticketing).payment = some .coins ∧ isFree (sess .A ticketing) = false ∧
    currentList .A ticketing ≠ [] ∧ (sess .A (printing .ticket serving)).stage ≠ .ticket := by decide +kernel

theorem test_printer_waits : let g := { progressT with cutSent := false, limit := false }
    activeJob (setSlot 0 (.active (jobT .receipt) g) serving) = some (0, jobT .receipt, g) := by decide +kernel

theorem test_ride_price : (vget bankT.products 0).kind = .single ∧ (vget bankT.products 0).classes.getLsbD 0 = true ∧
    vget bankT.matrix 1 ≠ 0 := by decide +kernel

theorem test_plan_exists : planFor #v[50, 20, 10, 0, 0, 0] #v[1, 3, 2, 0, 0, 0] 140 = none ∧
    planFor #v[50, 20, 10, 0, 0, 0] #v[1, 3, 2, 0, 0, 0] 130 = some [(0, 1), (1, 3), (2, 2)] := by decide +kernel

theorem test_invariants : JournalOk serving.journal ∧ DenyOk serving.cards ∧ ClockOk serving.fare.clock ∧
    SettingsOk serving ∧ PortOk serving.port ∧ DoorOk serving ∧ QueuesOk serving := by
  unfold JournalOk DenyOk ClockOk SettingsOk PortOk DoorOk QueuesOk LaneOk
  decide +kernel

/-- R88: one torn entry, the others free. -/
theorem test_entries_ok : EntriesOk (entryIs .torn serving).cards := by
  have one : ∀ e f : Fin 4, (entry e (entryIs .torn serving)).card ≠ none →
      (entry e (entryIs .torn serving)).card = (entry f (entryIs .torn serving)).card → e = f := by decide +kernel
  exact ⟨by decide +kernel, fun e f x he hf => one e f (by rw [entry, he]; simp) (by rw [entry, entry, he, hf])⟩
end

namespace Sys2Proof.Machine

/-! ### Moves: what a step is made of

Every step is a sequence of moves: updates that leave alone the parts of the state that the invariants speak of, and a few named
operations on those parts, each with the check under which the model makes it. `step_moves` says so once; an invariant is then
proved by looking at each kind of move. -/

/-- The parts of the state that the invariants speak of: main power and the door line, the clock, the verdict lists, the deny list
and the pending-write entries, the periods, the journal's numbers, the link settings, the pass-through queue, and the port's queues
and mode. -/
structure Watched where
  power : Bool
  doorLine : Bool
  clock : Clock
  lists : Pair (List Outstanding)
  deny : List CardId
  entries : Vector PendingEntry 4
  timing : SessTiming
  numbers : List (BitVec 32)
  next : BitVec 32
  linkTiming : LinkTiming
  passQueue : List QueuedPass
  rx : List RxFrame
  answers : List Answer
  overflow : List Answer
  notices : List Notice
  mode : Mode
  doorOpen : Bool

def watched (s : State) : Watched :=
  { power := s.power
    doorLine := s.doorLine
    clock := s.fare.clock
    lists := s.coins.map (·.list)
    deny := s.cards.deny
    entries := s.cards.entries
    timing := s.sales.timing
    numbers := s.journal.records.map (·.seq)
    next := s.journal.next
    linkTiming := s.link.timing
    passQueue := s.link.passQueue
    rx := s.port.rx
    answers := s.port.answers
    overflow := s.port.overflow
    notices := s.port.notices
    mode := s.port.mode
    doorOpen := s.port.doorOpen }

/-- What may become of the deny list (R81, R82). -/
inductive DenyStep (xs : List CardId) : List CardId → Prop where
  | add (x : CardId) (new : denied xs x = false) (room : xs.length < Config.denyCapacity) : DenyStep xs (insertId x xs)
  | remove (x : CardId) : DenyStep xs (xs.filter (fun y => y ≠ x))
  | load (chunk : List CardId) (taken : denyLoadRefusal xs chunk = none) : DenyStep xs (xs ++ chunk)
  | clear : DenyStep xs []

/-- What may become of a pending-write entry, apart from a new write under it: it gives up its card; or it keeps it, in its state or
as a write that is torn or being resolved (R88). -/
def EntryStep (x y : PendingEntry) : Prop :=
  y.card = none ∨ y.card = x.card ∧ (y.state = x.state ∨ y.state = .torn ∨ y.state = .resolving)

/-- What may become of an outstanding-verdict list: entries leave it, or one with a new number joins it while it has room (R30). -/
def ListStep (old new : List Outstanding) : Prop :=
  new.Sublist old ∨
  ∃ e, new = old ++ [e] ∧ old.length < Config.verdictCapacity ∧ ∀ x ∈ old, x.seq ≠ e.seq

/-- What may become of the pass-through queue: frames leave it, or one joins it while it has room (R180). -/
def PassStep (old new : List QueuedPass) : Prop :=
  new.Sublist old ∨ ∃ q, new = old ++ [q] ∧ old.length < Config.passCapacity

/-- One move. -/
inductive Move : State → State → Prop where
  /-- No watched part changes. -/
  | unwatched {s t : State} (same : watched t = watched s) : Move s t
  /-- An answer becomes ready (R192). -/
  | answer (a : Answer) (s : State) : Move s (enqueue a s)
  /-- A notice is queued (R194, R195). -/
  | notice (cls : Nat) (b : NoticeBody) (s : State) : Move s (notify cls b s)
  /-- The transmit line takes its next frame (R192). -/
  | serve (s : State) : Move s (onPort nextFrame s)
  /-- A request leaves the receive buffer (R189). -/
  | take (s : State) : Move s (takeFrame s)
  /-- A received frame is kept (R189). -/
  | keep (f : RxFrame) (s : State) (room : s.port.rx.length < Config.rxCapacity) :
      Move s (onPort (fun t => { t with rx := t.rx ++ [f] }) s)
  /-- SET_MODE, with the door closed (R197). -/
  | mode (m : Mode) (s : State) (closed : s.port.mode ≠ .serviceOpen) (target : m ≠ .serviceOpen) : Move s (setMode m s)
  /-- The port takes the door line's change (R196). -/
  | door (isOpen : Bool) (s : State) : Move s (setDoor isOpen (setDoorLine isOpen s))
  /-- The door line changes without main power, or shows the state that the port has taken (R196). -/
  | doorLine (isOpen : Bool) (s : State) (known : s.power = true → s.port.doorOpen = isOpen) : Move s (setDoorLine isOpen s)
  | powerLoss (s : State) : Move s { s with power := false }
  /-- The unretained state at a start (R159, R161). -/
  | clear (s : State) : Move s (clearUnretained s)
  /-- The retained state at a cold start (R162). -/
  | wipe (cause : StartCause) (s : State) :
      Move s { s with fare := Fare.cold, cash := Cash.cold, change := ChangeStore.cold, cards := Cards.cold,
                      journal := Journal.cold cause }
  /-- A record is appended (R147). -/
  | record (pos : Option Position) (body : RecordBody) (s : State)
      (room : s.journal.records.length < Config.journalCapacity) :
      Move s (onJournal (fun j => { j with records := j.records ++ [commonPart s.fare.clock j.next pos body],
                                           next := j.next + 1 }) s)
  /-- Confirmed records are removed (R153). -/
  | confirm (n : Nat) (s : State) : Move s (onJournal (fun j => { j with records := j.records.drop n }) s)
  /-- A second of the clock timebase (R1). -/
  | tick (s : State) : Move s (onFare (fun f => { f with clock := clockTick f.clock }) s)
  /-- SET_TIME (R3). -/
  | setTime (day : BitVec 16) (minute second : Nat) (s : State) (hm : minute ≤ 1439) (hs : second ≤ 59) :
      Move s (onFare (fun f => { f with clock := { day := day.toNat, minute := minute, second := second, valid := true } }) s)
  /-- SET_TIMING (R101). -/
  | timing (x : SessTiming) (s : State) (inRange : sessTimingInRange x = true) :
      Move s (onSales (fun y => { y with timing := x }) s)
  /-- LINK_TIMING (R170). -/
  | linkTiming (x : LinkTiming) (s : State) (inRange : linkTimingInRange x = true) :
      Move s (onLink (fun l => { l with timing := x }) s)
  | deny {xs : List CardId} {s : State} (change : DenyStep s.cards.deny xs) : Move s (setDeny xs s)
  | entries {es : Vector PendingEntry 4} {s : State} (change : ∀ e, EntryStep (vget s.cards.entries e) (vget es e)) :
      Move s (onCards (fun c => { c with entries := es }) s)
  /-- A write begins under an entry, with no other entry holding its card (R83, R88, R89, R93). -/
  | write (e : Fin 4) {y : PendingEntry} {x : CardId} {s : State} (state : y.state = .writing) (card : y.card = some x)
      (alone : heldElsewhere e x s = false) : Move s (onEntry e (fun _ => y) s)
  | list (p : Position) {f : Lane → Lane} {s : State} (change : ListStep (lane p s).list (f (lane p s)).list) :
      Move s (onLane p f s)
  | passes {qs : List QueuedPass} {s : State} (change : PassStep s.link.passQueue qs) :
      Move s (onLink (fun l => { l with passQueue := qs }) s)

/-- A sequence of moves. -/
def Moves : State → State → Prop := Relation.ReflTransGen Move

theorem Moves.refl (s : State) : Moves s s := Relation.ReflTransGen.refl

theorem Moves.andThen {s t u : State} (h : Moves s t) (m : Move t u) : Moves s u := Relation.ReflTransGen.tail h m

theorem Moves.same {s t u : State} (h : Moves s t) (e : watched u = watched t) : Moves s u := h.andThen (.unwatched e)

/-- What every move keeps, a sequence of moves keeps. -/
theorem Moves.keeps {I : State → Prop} (step : ∀ {s t : State}, Move s t → I s → I t) {s t : State} (h : Moves s t)
    (hs : I s) : I t := by
  induction h with
  | refl => exact hs
  | tail _ m ih => exact step m ih

theorem moves_ite {c : Prop} [Decidable c] {s t u : State} (ht : Moves s t) (hu : Moves s u) :
    Moves s (if c then t else u) := by
  split
  · exact ht
  · exact hu

/-- Moves inside a fold over a list. -/
theorem foldl_moves {α : Type} {s : State} {f : State → α → State} (hf : ∀ {t x}, Moves s t → Moves s (f t x)) :
    ∀ {xs : List α} {t : State}, Moves s t → Moves s (xs.foldl f t) := by
  intro xs
  induction xs with
  | nil => exact fun h => h
  | cons x xs ih => exact fun h => ih (hf h)

section Ops
variable {s t : State} {p : Position} {a : Addr}

/-! ### Updates of one block -/

theorem onFare_moves {f : Fare → Fare} (h : Moves s t) (hc : ∀ x, (f x).clock = x.clock) :
    Moves s (onFare f t) := h.same (by simp only [watched, onFare, hc])

theorem onCash_moves {f : Cash → Cash} (h : Moves s t) : Moves s (onCash f t) := h.same rfl

theorem onLane_moves {f : Lane → Lane} (h : Moves s t) (hl : ∀ l, (f l).list = l.list) :
    Moves s (onLane p f t) := h.andThen (.list p (.inl (by rw [hl])))

theorem onChange_moves {f : ChangeStore → ChangeStore} (h : Moves s t) : Moves s (onChange f t) := h.same rfl

theorem onSess_moves {f : Session → Session} (h : Moves s t) : Moves s (onSess p f t) := h.same rfl

theorem onPrint_moves {f : PrintUnit → PrintUnit} (h : Moves s t) : Moves s (onPrint f t) := h.same rfl

theorem onJournal_moves {f : Journal → Journal} (h : Moves s t)
    (hf : ∀ j, (f j).records.map (·.seq) = j.records.map (·.seq) ∧ (f j).next = j.next) : Moves s (onJournal f t) :=
  h.same (by simp only [watched, onJournal, hf])

theorem onLink_moves {f : Link → Link} (h : Moves s t)
    (hf : ∀ l, (f l).timing = l.timing ∧ (f l).passQueue = l.passQueue) : Moves s (onLink f t) :=
  h.same (by simp only [watched, onLink, hf])

theorem onPeriph_moves {f : Peripheral → Peripheral} (h : Moves s t) : Moves s (onPeriph a f t) := h.same rfl

theorem onTube_moves {i : Fin 6} {f : Tube → Tube} (h : Moves s t) : Moves s (onTube i f t) := h.same rfl

theorem onBox_moves {f : Box → Box} (h : Moves s t) : Moves s (onBox f t) := h.same rfl

theorem onResv_moves {f : Reserve → Reserve} (h : Moves s t) : Moves s (onResv p f t) := h.same rfl

theorem setRead_moves {r : ReadPhase} (h : Moves s t) : Moves s (setRead p r t) := h.same rfl

theorem setSlot_moves {i : Fin 8} {x : Slot} (h : Moves s t) : Moves s (setSlot i x t) := h.same rfl

theorem onCounters_moves {f : LinkCounters → LinkCounters} (h : Moves s t) : Moves s (onCounters a f t) := h.same rfl

/-- The entry e changes as an entry may. -/
theorem onEntry_moves {e : Fin 4} {f : PendingEntry → PendingEntry} (h : Moves s t)
    (hf : EntryStep (entry e t) (f (entry e t))) : Moves s (onEntry e f t) := by
  refine h.andThen (.entries (es := vmodify t.cards.entries e f) fun d => ?_)
  by_cases hd : d = e
  · subst hd
    simpa [vmodify, entry] using hf
  · simpa [vmodify, vget_vset_ne _ hd] using .inr ⟨rfl, .inl rfl⟩

/-! ### The shared operations -/

theorem enqueue_moves {x : Answer} (h : Moves s t) : Moves s (enqueue x t) := h.andThen (.answer x t)

theorem kick_moves (h : Moves s t) : Moves s (kick t) := by
  unfold kick
  split
  · exact h.andThen (.serve t)
  · exact h
  · exact h

theorem finish_moves (h : Moves s t) : Moves s (finish t) := (kick_moves h).same rfl

theorem notify_moves {c : Nat} {b : NoticeBody} (h : Moves s t) : Moves s (notify c b t) := h.andThen (.notice c b t)

theorem raiseFault_moves {f : Flag} (h : Moves s t) : Moves s (raiseFault a f t) := by
  unfold raiseFault
  split
  · exact h
  · exact notify_moves (onPeriph_moves h)

theorem raiseOverrun_moves (h : Moves s t) : Moves s (raiseOverrun t) := by
  unfold raiseOverrun
  split
  · exact h
  · exact notify_moves (onLink_moves h fun _ => ⟨rfl, rfl⟩)

theorem append_moves {pos : Option Position} {b : RecordBody} (h : Moves s t) : Moves s (append pos b t) := by
  unfold append
  split
  · rename_i room
    have hr := h.andThen (.record pos b t room)
    dsimp only
    split
    · exact notify_moves hr
    · exact hr
  · exact raiseOverrun_moves (onJournal_moves h fun _ => ⟨rfl, rfl⟩)

theorem note_moves {isSlip : Bool} {q : Option (BitVec 32)} (h : Moves s t) : Moves s (note isSlip q t) := by
  unfold note
  split
  · exact onPrint_moves h
  · split
    · refine onJournal_moves h fun j => ⟨?_, rfl⟩
      simp only [List.map_map]
      refine List.map_congr_left fun r _ => ?_
      simp only [Function.comp_apply]
      split
      · split <;> rfl
      · rfl
    · exact onPrint_moves h

theorem addCoinTotals_moves {c : Fin 8} {v : Nat} (h : Moves s t) : Moves s (addCoinTotals c v t) :=
  onJournal_moves h fun _ => ⟨rfl, rfl⟩

theorem sortEvent_moves {c : Byte} {d : EventData} {r : PartResult} (h : Moves s t) : Moves s (sortEvent a c d r t) := by
  unfold sortEvent
  split
  · exact notify_moves h
  · exact notify_moves h
  · exact h

theorem pushCard_moves {c : CardCmd} (h : Moves s t) : Moves s (pushCard p c t) := onLink_moves h fun _ => ⟨rfl, rfl⟩

theorem dropReadCmds_moves (h : Moves s t) : Moves s (dropReadCmds p t) := onLink_moves h fun _ => ⟨rfl, rfl⟩

/-! ### The fare engine -/

theorem swap_moves {x : ActTime} {late : Bool} (h : Moves s t) : Moves s (swap x late t) :=
  notify_moves (append_moves (onFare_moves h fun _ => rfl))

theorem activationWatch_moves (h : Moves s t) : Moves s (activationWatch t) := by
  unfold activationWatch
  split
  · exact h
  · split
    · exact swap_moves h
    · exact h

end Ops

section ChangeStore
variable {s t : State} {p : Position}

/-! ### The change store -/

theorem countBox_moves {c : Fin 8} {v : Nat} (h : Moves s t) : Moves s (countBox c v t) := by
  unfold countBox
  dsimp only
  split
  · exact raiseFault_moves (onBox_moves h)
  · exact onBox_moves h

theorem countCoin_moves {c : Fin 8} {v : Nat} {d : Dest} (h : Moves s t) : Moves s (countCoin c v d t) := by
  unfold countCoin
  split
  · exact countBox_moves h
  · split
    · exact onTube_moves h
    · exact countBox_moves h

theorem fixChange_moves {c : Nat} (h : Moves s t) : Moves s (fixChange p c t) := by
  unfold fixChange
  split
  · exact onResv_moves h
  · split
    · exact onResv_moves h
    · exact onResv_moves h

theorem planForNext_moves (h : Moves s t) : Moves s (planForNext p t) := by
  unfold planForNext
  split
  · exact h
  · split
    · exact h
    · exact onResv_moves h

theorem handDispense_moves (h : Moves s t) : Moves s (handDispense t) := by
  unfold handDispense
  dsimp only
  split
  · exact h
  · split
    · split
      · exact onChange_moves (onResv_moves h)
      · exact onChange_moves (onResv_moves h)
    · exact onChange_moves (onResv_moves h)
    · exact onChange_moves (onResv_moves h)
    · exact h

theorem closePayout_moves (h : Moves s t) : Moves s (closePayout p t) := onResv_moves h

theorem advancePayout_moves (p : Position) (h : Moves s t) : Moves s (advancePayout p t).1 := by
  unfold advancePayout
  split
  · exact closePayout_moves h
  · split
    · exact closePayout_moves h
    · dsimp only
      split
      · exact closePayout_moves (planForNext_moves h)
      · exact handDispense_moves (onResv_moves (planForNext_moves h))

theorem payCoins_moves {i : Fin 6} {k : Nat} (h : Moves s t) : Moves s (payCoins p i k t) := by
  have paid : Moves s (onChange (fun c => { c with dispense := none, misses := 0 })
      (onResv p (fun r => { r with
          reserved := vmodify r.reserved i (· - k), plan := payEntry i k r.plan, amount := r.amount - k * denomOf t i })
        (onTube i (fun x => { x with count := x.count - k, paidOut := add32 x.paidOut k }) t))) :=
    onChange_moves (onResv_moves (onTube_moves h))
  unfold payCoins
  dsimp only
  split
  · exact paid
  · exact onSess_moves paid

theorem jam_moves {i : Fin 6} {k : Nat} (h : Moves s t) : Moves s (jam p i k t) :=
  onResv_moves (raiseFault_moves (onTube_moves (payCoins_moves h)))

theorem writeOff_moves {i : Fin 6} (h : Moves s t) : Moves s (writeOff i t) := by
  unfold writeOff
  dsimp only
  split
  · exact h
  · exact onResv_moves (onResv_moves (onTube_moves h))

theorem gauge_moves {i : Fin 6} {g : BitVec 6} {parity : Bool} (h : Moves s t) : Moves s (gauge i g parity t).1 := by
  unfold gauge
  split
  · exact h
  · split
    · exact raiseFault_moves (onChange_moves h)
    · split
      · exact h
      · dsimp only
        split
        · exact onTube_moves (writeOff_moves (onTube_moves h))
        · exact onTube_moves (onTube_moves h)

theorem boxState_moves {present : Bool} (h : Moves s t) : Moves s (boxState present t).1 := by
  unfold boxState
  dsimp only
  split
  · exact h
  · split
    · exact (append_moves h).same rfl
    · exact (append_moves h).same rfl

end ChangeStore

section Coins
variable {s t : State} {p : Position}

/-! ### The coin classifier -/

theorem sendVerdict_moves {q : Byte} {v : Verdict} (h : Moves s t) : Moves s (sendVerdict p q v t) :=
  onLink_moves h fun _ => ⟨rfl, rfl⟩

theorem rejectCoin_moves {q : Byte} {r : RejectReason} (h : Moves s t) : Moves s (rejectCoin p q r t) :=
  sendVerdict_moves (onLane_moves h fun _ => rfl)

/-- A gate sequence number with no known verdict is on no entry of the list. -/
theorem knownVerdict_none {q : Byte} (h : knownVerdict p q t = none) : ∀ x ∈ (lane p t).list, x.seq ≠ q := by
  unfold knownVerdict at h
  split at h
  · cases h
  · rename_i hf
    simpa using hf

/-- A coin is accepted only while the list has room (R28). -/
theorem decideCoin_room {c : Fin 8} {d : Dest × Option (Plan × Nat)} (h : decideCoin p c t = .ok d) :
    (lane p t).list.length < Config.verdictCapacity := by
  by_contra full
  unfold decideCoin at h
  simp only [Nat.not_lt.1 full, if_true] at h
  split at h <;> cases h

theorem acceptCoin_moves {q : Byte} {c : Fin 8} {d : Dest} {plan : Option (Plan × Nat)} (h : Moves s t)
    (room : (lane p t).list.length < Config.verdictCapacity) (new : ∀ x ∈ (lane p t).list, x.seq ≠ q) :
    Moves s (acceptCoin p q c d plan t) := by
  have listed : Moves s (onLane p (fun l =>
      { l with list := l.list ++ [⟨q, c, (coinType c t).value, d, (sess p t).serial⟩], last := some (q, .accept d) }) t) :=
    h.andThen (.list p (.inr ⟨_, rfl, room, new⟩))
  unfold acceptCoin
  dsimp only
  split
  · exact sendVerdict_moves (onResv_moves listed)
  · exact sendVerdict_moves listed

theorem coinAtGate_moves {q : Byte} {r : GateReading} (h : Moves s t) : Moves s (coinAtGate p q r t).1 := by
  unfold coinAtGate
  split
  · exact sendVerdict_moves h
  · rename_i unknown
    split
    · exact rejectCoin_moves h
    · split
      · exact rejectCoin_moves h
      · rename_i accepted
        exact acceptCoin_moves h (decideCoin_room accepted) (knownVerdict_none unknown)

theorem reviewPlan_moves (h : Moves s t) : Moves s (reviewPlan p t) := by
  unfold reviewPlan
  split
  · exact h
  · split
    · exact onResv_moves h
    · split
      · exact onResv_moves h
      · exact onResv_moves h

theorem removeEntry_moves {q : Byte} (h : Moves s t) : Moves s (removeEntry p q t) :=
  h.andThen (.list p (.inl List.filter_sublist))

theorem dropEntry_moves {e : Outstanding} (h : Moves s t) : Moves s (dropEntry p e t) := by
  unfold dropEntry
  dsimp only
  split
  · exact reviewPlan_moves (removeEntry_moves h)
  · exact removeEntry_moves h

theorem countReturn_moves {r : ReturnReason} (h : Moves s t) : Moves s (countReturn p r t) :=
  onLane_moves h (fun l => by cases r <;> rfl)

theorem sendMask_moves {m : BitVec 8} (h : Moves s t) : Moves s (sendMask p m t) := by
  unfold sendMask
  split
  · exact h
  · exact onLink_moves h fun _ => ⟨rfl, rfl⟩

theorem changeMask_moves {m : BitVec 8} (h : Moves s t) : Moves s (changeMask p m t) := by
  unfold changeMask
  split
  · split
    · exact onLink_moves (sendMask_moves h) fun _ => ⟨rfl, rfl⟩
    · exact sendMask_moves h
  · split
    · exact onLink_moves h fun _ => ⟨rfl, rfl⟩
    · exact sendMask_moves h

theorem recompute_moves {rise : Option Rise} (h : Moves s t) : Moves s (recompute p rise t) := by
  have sent : Moves s (changeMask p (effectiveMask p t) (onLane p (fun l => { l with lastMask := effectiveMask p t }) t)) :=
    changeMask_moves (onLane_moves h fun _ => rfl)
  unfold recompute
  split
  · exact moves_ite (notify_moves (moves_ite sent h)) (moves_ite (notify_moves (moves_ite sent h)) (moves_ite sent h))
  · exact moves_ite (notify_moves (moves_ite sent h)) (moves_ite sent h)

theorem masks_moves {rise : Option Rise} (h : Moves s t) : Moves s (masks rise t) := recompute_moves (recompute_moves h)

theorem resendMasks_moves (h : Moves s t) : Moves s (resendMasks t) := sendMask_moves (sendMask_moves (masks_moves h))

end Coins
end Sys2Proof.Machine

namespace Sys2Proof.Machine

section Cards
variable {s t : State} {p : Position}

/-! ### The card transaction unit -/

theorem freeUp_moves {e : Fin 4} (h : Moves s t) : Moves s (freeUp e t) := onEntry_moves h (.inl rfl)

theorem settleEntry_moves {e : Fin 4} (h : Moves s t) : Moves s (settleEntry e t) := by
  unfold settleEntry
  split
  · exact onEntry_moves h (.inl rfl)
  · exact freeUp_moves h

theorem tearEntry_moves {e : Fin 4} (h : Moves s t) : Moves s (tearEntry e t) :=
  onEntry_moves h (.inr ⟨rfl, .inr (.inl rfl)⟩)

theorem disown_step (o : Position × Nat) (x : PendingEntry) : EntryStep x (disown o x) := by
  unfold disown
  split
  · split
    · exact .inl rfl
    · exact .inr ⟨rfl, .inl rfl⟩
  · exact .inr ⟨rfl, .inl rfl⟩

theorem disownAll_moves {o : Position × Nat} (h : Moves s t) : Moves s (disownAll o t) :=
  h.andThen (.entries (es := vmap (disown o) t.cards.entries) fun e => by rw [vget_vmap]; exact disown_step o _)

theorem startWrite_moves {e : Fin 4} {y : WritePurpose} {o : Option (Position × Nat)} {d : Delta} {n : Nat} {x : CardImage}
    (h : Moves s t) (alone : heldElsewhere e x.id t = false) : Moves s (startWrite p e y o d n x t) :=
  pushCard_moves (h.andThen (.write e rfl rfl alone))

theorem startCompletion_moves {e : Fin 4} {x : CardImage} (h : Moves s t) : Moves s (startCompletion p e x t) :=
  setRead_moves (pushCard_moves (onEntry_moves h (.inr ⟨rfl, .inr (.inr rfl)⟩)))

theorem wakeReads_moves {x : CardId} (h : Moves s t) : Moves s (wakeReads x t) := by
  have wake {u : State} (q : Position) (hu : Moves s u) :
      Moves s (if readOf q u = .awaiting x then pushCard q (.read (sess q u).serial x) (setRead q (.reading x) u) else u) := by
    split
    · exact pushCard_moves (setRead_moves hu)
    · exact hu
  exact wake .B (wake .A h)

theorem beginRead_moves {n : Nat} (h : Moves s t) : Moves s (beginRead p n t) :=
  pushCard_moves (setRead_moves (onPeriph_moves h))

theorem endRead_moves (h : Moves s t) : Moves s (endRead p t) := setRead_moves (dropReadCmds_moves h)

theorem standIn_moves (h : Moves s t) : Moves s (standIn p t) := by
  obtain e | ⟨age, c, -, -, ⟨-, e⟩ | ⟨-, -, e⟩⟩ := standIn_cases p t
  · rw [e]; exact h
  · rw [e]; exact onPeriph_moves h
  · rw [e]; exact onLink_moves (onPeriph_moves h) fun _ => ⟨rfl, rfl⟩

end Cards

section Print
variable {s t : State} {j : Job}

/-! ### The print unit -/

theorem noteJob_moves (h : Moves s t) : Moves s (noteJob j t) := by
  unfold noteJob
  split
  · exact note_moves h
  · exact note_moves h
  · exact h
  · exact h

theorem printDone_moves {o : JobOutcome} (h : Moves s t) : Moves s (printDone j o t) := by
  unfold printDone
  dsimp only
  split
  · exact h
  · exact notify_moves h
  · exact notify_moves h

theorem jobFailed_moves (h : Moves s t) : Moves s (jobFailed j t) := printDone_moves (noteJob_moves (onPrint_moves h))

theorem tryBegin_moves (h : Moves s t) : Moves s (tryBegin t) := by
  unfold tryBegin
  split
  · exact h
  · split
    · exact onPrint_moves h
    · split
      · exact h
      · exact onPrint_moves (setSlot_moves h)

theorem failActive_moves {always : Bool} (h : Moves s t) : Moves s (failActive always t).1 := by
  unfold failActive
  split
  · exact h
  · dsimp only
    split
    · exact jobFailed_moves (onPrint_moves (setSlot_moves h))
    · exact jobFailed_moves (setSlot_moves h)

theorem failStub_moves (h : Moves s t) : Moves s (failStub t) := onPrint_moves h

theorem failWaitingList_moves (xs : List (Fin 8 × Job)) (h : Moves s t) : Moves s (failWaitingList xs t).1 := by
  induction xs generalizing t with
  | nil => exact h
  | cons x xs ih => exact ih (jobFailed_moves (setSlot_moves h))

theorem failWaiting_moves (h : Moves s t) : Moves s (failWaiting t).1 := failWaitingList_moves _ h

theorem failAll_moves (h : Moves s t) : Moves s (failAll t).1 := failWaiting_moves (failStub_moves (failActive_moves h))

theorem paperOut_moves (keepActive keepStub : Bool) (h : Moves s t) :
    let a := if keepActive then (t, []) else failActive false t
    Moves s (failWaiting (if keepStub then a.1 else failStub a.1)).1 := by
  have kept : Moves s (if keepActive then (t, []) else failActive false t).1 := by
    split
    · exact h
    · exact failActive_moves h
  exact failWaiting_moves (moves_ite kept (failStub_moves kept))

theorem takeStatus_moves {st : PrinterStatus} (h : Moves s t) : Moves s (takeStatus st t).1 := by
  have raised : Moves s (match statusFault st with
      | some f => raiseFault .printer f (onPrint (fun u => { u with last := some st, stale := false }) t)
      | none => onPrint (fun u => { u with last := some st, stale := false }) t) := by
    split
    · exact raiseFault_moves (onPrint_moves h)
    · exact onPrint_moves h
  have noted := moves_ite (c := t.print.last.isSome ∧ t.print.last ≠ some st)
    (sortEvent_moves (a := .printer) (c := 2) (d := .status st) (r := .status st) raised) raised
  cases st with
  | ready => exact tryBegin_moves noted
  | paperLow => exact tryBegin_moves noted
  | jammed => exact failAll_moves noted
  | paperOut => exact paperOut_moves _ _ noted

theorem onProgress_moves {f : Progress → Progress} (h : Moves s t) : Moves s (onProgress f t) := by
  unfold onProgress
  split
  · exact setSlot_moves h
  · exact onPrint_moves h

theorem lineTaken_moves {n : Nat} (h : Moves s t) : Moves s (lineTaken n t) := by
  unfold lineTaken
  split
  · split
    · exact onProgress_moves h
    · exact h
  · exact h

theorem cutTaken_moves {n : Nat} (h : Moves s t) : Moves s (cutTaken n t) := by
  unfold cutTaken
  split
  · split
    · exact onProgress_moves h
    · exact h
  · exact h

theorem printAgain_moves {n age : Nat} (h : Moves s t) : Moves s (printAgain n age t) := by
  unfold printAgain
  split
  · split
    · exact onProgress_moves h
    · exact h
  · exact h

theorem cutDone_moves {r : State × TicketEnds} (h : Moves s t) (hr : cutDone t = some r) : Moves s r.1 := by
  unfold cutDone at hr
  split at hr
  · split at hr
    · cases hr
      exact printDone_moves (onPrint_moves (setSlot_moves h))
    · cases hr
  · split at hr
    · split at hr
      · cases hr
        exact h.same rfl
      · cases hr
    · cases hr

theorem cutLimitOut_moves (h : Moves s t) : Moves s (cutLimitOut t).1 := by
  unfold cutLimitOut
  dsimp only
  split
  · exact failActive_moves (raiseFault_moves h)
  · exact failStub_moves (raiseFault_moves h)

theorem bumpQueue_moves (h : Moves s t) : Moves s (bumpQueue t) := onPrint_moves h

theorem queueTicket_moves {p : Position} {i : Fin 8} {x : SaleFields} (h : Moves s t) :
    Moves s (queueTicket p i x t).1 := by
  unfold queueTicket
  dsimp only
  split
  · exact jobFailed_moves (setSlot_moves (bumpQueue_moves h))
  · exact tryBegin_moves (setSlot_moves (bumpQueue_moves h))

theorem giveJob_moves {k : JobKind} {p : Position} {x : SaleFields} {q : Option (BitVec 32)} {pending : Bool}
    (h : Moves s t) : Moves s (giveJob k p x q pending t) := by
  unfold giveJob
  dsimp only
  split
  · exact printDone_moves (noteJob_moves (onPrint_moves (bumpQueue_moves h)))
  · split
    · exact jobFailed_moves (bumpQueue_moves h)
    · exact tryBegin_moves (setSlot_moves (bumpQueue_moves h))

theorem queueText_moves {tag : Byte} {lines : List Text} (h : Moves s t) : Moves s (queueText tag lines t) := by
  unfold queueText
  dsimp only
  split
  · exact bumpQueue_moves h
  · exact tryBegin_moves (setSlot_moves (bumpQueue_moves h))

theorem resumePrint_moves {wasPrinter : Bool} (h : Moves s t) : Moves s (resumePrint wasPrinter t).1 := by
  unfold resumePrint
  split
  · exact (failActive_moves (failStub_moves h)).same rfl
  · exact tryBegin_moves (onProgress_moves h)

end Print

section Session
variable {s t : State} {p : Position}

/-! ### The session controllers: closing and payouts -/

theorem enter_moves {st : SessState} {r : ChangeReason} (h : Moves s t) : Moves s (enter p st r t) :=
  notify_moves (onSess_moves h)

theorem addTotals_moves {r : TotalRise} (h : Moves s t) : Moves s (addTotals r t) := onJournal_moves h fun _ => ⟨rfl, rfl⟩

theorem release_moves {r : EndReason} (h : Moves s t) : Moves s (release p r t) :=
  notify_moves (onSess_moves (disownAll_moves (onPrint_moves (onResv_moves (endRead_moves h)))))

theorem closeJobs_moves {refund : Bool} {r : EndReason} {q : Option (BitVec 32)} {x : Session} (h : Moves s t) :
    Moves s (closeJobs p refund r q x t) := by
  unfold closeJobs
  exact moves_ite (giveJob_moves (moves_ite (giveJob_moves h) h)) (moves_ite (giveJob_moves h) h)

theorem closeSession_moves (h : Moves s t) : Moves s (closeSession p t) := by
  unfold closeSession
  dsimp only
  split
  · exact release_moves h
  · exact release_moves (closeJobs_moves (append_moves (addTotals_moves h)))

theorem wantEnd_moves (h : Moves s t) : Moves s (wantEnd p t) := by
  unfold wantEnd
  split
  · exact closeSession_moves h
  · exact onSess_moves h

theorem setEnd_moves {r : EndReason} (h : Moves s t) : Moves s (setEnd p r t) := onSess_moves h

theorem addOwed_moves {n : Nat} (h : Moves s t) : Moves s (addOwed p n t) := onSess_moves h

theorem planFurther_moves (h : Moves s t) : Moves s (planFurther p t) := onResv_moves (onResv_moves (onSess_moves h))

theorem payFurther_moves (h : Moves s t) : Moves s (payFurther p t) := by
  have paid := advancePayout_moves p (planFurther_moves (p := p) h)
  unfold payFurther
  split <;> rename_i e <;> rw [e] at paid
  · exact paid
  · exact wantEnd_moves (handDispense_moves (addOwed_moves paid))

theorem payoutEnded_moves {n : Nat} (h : Moves s t) : Moves s (payoutEnded p n t) := by
  unfold payoutEnded
  dsimp only
  split
  · exact payFurther_moves (addOwed_moves h)
  · exact wantEnd_moves (addOwed_moves h)

theorem continuePayout_moves (h : Moves s t) : Moves s (continuePayout p t) := by
  have paid := advancePayout_moves p h
  unfold continuePayout
  split <;> rename_i e <;> rw [e] at paid
  · exact paid
  · exact payoutEnded_moves (handDispense_moves paid)

theorem enterPayingOut_moves (h : Moves s t) : Moves s (enterPayingOut p t) :=
  continuePayout_moves (onResv_moves (onSess_moves (enter_moves h)))

theorem payRefund_moves (h : Moves s t) : Moves s (payRefund p t) := by
  unfold payRefund
  dsimp only
  split
  · exact closeSession_moves h
  · exact continuePayout_moves (onResv_moves (onResv_moves (onSess_moves h)))

theorem payHeld_moves (h : Moves s t) : Moves s (payHeld p t) := by
  unfold payHeld
  split
  · refine payFurther_moves ?_
    split
    · exact enter_moves h
    · exact h
  · exact closeSession_moves h

theorem listMoved_moves (h : Moves s t) : Moves s (listMoved p t) := by
  unfold listMoved
  split
  · exact h
  · split
    · exact payRefund_moves h
    · exact payHeld_moves h
    · exact h

theorem enterRefund_moves {r : EndReason} (h : Moves s t) : Moves s (enterRefund p r t) := by
  unfold enterRefund
  refine listMoved_moves (enter_moves (onSess_moves ?_))
  split
  · exact onResv_moves h
  · exact h

/-! ### The session controllers: issuing -/

theorem issueSucceeded_moves (h : Moves s t) : Moves s (issueSucceeded p t) := by
  unfold issueSucceeded
  dsimp only
  split
  · exact enterPayingOut_moves (setEnd_moves (onSess_moves h))
  · exact wantEnd_moves (setEnd_moves (onSess_moves h))

theorem notCredited_moves (h : Moves s t) : Moves s (notCredited p t) := wantEnd_moves (onSess_moves h)

theorem askCredit_moves (h : Moves s t) : Moves s (askCredit p t) := by
  unfold askCredit
  split
  · exact notCredited_moves h
  · exact pushCard_moves (onSess_moves h)

theorem ticketFailed_moves (h : Moves s t) : Moves s (ticketFailed p t) := by
  unfold ticketFailed
  dsimp only
  split
  · exact wantEnd_moves (setEnd_moves (onSess_moves h))
  · split
    · exact enterRefund_moves (onSess_moves h)
    · exact askCredit_moves (setEnd_moves (onSess_moves h))

theorem ticketEnded_moves {o : Position × Bool} (h : Moves s t) : Moves s (ticketEnded t o) := by
  unfold ticketEnded
  split
  · exact h
  · split
    · exact issueSucceeded_moves (onSess_moves h)
    · exact ticketFailed_moves h

theorem handTickets_moves {r : State × TicketEnds} (h : Moves s r.1) : Moves s (handTickets r) :=
  foldl_moves ticketEnded_moves h

theorem ticketStep_moves (h : Moves s t) : Moves s (ticketStep p t) := by
  unfold ticketStep
  dsimp only
  split
  · exact issueSucceeded_moves h
  · split
    · exact handTickets_moves (queueTicket_moves (onSess_moves h))
    · exact ticketFailed_moves (onSess_moves h)

theorem handedDone_moves {x : CardImage} {n : Nat} (h : Moves s t) : Moves s (handedDone p x n t) :=
  ticketStep_moves (onSess_moves h)

theorem handedNotDone_moves {r : WriteFault} (h : Moves s t) : Moves s (handedNotDone p r t) := by
  unfold handedNotDone
  dsimp only
  split
  · exact enterRefund_moves (onSess_moves h)
  · exact wantEnd_moves (setEnd_moves (onSess_moves h))

theorem endUnwritten_moves {r : EndReason} (h : Moves s t) : Moves s (endUnwritten p r t) := by
  unfold endUnwritten
  dsimp only
  split
  · exact enterPayingOut_moves (setEnd_moves (onSess_moves h))
  · exact wantEnd_moves (setEnd_moves (onSess_moves h))

theorem handedForeign_moves (h : Moves s t) : Moves s (handedForeign p t) := endUnwritten_moves (onSess_moves h)

theorem handedTorn_moves (h : Moves s t) : Moves s (handedTorn p t) := onSess_moves h

theorem askWrite_moves (h : Moves s t) : Moves s (askWrite p t) := by
  unfold askWrite
  dsimp only
  split
  · split
    · exact handedNotDone_moves h
    · split
      · exact handedNotDone_moves h
      · rename_i alone _
        exact startWrite_moves (onSess_moves h) (Bool.eq_false_iff.2 alone)
  · exact handedNotDone_moves h

theorem enterIssuing_moves {r : ChangeReason} (h : Moves s t) : Moves s (enterIssuing p r t) := by
  unfold enterIssuing
  dsimp only
  split
  · exact askWrite_moves (enter_moves (onSess_moves h))
  · exact ticketStep_moves (enter_moves (onSess_moves h))

theorem cancelCollecting_moves {r : EndReason} (h : Moves s t) : Moves s (cancelCollecting p r t) := by
  unfold cancelCollecting
  split
  · exact release_moves h
  · exact enterRefund_moves h

/-! ### The session controllers: reads and writes -/

theorem endReading_moves {x : Result} {r : EndReason} (h : Moves s t) : Moves s (endReading p x r t) :=
  release_moves (enqueue_moves h)

theorem acceptQuote_moves {r : QuoteResult} (h : Moves s t) : Moves s (acceptQuote p r t) :=
  enter_moves (onSess_moves (enqueue_moves h))

theorem blockCard_moves {x : CardImage} (h : Moves s t) : Moves s (blockCard p x t) := by
  unfold blockCard
  split
  · split
    · rename_i able
      exact append_moves (startWrite_moves h able.2)
    · exact append_moves h
  · exact append_moves h

theorem completeRead_moves {x : CardImage} (h : Moves s t) : Moves s (completeRead p x t) := by
  unfold completeRead
  split
  · exact h
  · dsimp only
    split
    · exact endReading_moves (onSess_moves (setRead_moves h))
    · split
      · exact endReading_moves (blockCard_moves (onSess_moves (setRead_moves h)))
      · split
        · exact endReading_moves (onSess_moves (setRead_moves h))
        · exact acceptQuote_moves (onSess_moves (setRead_moves h))

theorem recordResolved_moves {e : Fin 4} {o : Resolved} {x : CardImage} {n : Nat} (h : Moves s t) :
    Moves s (recordResolved p e o x n t) := append_moves h

theorem settleTorn_moves {e : Fin 4} {landed : Bool} {x : CardImage} (h : Moves s t) :
    Moves s (settleTorn p e landed x t) := by
  unfold settleTorn
  refine completeRead_moves ?_
  split
  · split
    · exact handedDone_moves (settleEntry_moves (recordResolved_moves h))
    · exact handedForeign_moves (settleEntry_moves (recordResolved_moves h))
  · exact settleEntry_moves (recordResolved_moves h)

theorem takeImage_moves {x : CardImage} (h : Moves s t) : Moves s (takeImage p x t) := by
  unfold takeImage
  split
  · exact completeRead_moves h
  · split
    · split
      · exact settleTorn_moves h
      · split
        · exact startCompletion_moves h
        · exact settleTorn_moves h
    · exact setRead_moves h

theorem saleWritten_moves {w : CardWrite} {r : WriteResult} (h : Moves s t) : Moves s (saleWritten w r t) := by
  unfold saleWritten
  split
  · exact handedDone_moves (settleEntry_moves h)
  · exact handedNotDone_moves (settleEntry_moves h)
  · exact handedTorn_moves (tearEntry_moves h)
  · exact tearEntry_moves h
  · exact settleEntry_moves h
  · exact settleEntry_moves h

theorem blockWritten_moves {w : CardWrite} {r : WriteResult} (h : Moves s t) : Moves s (blockWritten w r t) := by
  unfold blockWritten
  split
  · exact freeUp_moves h
  · exact freeUp_moves h
  · exact tearEntry_moves h

theorem creditWritten_moves {w : CardWrite} {r : WriteResult} (h : Moves s t) : Moves s (creditWritten w r t) := by
  unfold creditWritten
  split
  · exact wantEnd_moves (onSess_moves (settleEntry_moves h))
  · exact notCredited_moves (settleEntry_moves h)
  · exact notCredited_moves (onSess_moves (onEntry_moves h (.inr ⟨rfl, .inr (.inl rfl)⟩)))
  · exact tearEntry_moves h
  · exact settleEntry_moves h
  · exact settleEntry_moves h

theorem completionWritten_moves {w : CardWrite} {r : WriteResult} (h : Moves s t) :
    Moves s (completionWritten p w r t) := by
  have torn : Moves s (if decide (readOf p t = .resolving w.entry) = true
      then setRead p .detecting (tearEntry w.entry t) else tearEntry w.entry t) := by
    split
    · exact setRead_moves (tearEntry_moves h)
    · exact tearEntry_moves h
  have done : Moves s (match ownerOf w.entry t with
      | some q => handedDone q w.image w.excess
          (settleEntry w.entry (recordResolved p w.entry .completed w.image w.excess t))
      | none => settleEntry w.entry (recordResolved p w.entry .completed w.image w.excess t)) := by
    split
    · exact handedDone_moves (settleEntry_moves (recordResolved_moves h))
    · exact settleEntry_moves (recordResolved_moves h)
  cases r with
  | ok =>
    unfold completionWritten
    dsimp only
    split
    · exact completeRead_moves done
    · exact done
  | failed => exact torn
  | torn => exact torn

theorem writeEnded_moves {w : CardWrite} {r : WriteResult} (h : Moves s t) : Moves s (writeEnded p w r t) := by
  unfold writeEnded
  refine wakeReads_moves ?_
  split
  · exact saleWritten_moves h
  · exact blockWritten_moves h
  · exact creditWritten_moves h
  · exact completionWritten_moves h

theorem creditDetected_moves {x : Option CardId} (h : Moves s t) : Moves s (creditDetected p x t) := by
  unfold creditDetected
  dsimp only
  split
  · exact h
  · split
    · split
      · exact notCredited_moves h
      · rename_i able
        simp only [not_or] at able
        exact startWrite_moves (onSess_moves h) (Bool.eq_false_iff.2 able.2.1)
    · exact notCredited_moves h

/-! ### The session controllers: coins and payout reports -/

theorem creditCoin_moves {v : Nat} (h : Moves s t) : Moves s (creditCoin p v t) := by
  unfold creditCoin
  dsimp only
  split
  · exact onSess_moves h
  · exact enterIssuing_moves (fixChange_moves (onSess_moves (onSess_moves h)))

theorem creditLate_moves {v : Nat} (h : Moves s t) : Moves s (creditLate p v t) := listMoved_moves (onSess_moves h)

theorem coinRouted_moves {q : Byte} {c : Fin 8} {d : Dest} (h : Moves s t) : Moves s (coinRouted p q c d t).1 := by
  unfold coinRouted
  split
  · exact append_moves (addCoinTotals_moves (countCoin_moves h))
  · rename_i e _
    have counted := countCoin_moves (c := e.ctype) (v := e.value) (d := e.dest) (removeEntry_moves (p := p) (q := q) h)
    simp only [apply_ite Prod.fst]
    have covered : Moves s (match e.dest with
        | .tube i =>
          if current p e t && tubeTakes i e.ctype (removeEntry p q t) then
            (if decide ((sess p t).state = .collecting)
              then coverCoin p i (countCoin e.ctype e.value e.dest (removeEntry p q t))
              else coverLate p i (countCoin e.ctype e.value e.dest (removeEntry p q t)))
          else countCoin e.ctype e.value e.dest (removeEntry p q t)
        | .box => countCoin e.ctype e.value e.dest (removeEntry p q t)) := by
      split
      · exact moves_ite (moves_ite (onResv_moves counted) (onResv_moves counted)) counted
      · exact counted
    exact moves_ite
      (moves_ite (creditCoin_moves (addCoinTotals_moves covered)) (creditLate_moves (addCoinTotals_moves covered)))
      (append_moves (addCoinTotals_moves covered))

theorem coinReturned_moves {q : Byte} {r : ReturnReason} (h : Moves s t) : Moves s (coinReturned p q r t).1 := by
  unfold coinReturned
  dsimp only
  split
  · exact countReturn_moves h
  · exact listMoved_moves (dropEntry_moves (countReturn_moves h))

theorem payoutOn_moves (h : Moves s t) : Moves s (payoutOn p t) := handDispense_moves (continuePayout_moves h)

theorem payoutDone_moves {i : Fin 6} {n : Nat} (h : Moves s t) : Moves s (payoutDone i n t).1 := by
  unfold payoutDone
  split
  · exact raiseFault_moves h
  · split
    · exact payoutOn_moves (jam_moves h)
    · refine payoutOn_moves ?_
      split
      · exact raiseFault_moves (payCoins_moves h)
      · exact payCoins_moves h

theorem payoutJam_moves {i : Fin 6} {k : Nat} (h : Moves s t) : Moves s (payoutJam i k t).1 := by
  unfold payoutJam
  split
  · exact raiseFault_moves h
  · split
    · exact raiseFault_moves h
    · exact payoutOn_moves (jam_moves h)

theorem dispenseJam_moves {d : Dispense} (h : Moves s t) : Moves s (dispenseJam d t) := payoutOn_moves (jam_moves h)

theorem cutOne_moves (h : Moves s t) : Moves s (cutOne p t) := by
  unfold cutOne
  split
  · exact payoutEnded_moves (closePayout_moves h)
  · exact h

theorem cutPayouts_moves (h : Moves s t) : Moves s (cutPayouts t) := cutOne_moves (cutOne_moves (onChange_moves h))

end Session
end Sys2Proof.Machine

namespace Sys2Proof.Machine

section Link
variable {s t : State} {p : Position} {a : Addr}

/-! ### The device link: sending and the ends of exchanges -/

theorem dropPass_moves {g : List QueuedPass → List QueuedPass} (h : Moves s t) (hg : ∀ qs, (g qs).Sublist qs) :
    Moves s (onLink (fun l => { l with passQueue := g l.passQueue }) t) :=
  h.andThen (.passes (qs := g t.link.passQueue) (.inl (hg _)))

theorem unready_moves {r : ReadyFrame} (h : Moves s t) : Moves s (unready r t) := by
  unfold unready
  split
  · exact onPeriph_moves h
  · exact onPeriph_moves h
  · exact onLink_moves h fun _ => ⟨rfl, rfl⟩
  · exact onLink_moves h fun _ => ⟨rfl, rfl⟩
  · exact onChange_moves h
  · exact onLink_moves h fun _ => ⟨rfl, rfl⟩
  · exact onProgress_moves h
  · exact onProgress_moves h
  · exact dropPass_moves h fun _ => List.erase_sublist

theorem defer_moves {r : ReadyFrame} (h : Moves s t) : Moves s (defer r t) := by
  unfold defer
  exact onLink_moves (moves_ite (onCounters_moves h) (raiseFault_moves (onCounters_moves h))) fun _ => ⟨rfl, rfl⟩

theorem handOut_moves {busy : Bool} (h : Moves s t) : Moves s (handOut busy t) := by
  unfold handOut
  split
  · split
    · exact h
    · split
      · exact h
      · exact moves_ite (defer_moves h) (onLink_moves (unready_moves h) fun _ => ⟨rfl, rfl⟩)
  · exact h
  · exact h
  · exact h

theorem arbitrate_moves {busy : Bool} (h : Moves s t) : Moves s (arbitrate busy t) :=
  handOut_moves (standIn_moves (standIn_moves h))

theorem settle_moves {busy : Bool} (h : Moves s t) : Moves s (settle busy t) := finish_moves (arbitrate_moves h)

theorem freeLine_moves (h : Moves s t) : Moves s (freeLine t) := onLink_moves h fun _ => ⟨rfl, rfl⟩

theorem answered_moves (h : Moves s t) : Moves s (answered a t) := onPeriph_moves h

theorem countAnswered_moves {f : LinkFrame} (h : Moves s t) : Moves s (countAnswered f t) :=
  moves_ite h (answered_moves h)

theorem passReply_moves {q : QueuedPass} {r : Option DeviceReply} (h : Moves s t) : Moves s (passReply q r t) :=
  enqueue_moves h

theorem settleUnanswered_moves {r : ReadyFrame} (h : Moves s t) : Moves s (settleUnanswered r t) := by
  unfold settleUnanswered
  split
  · exact moves_ite (onChange_moves h) h
  · exact h
  · exact h
  · exact onLink_moves h fun _ => ⟨rfl, rfl⟩
  · exact h
  · exact moves_ite (creditDetected_moves h) h
  · exact h
  · exact h
  · exact printAgain_moves h
  · exact printAgain_moves h
  · exact passReply_moves h

theorem unanswered_moves {r : ReadyFrame} (h : Moves s t) : Moves s (unanswered r t) :=
  settleUnanswered_moves (moves_ite (freeLine_moves h) (onPeriph_moves (freeLine_moves h)))

theorem discardInWindow_moves {r : ReadyFrame} {misfit : Bool} (h : Moves s t) :
    Moves s (discardInWindow r misfit t) :=
  unanswered_moves (moves_ite (raiseFault_moves (onCounters_moves h)) (onCounters_moves h))

theorem receive_moves {kind : Nat} {busy : Bool} {f : ReadyFrame → State → State} (h : Moves s t)
    (hf : ∀ {r u}, Moves s u → Moves s (f r u)) : Moves s (receive a kind busy f t) := by
  unfold receive
  split
  · exact h
  · split
    · exact moves_ite (settle_moves (masks_moves (hf (countAnswered_moves (freeLine_moves h)))))
        (settle_moves (masks_moves (discardInWindow_moves h)))
    · exact settle_moves (freeLine_moves h)
    · exact h
    · exact h

theorem passAnswered_moves {q : QueuedPass} {r : DeviceReply} (h : Moves s t) : Moves s (passAnswered q r t) := by
  obtain ⟨st, -, -, -, e⟩ | e := passAnswered_cases q r t
  · rw [e]; exact handTickets_moves (takeStatus_moves (passReply_moves h))
  · rw [e]; exact passReply_moves h

theorem forwardOr_moves {reply : DeviceReply} {f : ReadyFrame → State → State} {r : ReadyFrame} (h : Moves s t)
    (hf : ∀ {r u}, Moves s u → Moves s (f r u)) : Moves s (forwardOr reply f r t) := by
  unfold forwardOr
  split
  · exact passAnswered_moves h
  · exact hf h

/-! ### The device link: a peripheral that becomes MISSING -/

theorem cardMissing_moves (h : Moves s t) : Moves s (cardMissing p t) := by
  have settled : Moves s ((t.link.cardReady.filter (fun c => decide (c.pos = p))).foldl (fun s c =>
      match c.cmd with
      | .write w => writeEnded p w (.failed .error) s
      | .detect n credit => if credit = true ∧ (sess p s).serial = n then creditDetected p none s else s
      | .read _ _ => s)
      (onLink (fun l => { l with cardReady := l.cardReady.filter (fun c => !decide (c.pos = p)) }) t)) := by
    refine foldl_moves (fun hu => ?_) (onLink_moves h fun _ => ⟨rfl, rfl⟩)
    split
    · exact writeEnded_moves hu
    · exact moves_ite (creditDetected_moves hu) hu
    · exact hu
  exact moves_ite (endReading_moves settled) settled

theorem settleMissing_moves (h : Moves s t) : Moves s (settleMissing a t) := by
  unfold settleMissing
  dsimp only
  split
  · exact onLink_moves h fun _ => ⟨rfl, rfl⟩
  · exact onLink_moves h fun _ => ⟨rfl, rfl⟩
  · exact cardMissing_moves h
  · exact cardMissing_moves h
  · exact cutPayouts_moves h
  · exact handTickets_moves (failAll_moves h)

theorem removePass_moves {cond : QueuedPass → Bool} {r : Result} (h : Moves s t) : Moves s (removePass cond r t) :=
  foldl_moves enqueue_moves (dropPass_moves h fun _ => List.filter_sublist)

theorem becomeMissing_moves (h : Moves s t) : Moves s (becomeMissing a t) :=
  removePass_moves (settleMissing_moves (raiseFault_moves (onPeriph_moves h)))

/-! ### The device link: polls and announcements -/

theorem validatorEvent_moves {e : ValidatorEvent} (h : Moves s t) : Moves s (validatorEvent p t e) := by
  unfold validatorEvent
  dsimp only
  split
  · exact masks_moves (sortEvent_moves (coinAtGate_moves h))
  · exact masks_moves (sortEvent_moves (coinRouted_moves h))
  · exact masks_moves (sortEvent_moves (coinReturned_moves h))
  · exact moves_ite (masks_moves (sortEvent_moves (cancelCollecting_moves h))) (sortEvent_moves h)
  · exact sortEvent_moves h

theorem moduleEvent_moves {e : ModuleEvent} (h : Moves s t) : Moves s (moduleEvent p t e) := by
  unfold moduleEvent
  dsimp only
  split
  · exact sortEvent_moves (raiseFault_moves h)
  · exact sortEvent_moves h

theorem changerEvent_moves {e : ChangerEvent} (h : Moves s t) : Moves s (changerEvent t e) := by
  unfold changerEvent
  dsimp only
  split
  · exact masks_moves (sortEvent_moves (payoutDone_moves h))
  · exact masks_moves (sortEvent_moves (payoutJam_moves h))
  · exact masks_moves (sortEvent_moves (gauge_moves h))
  · exact masks_moves (sortEvent_moves (boxState_moves h))
  · exact sortEvent_moves h

theorem printerEvent_moves {e : PrinterEvent} (h : Moves s t) : Moves s (printerEvent t e) := by
  unfold printerEvent
  split
  · split
    · rename_i ended
      exact masks_moves (tryBegin_moves (handTickets_moves (cutDone_moves h ended)))
    · exact sortEvent_moves (raiseFault_moves h)
  · exact sortEvent_moves h

theorem changerBusy_moves {busy : Option (Fin 6)} (h : Moves s t) : Moves s (changerBusy busy t) := by
  unfold changerBusy
  split
  · exact h
  · split
    · exact h
    · split
      · exact h
      · exact moves_ite (masks_moves (dispenseJam_moves (raiseFault_moves h))) (onChange_moves h)

theorem handEvents_moves {b : PollBody} (h : Moves s t) : Moves s (handEvents b t) := by
  unfold handEvents
  split
  · exact foldl_moves validatorEvent_moves h
  · exact foldl_moves moduleEvent_moves h
  · exact changerBusy_moves (foldl_moves changerEvent_moves h)
  · exact foldl_moves printerEvent_moves h

theorem pollStatus_moves {b : PollBody} (h : Moves s t) : Moves s (pollStatus b t) := by
  unfold pollStatus
  split
  · exact h
  · exact moves_ite (raiseFault_moves h) h
  · exact h
  · exact masks_moves (handTickets_moves (takeStatus_moves h))

theorem takePoll_moves {n : Byte} {b : PollBody} (h : Moves s t) : Moves s (takePoll n b t) := by
  have seen := moves_ite (c := bodyAddr b = .changer) (onChange_moves (f := fun c => { c with misses := 0 }) h) h
  exact moves_ite (pollStatus_moves (onCounters_moves seen)) (pollStatus_moves (handEvents_moves (onPeriph_moves seen)))

theorem handAnnounce_moves {k : Announced} {rev : Byte} (h : Moves s t) : Moves s (handAnnounce a k rev t) := by
  unfold handAnnounce
  refine sortEvent_moves ?_
  split
  · exact masks_moves (boxState_moves h)
  · exact masks_moves (handTickets_moves (takeStatus_moves h))
  · split
    · exact sendMask_moves h
    · exact sendMask_moves h
    · exact h
  · exact h
  · exact h

theorem announceTaken_moves {k : Announced} {rev : Byte} (h : Moves s t) : Moves s (announceTaken a k rev t) :=
  handAnnounce_moves (onPeriph_moves h)

/-! ### The device link: the lend -/

theorem grantLend_moves {n : Nat} (h : Moves s t) : Moves s (grantLend a n t) :=
  removePass_moves (resendMasks_moves (onProgress_moves (onLink_moves h fun _ => ⟨rfl, rfl⟩)))

theorem reclaim_moves {c : ReclaimCause} (h : Moves s t) : Moves s (reclaim c t) := by
  unfold reclaim
  split
  · split
    · exact notify_moves (onLink_moves h fun _ => ⟨rfl, rfl⟩)
    · exact h
  · exact h

theorem allPollsDue_moves (h : Moves s t) : Moves s (allPollsDue a t) := onLink_moves (onPeriph_moves h) fun _ => ⟨rfl, rfl⟩

theorem endLend_moves {d : Lend} (h : Moves s t) : Moves s (endLend d t) :=
  resendMasks_moves (handTickets_moves (resumePrint_moves (allPollsDue_moves (removePass_moves
    (onLink_moves h fun _ => ⟨rfl, rfl⟩)))))

theorem pollFallsDue_moves (h : Moves s t) : Moves s (pollFallsDue a t) := moves_ite h (onPeriph_moves h)

theorem endWrite_moves {w : CardWrite} {r : WriteResult} (h : Moves s t) : Moves s (endWrite p w r t) :=
  pollFallsDue_moves (writeEnded_moves (onLink_moves h fun _ => ⟨rfl, rfl⟩))

theorem endPassWrite_moves {q : QueuedPass} {r : Option DeviceReply} (h : Moves s t) :
    Moves s (endPassWrite p q r t) := pollFallsDue_moves (passReply_moves (onLink_moves h fun _ => ⟨rfl, rfl⟩))

end Link

section Start
variable {s t : State} {p : Position}

/-! ### Starts -/

theorem interrupt_moves (h : Moves s t) : Moves s (interrupt p t) := moves_ite (append_moves (addTotals_moves h)) h

theorem noteQueue_moves (h : Moves s t) : Moves s (noteQueue t) := by
  refine foldl_moves (fun hu => ?_) h
  unfold noteSlot
  split
  · exact noteJob_moves hu
  · exact noteJob_moves hu
  · exact hu
  · exact hu

theorem restartEntry_step (x : PendingEntry) : EntryStep x (restartEntry x) := by
  unfold restartEntry
  split
  · exact .inl rfl
  · exact .inl rfl
  · exact .inr ⟨rfl, .inr (.inl rfl)⟩
  · exact .inr ⟨rfl, .inl rfl⟩
  · exact .inr ⟨rfl, .inr (.inl rfl)⟩

theorem restartEntries_moves (h : Moves s t) :
    Moves s (onCards (fun c => { c with entries := vmap restartEntry c.entries }) t) :=
  h.andThen (.entries (es := vmap restartEntry t.cards.entries) fun e => by rw [vget_vmap]; exact restartEntry_step _)

theorem warmStart_moves {c : StartCause} {powered busy : Bool} (h : Moves s t) :
    Moves s (warmStart c powered busy t) := by
  have noted := interrupt_moves (p := .B) (interrupt_moves (p := .A) h)
  have kept := restartEntries_moves (moves_ite (c := powered = true) (noteQueue_moves noted) noted)
  exact settle_moves (onJournal_moves (kept.andThen (.clear _)) fun _ => ⟨rfl, rfl⟩)

theorem coldStart_moves {c : StartCause} {busy : Bool} (h : Moves s t) : Moves s (coldStart c busy t) :=
  settle_moves ((h.andThen (.wipe c t)).andThen (.clear _))

theorem requestedStart_moves {c : StartCause} {busy : Bool} (h : Moves s t) : Moves s (requestedStart c busy t) := by
  unfold requestedStart
  split
  · exact coldStart_moves h
  · exact warmStart_moves h

theorem powerUpStart_moves {lost holds busy : Bool} (h : Moves s t) : Moves s (powerUpStart lost holds busy t) :=
  moves_ite (coldStart_moves h) (moves_ite (warmStart_moves h) (coldStart_moves h))

end Start

/-! ### Commands -/

/-- Every next state that an outcome gives is reached from s by moves. -/
def Leads (s : State) (o : Out) : Prop := ∀ u, o = .next u → Moves s u

section Commands
variable {s t : State} {p : Position} {a : Addr} {tag : Byte} {busy : Bool}

theorem leads_next (h : Moves s t) : Leads s (.next t) := fun _ e => Host.Outcome.next.inj e ▸ h

theorem request_leads {c : Instr} {f : State → State} (hf : ∀ {t}, Moves s t → Moves s (f t)) :
    Leads s (request c f s) := by
  intro u e
  obtain ⟨-, rfl⟩ | ⟨-, rfl⟩ := request_cases e
  · exact finish_moves (hf ((Moves.refl s).andThen (.take s)))
  · exact .refl u

theorem expiry_leads {b : Bool} {f : State → State} (hf : Moves s (f s)) : Leads s (expiry b f busy s) := by
  intro u e
  obtain ⟨-, -, rfl⟩ | rfl := expiry_cases e
  · exact settle_moves (masks_moves hf)
  · exact .refl u

theorem saleAnswer_moves {k : Byte} {r : Result} (h : Moves s t) : Moves s (saleAnswer tag k r t) := enqueue_moves h

theorem mgmt_moves {k : Byte} {r : Result} {b : AnswerBody} (h : Moves s t) : Moves s (mgmt tag k r b t) :=
  enqueue_moves h

theorem passAnswer_moves {r : Result} {b : AnswerBody} (h : Moves s t) : Moves s (passAnswer tag r b t) :=
  enqueue_moves h

/-! ### Sale requests -/

theorem startReading_moves {q : QuoteReq} {e : Fin 4} (h : Moves s t) : Moves s (startReading p tag q e busy t) :=
  arbitrate_moves (beginRead_moves (enter_moves (onSess_moves (onEntry_moves (onSess_moves h) (.inl rfl)))))

theorem quoteTaken_moves {q : QuoteReq} (h : Moves s t) : Moves s (quoteTaken p tag q busy t) := by
  unfold quoteTaken
  split
  · exact saleAnswer_moves h
  · split
    · split
      · exact saleAnswer_moves h
      · split
        · exact saleAnswer_moves h
        · exact moves_ite (startReading_moves h) (saleAnswer_moves h)
    · split
      · exact saleAnswer_moves h
      · exact acceptQuote_moves (onSess_moves h)

theorem execQuote_leads {pos : Option Position} {q : QuoteReq} : Leads s (execQuote tag pos q s busy) :=
  request_leads fun h => by
    split
    · exact saleAnswer_moves h
    · exact quoteTaken_moves h

theorem reserveSlot_moves (h : Moves s t) : Moves s (reserveSlot p t) := by
  unfold reserveSlot
  split
  · exact h
  · split
    · exact h
    · exact onSess_moves (setSlot_moves h)

theorem payTaken_moves {pay : Payment} (h : Moves s t) : Moves s (payTaken p pay t) := by
  have reserved : Moves s (reserveSlot p (onSess p (fun x => { x with quoteLife := none, payment := some pay, due := 0 }) t)) :=
    reserveSlot_moves (onSess_moves h)
  exact moves_ite (enterIssuing_moves reserved) (enter_moves (onResv_moves (onSess_moves reserved)))

theorem execPay_leads {pos : Option Position} {pay : Payment} : Leads s (execPay tag pos pay s busy) :=
  request_leads fun h => by
    split
    · exact saleAnswer_moves h
    · split
      · exact saleAnswer_moves h
      · exact arbitrate_moves (masks_moves (payTaken_moves (saleAnswer_moves h)))

theorem cancelTaken_moves (h : Moves s t) : Moves s (cancelTaken p tag busy t) := by
  unfold cancelTaken
  dsimp only
  split
  · exact saleAnswer_moves h
  · exact arbitrate_moves (masks_moves (endReading_moves (saleAnswer_moves h)))
  · exact arbitrate_moves (masks_moves (release_moves (saleAnswer_moves h)))
  · exact arbitrate_moves (masks_moves (cancelCollecting_moves (saleAnswer_moves h)))
  · exact saleAnswer_moves h
  · exact saleAnswer_moves h
  · exact saleAnswer_moves h

theorem execCancel_leads {pos : Option Position} : Leads s (execCancel tag pos s busy) :=
  request_leads fun h => by
    split
    · exact saleAnswer_moves h
    · exact cancelTaken_moves h

theorem touchTaken_moves (h : Moves s t) : Moves s (touchTaken p tag t) := by
  unfold touchTaken
  split
  · exact saleAnswer_moves (onSess_moves h)
  · exact saleAnswer_moves (onSess_moves h)
  all_goals exact saleAnswer_moves h

theorem execTouch_leads {pos : Option Position} : Leads s (execTouch tag pos s) :=
  request_leads fun h => by
    split
    · exact saleAnswer_moves h
    · exact touchTaken_moves h

/-! ### The banks and the cash tables -/

theorem execLoadTable_leads {table index : Nat} {body : List Byte} : Leads s (execLoadTable tag table index body s) :=
  request_leads fun h => by
    split
    · exact mgmt_moves h
    · split
      · exact mgmt_moves h
      · exact mgmt_moves (onFare_moves h fun _ => rfl)

theorem execClearStaged_leads : Leads s (execClearStaged tag s) :=
  request_leads fun h => moves_ite (mgmt_moves h) (mgmt_moves (onFare_moves h fun _ => rfl))

theorem execStagedCheck_leads : Leads s (execStagedCheck tag s) := request_leads fun h => mgmt_moves h

theorem execReadTable_leads {src : TableSource} {table index : Nat} : Leads s (execReadTable tag src table index s) :=
  request_leads fun h => by
    split
    · exact mgmt_moves h
    · exact mgmt_moves h

theorem activateTaken_moves {check : BitVec 16} {time : ActTime} (h : Moves s t) :
    Moves s (activateTaken tag check time t) := by
  unfold activateTaken
  split
  · exact mgmt_moves (swap_moves h)
  · exact moves_ite (mgmt_moves (swap_moves h)) (mgmt_moves (onFare_moves h fun _ => rfl))

theorem execActivate_leads {check : BitVec 16} {time : ActTime} : Leads s (execActivate tag check time s) :=
  request_leads fun h => by
    split
    · exact mgmt_moves h
    · split
      · exact mgmt_moves h
      · split
        · exact mgmt_moves h
        · exact activateTaken_moves h

theorem execCancelActivation_leads : Leads s (execCancelActivation tag s) :=
  request_leads fun h => moves_ite (mgmt_moves h) (mgmt_moves (onFare_moves h fun _ => rfl))

theorem execCashConfig_leads {body : List Byte} : Leads s (execCashConfig tag body s busy) :=
  request_leads fun h => by
    split
    · exact mgmt_moves h
    · split
      · exact mgmt_moves h
      · exact arbitrate_moves (masks_moves (mgmt_moves (onChange_moves (onCash_moves h))))

theorem execTubeAdjust_leads {i : Nat} {n : Int} : Leads s (execTubeAdjust tag i n s busy) :=
  request_leads fun h => by
    split
    · exact mgmt_moves h
    · exact arbitrate_moves (masks_moves (mgmt_moves (append_moves (onTube_moves h))))

theorem execTubeClear_leads {i : Nat} : Leads s (execTubeClear tag i s busy) :=
  request_leads fun h => by
    split
    · exact mgmt_moves h
    · split
      · exact mgmt_moves h
      · exact moves_ite (mgmt_moves h) (arbitrate_moves (masks_moves (mgmt_moves (onTube_moves h))))

/-! ### The deny list, the journal and the totals -/

theorem execDenyAdd_leads {x : CardId} : Leads s (execDenyAdd tag x s) :=
  request_leads fun h => by
    split
    · exact mgmt_moves h
    · rename_i new
      split
      · exact mgmt_moves h
      · rename_i room
        exact mgmt_moves (h.andThen (.deny (.add x (Bool.eq_false_iff.2 new) (Nat.not_le.1 room))))

theorem execDenyRemove_leads {x : CardId} : Leads s (execDenyRemove tag x s) :=
  request_leads fun h => moves_ite (mgmt_moves (h.andThen (.deny (.remove x)))) (mgmt_moves h)

theorem execDenyLoad_leads {chunk : List CardId} : Leads s (execDenyLoad tag chunk s) :=
  request_leads fun h => by
    split
    · exact mgmt_moves h
    · rename_i taken
      exact mgmt_moves (h.andThen (.deny (.load chunk taken)))

theorem execDenyClear_leads : Leads s (execDenyClear tag s) :=
  request_leads fun h => mgmt_moves (h.andThen (.deny .clear))

theorem execReadJournal_leads {n : Nat} : Leads s (execReadJournal tag n s) :=
  request_leads fun h => moves_ite (mgmt_moves h) (mgmt_moves h)

theorem execConfirmJournal_leads {q : BitVec 32} : Leads s (execConfirmJournal tag q s) :=
  request_leads fun h =>
    moves_ite (mgmt_moves (h.andThen (.confirm _ _))) (moves_ite (mgmt_moves h) (mgmt_moves h))

theorem execReadTotals_leads : Leads s (execReadTotals tag s) := request_leads fun h => mgmt_moves h

theorem execCloseShift_leads : Leads s (execCloseShift tag s) :=
  request_leads fun h =>
    moves_ite (mgmt_moves h) (moves_ite (mgmt_moves h) (mgmt_moves (append_moves (onJournal_moves h fun _ => ⟨rfl, rfl⟩))))

theorem execAckFaults_leads {sets : Vector Flags 6} {overrun : Bool} : Leads s (execAckFaults tag sets overrun s) :=
  request_leads fun h => mgmt_moves (onLink_moves h fun _ => ⟨rfl, rfl⟩)

/-! ### Lending, settings, status and starts -/

theorem execLendLink_leads {addr limit : Nat} : Leads s (execLendLink tag addr limit s busy) :=
  request_leads fun h => by
    split
    · exact mgmt_moves h
    · exact arbitrate_moves (grantLend_moves (mgmt_moves h))

theorem execReturnLink_leads : Leads s (execReturnLink tag s busy) :=
  request_leads fun h => by
    split
    · exact mgmt_moves h
    · exact arbitrate_moves (endLend_moves (mgmt_moves h))

theorem execSetTime_leads {day : BitVec 16} {minute second : Nat} : Leads s (execSetTime tag day minute second s) :=
  request_leads fun h => by
    split
    · exact mgmt_moves h
    · rename_i inRange
      have set := h.andThen (.setTime day minute second _ (by omega) (by omega))
      exact mgmt_moves (moves_ite set (activationWatch_moves set))

theorem execSetTiming_leads {x : SessTiming} : Leads s (execSetTiming tag x s) :=
  request_leads fun h => by
    split
    · rename_i inRange
      exact mgmt_moves (h.andThen (.timing x _ inRange))
    · exact mgmt_moves h

theorem execLinkTiming_leads {x : LinkTiming} : Leads s (execLinkTiming tag x s) :=
  request_leads fun h => by
    split
    · rename_i inRange
      exact mgmt_moves (h.andThen (.linkTiming x _ inRange))
    · exact mgmt_moves h

theorem execSetMode_leads {x : Option Mode} : Leads s (execSetMode tag x s) :=
  request_leads fun h => by
    split
    · exact mgmt_moves h
    · rename_i closed
      split
      · exact mgmt_moves (h.andThen (.mode _ _ closed (by decide)))
      · exact mgmt_moves (h.andThen (.mode _ _ closed (by decide)))
      · exact mgmt_moves h
      · exact mgmt_moves h

theorem execReadStatus_leads : Leads s (execReadStatus tag s) := request_leads fun h => mgmt_moves h

theorem askStart_moves {k : Byte} {c : StartCause} (h : Moves s t) : Moves s (askStart tag k c t) :=
  enqueue_moves (h.same rfl)

theorem execRestart_leads : Leads s (execRestart tag s) := request_leads askStart_moves

theorem execFactoryClear_leads : Leads s (execFactoryClear tag s) :=
  request_leads fun h => by
    split
    · exact mgmt_moves h
    · exact askStart_moves h

theorem execDiscardPending_leads {x : CardId} : Leads s (execDiscardPending tag x s) :=
  request_leads fun h => by
    split
    · exact mgmt_moves h
    · exact mgmt_moves (freeUp_moves (append_moves h))

/-! ### Pass frames, and frames that match no request -/

theorem acceptPass_moves {f : PassFrame} {b : Bool} (h : Moves s t) : Moves s (acceptPass tag a f b t) := by
  unfold acceptPass
  split
  · exact passAnswer_moves h
  · rename_i room
    have joins : PassStep t.link.passQueue (t.link.passQueue ++ [QueuedPass.mk tag a f.code f.body b]) :=
      .inr ⟨_, rfl, Nat.not_le.1 room⟩
    exact h.andThen (.passes joins)

theorem mergeMask_moves {m : BitVec 8} (h : Moves s t) : Moves s (mergeMask tag a m t) := by
  unfold mergeMask
  split
  · exact passAnswer_moves (onLane_moves h fun _ => rfl)
  · exact passAnswer_moves (onLane_moves h fun _ => rfl)
  all_goals exact passAnswer_moves h

theorem freeText_moves {lines : List Text} (h : Moves s t) : Moves s (freeText tag a lines t) := by
  unfold freeText
  split
  · exact passAnswer_moves h
  · split
    · exact passAnswer_moves h
    · exact passAnswer_moves (queueText_moves h)

theorem passTaken_moves {f : PassFrame} (h : Moves s t) : Moves s (passTaken tag a f t) := by
  unfold passTaken
  split
  · exact moves_ite (acceptPass_moves h) (passAnswer_moves h)
  · split
    · exact passAnswer_moves h
    · split
      · exact passAnswer_moves h
      · exact mergeMask_moves h
      · exact freeText_moves h
      · exact acceptPass_moves h

theorem execPassFrame_leads {f : PassFrame} : Leads s (execPassFrame tag f s busy) :=
  request_leads fun h => by
    split
    · exact passAnswer_moves h
    · split
      · exact passAnswer_moves h
      · exact arbitrate_moves (masks_moves (passTaken_moves h))

theorem execUnknownRequest_leads {channel kind : Byte} : Leads s (execUnknownRequest channel tag kind s) :=
  request_leads fun h => enqueue_moves h

/-! ### Signals -/

theorem onSaleCounters_moves {f : SaleCounters → SaleCounters} (h : Moves s t) : Moves s (onSaleCounters f t) :=
  h.same rfl

theorem rxFrame_moves {bs : List Byte} (h : Moves s t) : Moves s (rxFrame bs t) := by
  unfold rxFrame
  split
  · exact onSaleCounters_moves h
  · split
    · exact onSaleCounters_moves h
    · exact onSaleCounters_moves h
    · rename_i f _
      split
      · exact onSaleCounters_moves h
      · rename_i room
        exact h.andThen (.keep f t (Nat.not_le.1 room))

theorem execSaleFrameReceived_leads {bs : List Byte} : Leads s (execSaleFrameReceived bs s) :=
  leads_next (moves_ite (finish_moves (rxFrame_moves (.refl s))) (.refl s))

theorem txSent_moves (h : Moves s t) : Moves s (txSent busy t) := by
  unfold txSent
  split
  · exact h
  · split
    · exact requestedStart_moves h
    · exact finish_moves (h.same rfl)
  · exact finish_moves (h.same rfl)

theorem execSaleFrameSent_leads : Leads s (execSaleFrameSent s busy) :=
  leads_next (moves_ite (txSent_moves (.refl s)) (.refl s))

theorem doorSession_moves (h : Moves s t) : Moves s (doorSession p t) := by
  unfold doorSession
  split
  · exact endReading_moves h
  · exact release_moves h
  · exact cancelCollecting_moves h
  all_goals exact h

/-- The door line shows a state that the port has not to take, or has taken already (R196). -/
theorem setDoorLine_moves {isOpen : Bool} (known : ¬ (s.power = true ∧ s.port.doorOpen = !isOpen)) :
    Moves s (setDoorLine isOpen s) := by
  refine (Moves.refl s).andThen (.doorLine isOpen s fun hp => ?_)
  have := not_and.1 known hp
  revert this
  cases s.port.doorOpen <;> cases isOpen <;> decide

theorem execDoorOpened_leads : Leads s (execDoorOpened s busy) := by
  refine leads_next ?_
  split
  · exact settle_moves (masks_moves (reclaim_moves (doorSession_moves (doorSession_moves
      ((Moves.refl s).andThen (.door true s))))))
  · exact setDoorLine_moves ‹_›

theorem execDoorClosed_leads : Leads s (execDoorClosed s busy) := by
  refine leads_next ?_
  split
  · exact settle_moves (masks_moves (reclaim_moves ((Moves.refl s).andThen (.door false s))))
  · exact setDoorLine_moves ‹_›

theorem setReset_moves {b : Bool} : Moves s (setReset b s) := (Moves.refl s).same rfl

theorem execResetLineAsserted_leads : Leads s (execResetLineAsserted s) := leads_next setReset_moves

theorem execResetLineReleased_leads : Leads s (execResetLineReleased s busy) :=
  leads_next (moves_ite (warmStart_moves setReset_moves) setReset_moves)

theorem execPowerUp_leads {lost holds : Bool} : Leads s (execPowerUp lost holds s busy) :=
  leads_next (moves_ite (.refl s) (powerUpStart_moves (.refl s)))

theorem execPowerLoss_leads : Leads s (execPowerLoss s) := leads_next ((Moves.refl s).andThen (.powerLoss s))

theorem execClockSecond_leads : Leads s (execClockSecond s) :=
  have ticked := (Moves.refl s).andThen (.tick s)
  leads_next (moves_ite (finish_moves (activationWatch_moves ticked)) ticked)

/-! ### Timers -/

theorem execQuoteLifeExpiry_leads : Leads s (execQuoteLifeExpiry p s busy) := expiry_leads (release_moves (.refl s))

theorem execInactivityExpiry_leads : Leads s (execInactivityExpiry p s busy) :=
  expiry_leads (cancelCollecting_moves (.refl s))

theorem execCardWaitExpiry_leads : Leads s (execCardWaitExpiry p s busy) := expiry_leads (endReading_moves (.refl s))

theorem stopWaiting_moves (h : Moves s t) : Moves s (stopWaiting p t) := by
  unfold stopWaiting
  refine endUnwritten_moves (onSess_moves ?_)
  split
  · exact onEntry_moves h (.inr ⟨rfl, .inl rfl⟩)
  · exact h

theorem execTearWindowExpiry_leads : Leads s (execTearWindowExpiry p s busy) := expiry_leads (stopWaiting_moves (.refl s))

theorem settleLimit_moves {q : Byte} (h : Moves s t) : Moves s (settleLimit p q t) := by
  unfold settleLimit
  split
  · exact listMoved_moves (dropEntry_moves (raiseFault_moves h))
  · exact h

theorem execSettleLimitExpiry_leads {q : Byte} : Leads s (execSettleLimitExpiry p q s busy) :=
  expiry_leads (settleLimit_moves (.refl s))

theorem execCutLimitExpiry_leads : Leads s (execCutLimitExpiry s busy) :=
  expiry_leads (tryBegin_moves (handTickets_moves (cutLimitOut_moves (.refl s))))

theorem execLendLimitExpiry_leads : Leads s (execLendLimitExpiry s busy) := expiry_leads (reclaim_moves (.refl s))

theorem graceOver_moves (h : Moves s t) : Moves s (graceOver t) := by
  unfold graceOver
  split
  · split
    · exact notify_moves (endLend_moves h)
    · exact h
  · exact h

theorem execReclaimGraceExpiry_leads : Leads s (execReclaimGraceExpiry s busy) := expiry_leads (graceOver_moves (.refl s))

/-! ### Device link events -/

theorem execPollDue_leads : Leads s (execPollDue a busy s) :=
  leads_next (moves_ite (settle_moves (pollFallsDue_moves (.refl s))) (.refl s))

theorem timedOut_moves (h : Moves s t) : Moves s (timedOut busy t) := by
  unfold timedOut
  split
  · exact settle_moves (masks_moves (unanswered_moves h))
  all_goals exact h

theorem execAnswerTimeout_leads : Leads s (execAnswerTimeout busy s) :=
  leads_next (moves_ite (timedOut_moves (.refl s)) (.refl s))

theorem execMissingThreshold_leads : Leads s (execMissingThreshold a s busy) := expiry_leads (becomeMissing_moves (.refl s))

theorem pollLimit_moves (h : Moves s t) : Moves s (pollLimit t) := by
  unfold pollLimit
  split
  · exact dispenseJam_moves (onChange_moves h)
  · exact h

theorem execDispensePollLimit_leads : Leads s (execDispensePollLimit s busy) := expiry_leads (pollLimit_moves (.refl s))

theorem writeTimedOut_moves (h : Moves s t) : Moves s (writeTimedOut p t) := by
  unfold writeTimedOut
  split
  · exact endWrite_moves h
  · exact endPassWrite_moves h
  · exact h

theorem execWriteAnswerTimeout_leads : Leads s (execWriteAnswerTimeout p s busy) :=
  expiry_leads (writeTimedOut_moves (.refl s))

theorem otherAnswer_moves {bs : List Byte} {r : ReadyFrame} (h : Moves s t) : Moves s (otherAnswer bs r busy t) := by
  unfold otherAnswer
  split
  · dsimp only
    split
    · exact h
    · split
      · exact settle_moves (masks_moves (passAnswered_moves (countAnswered_moves (freeLine_moves h))))
      · exact settle_moves (masks_moves (discardInWindow_moves h))
  · exact h

theorem discarded_moves {bs : List Byte} (h : Moves s t) : Moves s (discarded bs busy t) := by
  unfold discarded
  split
  · exact moves_ite (settle_moves (masks_moves (discardInWindow_moves h)))
      (moves_ite (otherAnswer_moves h) (settle_moves (masks_moves (discardInWindow_moves h))))
  · exact settle_moves (freeLine_moves h)
  · exact h
  · exact h

theorem execDeviceFrameDiscarded_leads {bs : List Byte} : Leads s (execDeviceFrameDiscarded bs busy s) :=
  leads_next (moves_ite (discarded_moves (.refl s)) (.refl s))

theorem execPollAnswer_leads {n : Byte} {b : PollBody} : Leads s (execPollAnswer n b busy s) :=
  leads_next (receive_moves (.refl s) fun h => forwardOr_moves h takePoll_moves)

theorem execAnnounceAnswer_leads {k : Announced} {rev : Byte} : Leads s (execAnnounceAnswer a k rev busy s) := by
  refine leads_next ?_
  split
  · exact settle_moves (masks_moves (unanswered_moves (raiseFault_moves (.refl s))))
  · exact receive_moves (.refl s) fun h => forwardOr_moves h announceTaken_moves

theorem acknowledged_moves {set : Option (BitVec 8)} {r : ReadyFrame} (h : Moves s t) :
    Moves s (acknowledged set r t) := by
  unfold acknowledged
  split
  · refine passReply_moves ?_
    split
    · exact onLink_moves h fun _ => ⟨rfl, rfl⟩
    · exact h
  · exact onLink_moves (onLink_moves h fun _ => ⟨rfl, rfl⟩) fun _ => ⟨rfl, rfl⟩
  · exact onChange_moves h
  · exact h

theorem execAcknowledgement_leads {set : Option (BitVec 8)} : Leads s (execAcknowledgement a set busy s) :=
  leads_next (receive_moves (.refl s) acknowledged_moves)

theorem cardPresent_moves {x : CardId} {r : ReadyFrame} (h : Moves s t) : Moves s (cardPresent x r t) := by
  unfold cardPresent
  split
  · exact moves_ite h (moves_ite (creditDetected_moves h) (moves_ite (pushCard_moves (setRead_moves h)) h))
  · exact h

theorem execPresent_leads {x : CardId} : Leads s (execPresent p x busy s) :=
  leads_next (receive_moves (.refl s) fun h => forwardOr_moves h cardPresent_moves)

theorem cardAbsent_moves {r : ReadyFrame} (h : Moves s t) : Moves s (cardAbsent r t) := by
  unfold cardAbsent
  split
  · exact moves_ite (creditDetected_moves h) h
  · exact h

theorem execNone_leads : Leads s (execNone p busy s) :=
  leads_next (receive_moves (.refl s) fun h => forwardOr_moves h cardAbsent_moves)

theorem execCollision_leads : Leads s (execCollision p busy s) :=
  leads_next (receive_moves (.refl s) fun h =>
    forwardOr_moves (moves_ite h (onCounters_moves h)) cardAbsent_moves)

theorem forwardedFault_moves {b : Bool} {q : QueuedPass} (h : Moves s t) : Moves s (forwardedFault b q t) :=
  moves_ite (raiseFault_moves h) h

theorem imageReturned_moves {bs : List Byte} {r : ReadyFrame} (h : Moves s t) : Moves s (imageReturned bs r t) := by
  unfold imageReturned
  split
  · exact passReply_moves (forwardedFault_moves h)
  · split
    · split
      · exact takeImage_moves h
      · exact setRead_moves (raiseFault_moves h)
    · exact h
  · exact h

theorem execImage_leads {bs : List Byte} : Leads s (execImage p bs busy s) :=
  leads_next (receive_moves (.refl s) imageReturned_moves)

theorem readNotDone_moves {f : ReadFault} {r : ReadyFrame} (h : Moves s t) : Moves s (readNotDone f r t) := by
  unfold readNotDone
  split
  · exact passReply_moves (forwardedFault_moves h)
  · exact moves_ite (setRead_moves (moves_ite (raiseFault_moves h) h)) h
  · exact h

theorem execReadFailed_leads {f : ReadFault} : Leads s (execReadFailed p f busy s) :=
  leads_next (receive_moves (.refl s) readNotDone_moves)

theorem writeUnmatched_moves {x : CardId} (h : Moves s t) : Moves s (writeUnmatched p x t) :=
  moves_ite h (raiseFault_moves h)

theorem writeAnswer_moves {x : CardId} {r : WriteResult} (h : Moves s t) : Moves s (writeAnswer p x r t) := by
  unfold writeAnswer
  split
  · exact moves_ite (endWrite_moves (moves_ite (raiseFault_moves (answered_moves h)) (answered_moves h)))
      (writeUnmatched_moves h)
  · exact endPassWrite_moves (countAnswered_moves h)
  · exact writeUnmatched_moves h

theorem writeAnswered_moves {x : CardId} {r : WriteResult} (h : Moves s t) : Moves s (writeAnswered p x r busy t) := by
  unfold writeAnswered
  split
  · exact settle_moves (masks_moves (writeAnswer_moves h))
  · exact settle_moves (masks_moves (writeAnswer_moves (freeLine_moves h)))
  · exact receive_moves h fun hu => forwardOr_moves hu fun hv => hv
  · exact h

theorem execWriteOk_leads {x : CardId} : Leads s (execWriteOk p x busy s) :=
  leads_next (moves_ite (writeAnswered_moves (.refl s)) (.refl s))

theorem execWriteFailed_leads {x : CardId} {r : WriteFault} : Leads s (execWriteFailed p x r busy s) :=
  leads_next (moves_ite (writeAnswered_moves (.refl s)) (.refl s))

theorem execWriteUncertain_leads {x : CardId} : Leads s (execWriteUncertain p x busy s) :=
  leads_next (moves_ite (writeAnswered_moves (.refl s)) (.refl s))

theorem statusTaken_moves {st : PrinterStatus} {r : ReadyFrame} (h : Moves s t) : Moves s (statusTaken st r t) := by
  unfold statusTaken
  split
  · exact handTickets_moves (takeStatus_moves (moves_ite (lineTaken_moves h) h))
  · exact handTickets_moves (takeStatus_moves (moves_ite h (cutTaken_moves h)))
  · exact passAnswered_moves h
  · exact h

theorem execStatusAnswer_leads {st : PrinterStatus} : Leads s (execStatusAnswer st busy s) :=
  leads_next (receive_moves (.refl s) statusTaken_moves)

theorem frameSent_moves (h : Moves s t) : Moves s (frameSent busy t) := by
  unfold frameSent
  split
  · dsimp only
    split
    · exact settle_moves (onLink_moves (onCounters_moves h) fun _ => ⟨rfl, rfl⟩)
    · split
      · exact settle_moves (onLink_moves (onCounters_moves h) fun _ => ⟨rfl, rfl⟩)
      · exact finish_moves (onLink_moves (onCounters_moves h) fun _ => ⟨rfl, rfl⟩)
    · exact finish_moves (onLink_moves (onCounters_moves h) fun _ => ⟨rfl, rfl⟩)
  all_goals exact h

theorem execDeviceFrameSent_leads : Leads s (execDeviceFrameSent busy s) :=
  leads_next (moves_ite (frameSent_moves (.refl s)) (.refl s))

end Commands

/-! ### The step -/

theorem exec_leads (c : Instr) (s : State) : Leads s (exec c s) := by
  cases c with
  | quote => exact execQuote_leads
  | pay => exact execPay_leads
  | cancel => exact execCancel_leads
  | touch => exact execTouch_leads
  | loadTable => exact execLoadTable_leads
  | clearStaged => exact execClearStaged_leads
  | stagedCheck => exact execStagedCheck_leads
  | readTable => exact execReadTable_leads
  | activate => exact execActivate_leads
  | cancelActivation => exact execCancelActivation_leads
  | cashConfig => exact execCashConfig_leads
  | tubeAdjust => exact execTubeAdjust_leads
  | tubeClear => exact execTubeClear_leads
  | denyAdd => exact execDenyAdd_leads
  | denyRemove => exact execDenyRemove_leads
  | denyLoad => exact execDenyLoad_leads
  | denyClear => exact execDenyClear_leads
  | readJournal => exact execReadJournal_leads
  | confirmJournal => exact execConfirmJournal_leads
  | readTotals => exact execReadTotals_leads
  | closeShift => exact execCloseShift_leads
  | ackFaults => exact execAckFaults_leads
  | lendLink => exact execLendLink_leads
  | returnLink => exact execReturnLink_leads
  | setTime => exact execSetTime_leads
  | setTiming => exact execSetTiming_leads
  | linkTiming => exact execLinkTiming_leads
  | setMode => exact execSetMode_leads
  | readStatus => exact execReadStatus_leads
  | restart => exact execRestart_leads
  | factoryClear => exact execFactoryClear_leads
  | discardPending => exact execDiscardPending_leads
  | passFrame => exact execPassFrame_leads
  | unknownRequest => exact execUnknownRequest_leads
  | saleFrameReceived => exact execSaleFrameReceived_leads
  | saleFrameSent => exact execSaleFrameSent_leads
  | doorOpened => exact execDoorOpened_leads
  | doorClosed => exact execDoorClosed_leads
  | resetLineAsserted => exact execResetLineAsserted_leads
  | resetLineReleased => exact execResetLineReleased_leads
  | powerUp => exact execPowerUp_leads
  | powerLoss => exact execPowerLoss_leads
  | clockSecond => exact execClockSecond_leads
  | quoteLifeExpiry => exact execQuoteLifeExpiry_leads
  | inactivityExpiry => exact execInactivityExpiry_leads
  | cardWaitExpiry => exact execCardWaitExpiry_leads
  | tearWindowExpiry => exact execTearWindowExpiry_leads
  | settleLimitExpiry => exact execSettleLimitExpiry_leads
  | cutLimitExpiry => exact execCutLimitExpiry_leads
  | lendLimitExpiry => exact execLendLimitExpiry_leads
  | reclaimGraceExpiry => exact execReclaimGraceExpiry_leads
  | pollDue => exact execPollDue_leads
  | answerTimeout => exact execAnswerTimeout_leads
  | missingThreshold => exact execMissingThreshold_leads
  | dispensePollLimit => exact execDispensePollLimit_leads
  | writeAnswerTimeout => exact execWriteAnswerTimeout_leads
  | deviceFrameDiscarded => exact execDeviceFrameDiscarded_leads
  | pollAnswer => exact execPollAnswer_leads
  | announceAnswer => exact execAnnounceAnswer_leads
  | acknowledgement => exact execAcknowledgement_leads
  | present => exact execPresent_leads
  | noCard => exact execNone_leads
  | collision => exact execCollision_leads
  | image => exact execImage_leads
  | readFailed => exact execReadFailed_leads
  | writeOk => exact execWriteOk_leads
  | writeFailed => exact execWriteFailed_leads
  | writeUncertain => exact execWriteUncertain_leads
  | statusAnswer => exact execStatusAnswer_leads
  | deviceFrameSent => exact execDeviceFrameSent_leads

/-- Every step is a sequence of moves. -/
theorem step_moves {s t : State} (h : step s = .next t) : Moves s t := by
  unfold step at h
  split at h
  · cases h
    exact .refl _
  · rename_i cs _
    exact Relation.ReflTransGen.head (Move.unwatched (t := setPending cs s) rfl) (exec_leads _ _ t h)

/-- What every move keeps, every step keeps. -/
theorem step_keeps {I : State → Prop} (keeps : ∀ {s t : State}, Move s t → I s → I t) {s t : State}
    (h : step s = .next t) (hs : I s) : I t := (step_moves h).keeps keeps hs

end Sys2Proof.Machine

namespace Sys2Proof.Machine

/-! ### The deny list (R80–R82) -/

/-- The order of the deny list. -/
def Ascends (xs : List CardId) : Prop := xs.Pairwise (fun a b => a.toNat < b.toNat)

/-- In an ascending list a smaller id stands before a larger one. -/
theorem Ascends.index_lt {xs : List CardId} (h : Ascends xs) {i j : Nat} {a b : CardId} (ha : xs[i]? = some a)
    (hb : xs[j]? = some b) (hab : a.toNat < b.toNat) : i < j := by
  obtain ⟨hi, rfl⟩ := List.getElem?_eq_some_iff.1 ha
  obtain ⟨hj, rfl⟩ := List.getElem?_eq_some_iff.1 hb
  by_contra hij
  obtain lt | rfl : j < i ∨ j = i := by omega
  · exact absurd (List.pairwise_iff_getElem.1 h j i hj hi lt) (by omega)
  · omega

/-- In an ascending list the binary search finds an id exactly where the list holds it between its bounds. -/
theorem searchIds_iff {xs : List CardId} (h : Ascends xs) (x : CardId) (n : Nat) :
    ∀ lo hi, hi - lo < 2 ^ n → hi ≤ xs.length →
      (searchIds xs x n lo hi = true ↔ ∃ i, lo ≤ i ∧ i < hi ∧ xs[i]? = some x) := by
  induction n with
  | zero =>
    intro lo hi hn _
    simp only [searchIds, Bool.false_eq_true, false_iff, not_exists]
    omega
  | succ n ih =>
    intro lo hi hn hl
    unfold searchIds
    split
    · simp only [Bool.false_eq_true, false_iff, not_exists]
      omega
    · dsimp only
      split
      · rename_i outside
        rw [List.getElem?_eq_none_iff] at outside
        omega
      · rename_i y hy
        split
        · rename_i found
          simp only [true_iff]
          exact ⟨_, by omega, by omega, found ▸ hy⟩
        · rename_i other
          split
          · rename_i below
            rw [ih _ _ (by omega) hl]
            refine exists_congr fun i => ⟨fun ⟨h1, h2⟩ => ⟨by omega, h2⟩, fun ⟨_, h2, hx⟩ => ⟨?_, h2, hx⟩⟩
            exact h.index_lt hy hx below
          · rename_i above
            have ne : y.toNat ≠ x.toNat := fun e => other (BitVec.eq_of_toNat_eq e)
            rw [ih _ _ (by omega) (by omega)]
            refine exists_congr fun i => ⟨fun ⟨h1, h2, hx⟩ => ⟨h1, by omega, hx⟩, fun ⟨h1, _, hx⟩ => ⟨h1, ?_, hx⟩⟩
            exact h.index_lt hx hy (by omega)

/-- Membership in a deny list in order and of at most 2,048 ids (R80). -/
theorem denied_iff {xs : List CardId} (h : Ascends xs) (hl : xs.length ≤ Config.denyCapacity) (x : CardId) :
    denied xs x = true ↔ x ∈ xs := by
  have small : xs.length - 0 < 2 ^ 12 := by
    simp only [Config.denyCapacity] at hl
    omega
  rw [denied, searchIds_iff h x 12 0 xs.length small (Nat.le_refl _), List.mem_iff_getElem?]
  refine exists_congr fun i => ⟨fun ⟨_, _, e⟩ => e, fun e => ⟨by omega, ?_, e⟩⟩
  exact (List.getElem?_eq_some_iff.1 e).1

theorem mem_insertId {x y : CardId} {xs : List CardId} : y ∈ insertId x xs ↔ y = x ∨ y ∈ xs := by
  induction xs with
  | nil => simp [insertId]
  | cons z zs ih =>
    unfold insertId
    split
    · simp
    · simp only [List.mem_cons, ih]
      tauto

theorem length_insertId (x : CardId) (xs : List CardId) : (insertId x xs).length = xs.length + 1 := by
  induction xs with
  | nil => rfl
  | cons z zs ih =>
    unfold insertId
    split
    · rfl
    · simp [ih]

/-- A new id keeps the order (R81). -/
theorem Ascends.insertId {x : CardId} {xs : List CardId} (h : Ascends xs) (new : x ∉ xs) : Ascends (insertId x xs) := by
  induction xs with
  | nil => exact List.pairwise_singleton _ _
  | cons z zs ih =>
    obtain ⟨hz, hzs⟩ := List.pairwise_cons.1 h
    obtain ⟨hne, hnew⟩ := not_or.1 (mt List.mem_cons.2 new)
    unfold Machine.insertId
    split
    · rename_i lt
      refine List.pairwise_cons.2 ⟨fun y hy => ?_, h⟩
      obtain rfl | hy := List.mem_cons.1 hy
      · exact lt
      · exact Nat.lt_trans lt (hz y hy)
    · rename_i ge
      refine List.pairwise_cons.2 ⟨fun y hy => ?_, ih hzs hnew⟩
      obtain rfl | hy := mem_insertId.1 hy
      · have : z.toNat ≠ y.toNat := fun e => hne (BitVec.eq_of_toNat_eq e.symm)
        omega
      · exact hz y hy

theorem ascends_iff_isChain {xs : List CardId} : Ascends xs ↔ xs.IsChain (fun a b => a.toNat < b.toNat) :=
  have : IsTrans CardId (fun a b => a.toNat < b.toNat) := ⟨fun _ _ _ => Nat.lt_trans⟩
  List.isChain_iff_pairwise.symm

theorem idsAscending_iff {xs : List CardId} : idsAscending xs = true ↔ Ascends xs := by
  rw [ascends_iff_isChain]
  induction xs with
  | nil => simp [idsAscending]
  | cons x xs ih =>
    cases xs with
    | nil => simp [idsAscending]
    | cons y ys => simp [idsAscending, ih]

/-- A chunk that continues the order keeps it (R82). -/
theorem Ascends.append {xs chunk : List CardId} (h : Ascends xs) (hc : chunkSorted xs chunk = true) :
    Ascends (xs ++ chunk) := by
  simp only [chunkSorted, Bool.and_eq_true] at hc
  obtain ⟨inner, join⟩ := hc
  rw [ascends_iff_isChain, List.isChain_append]
  refine ⟨ascends_iff_isChain.1 h, ascends_iff_isChain.1 (idsAscending_iff.1 inner), fun a ha b hb => ?_⟩
  rw [Option.mem_def] at ha hb
  simpa [ha, hb] using join

/-- A chunk is loaded only in order, and where it fits (R82). -/
theorem denyLoadRefusal_none {xs chunk : List CardId} (h : denyLoadRefusal xs chunk = none) :
    chunkSorted xs chunk = true ∧ xs.length + chunk.length ≤ Config.denyCapacity := by
  unfold denyLoadRefusal at h
  split at h
  · cases h
  · split at h
    · cases h
    · split at h
      · cases h
      · simp_all

/-- The deny list stays in order and within its size (R80). -/
theorem DenyStep.keeps {xs ys : List CardId} (step : DenyStep xs ys)
    (h : Ascends xs ∧ xs.length ≤ Config.denyCapacity) : Ascends ys ∧ ys.length ≤ Config.denyCapacity := by
  obtain ⟨sorted, bounded⟩ := h
  cases step with
  | add x new room =>
    have absent : x ∉ xs := fun hx => by simp [(denied_iff sorted bounded x).2 hx] at new
    exact ⟨sorted.insertId absent, by rw [length_insertId]; exact room⟩
  | remove x => exact ⟨List.Pairwise.filter _ sorted, (List.length_filter_le _ _).trans bounded⟩
  | load chunk taken =>
    obtain ⟨chunkOk, fits⟩ := denyLoadRefusal_none taken
    exact ⟨sorted.append chunkOk, by rwa [List.length_append]⟩
  | clear => exact ⟨List.Pairwise.nil, Nat.zero_le _⟩

/-! ### The pending-write entries (R88) -/

theorem heldElsewhere_false {e : Fin 4} {x : CardId} {s : State} (h : heldElsewhere e x s = false) {i : Fin 4}
    (hi : i ≠ e) : (entry i s).state = .free ∨ (entry i s).card ≠ some x := by
  have listed : ∀ i, i ∈ fours := by decide
  simp only [heldElsewhere, List.any_eq_false, Bool.and_eq_true, decide_eq_true_eq] at h
  have := h i (listed i)
  tauto

theorem EntriesOk.change {c : Cards} {es : Vector PendingEntry 4} (h : EntriesOk c)
    (change : ∀ e, EntryStep (vget c.entries e) (vget es e)) : EntriesOk { c with entries := es } := by
  obtain ⟨empty, once⟩ := h
  have kept {e : Fin 4} {x : CardId} (hx : (vget es e).card = some x) : (vget c.entries e).card = some x := by
    obtain none | ⟨same, -⟩ := change e
    · rw [none] at hx; cases hx
    · rw [← same, hx]
  refine ⟨fun e hs => ?_, fun e f x he hf => once e f x (kept he) (kept hf)⟩
  obtain none | ⟨same, same' | torn | resolving⟩ := change e
  · exact none
  · exact same.trans (empty e (by rwa [same'] at hs))
  · simp [torn] at hs
  · simp [resolving] at hs

theorem EntriesOk.write {s : State} {e : Fin 4} {y : PendingEntry} {x : CardId} (h : EntriesOk s.cards)
    (state : y.state = .writing) (card : y.card = some x) (alone : heldElsewhere e x s = false) :
    EntriesOk (onEntry e (fun _ => y) s).cards := by
  obtain ⟨empty, once⟩ := h
  have self : vget (onEntry e (fun _ => y) s).cards.entries e = y := entry_onEntry_self e _ s
  have other {d : Fin 4} (hd : d ≠ e) : vget (onEntry e (fun _ => y) s).cards.entries d = vget s.cards.entries d :=
    entry_onEntry_ne hd _ s
  have free {d : Fin 4} (hd : d ≠ e) : (vget s.cards.entries d).card ≠ some x := fun hx =>
    (heldElsewhere_false alone hd).elim (fun hf => by simp [empty d (.inl hf)] at hx) (fun hn => hn hx)
  constructor
  · intro d hs
    by_cases hd : d = e
    · subst hd; rw [self, state] at hs; simp at hs
    · rw [other hd] at hs ⊢; exact empty d hs
  · intro d f z hz hf
    by_cases hd : d = e
    · by_cases hfe : f = e
      · rw [hd, hfe]
      · subst hd
        rw [self, card] at hz
        rw [other hfe, ← hz] at hf
        exact absurd hf (free hfe)
    · by_cases hfe : f = e
      · subst hfe
        rw [self, card] at hf
        rw [other hd, ← hf] at hz
        exact absurd hz (free hd)
      · rw [other hd] at hz
        rw [other hfe] at hf
        exact once d f z hz hf

/-! ### The clock (R1) -/

theorem clockTick_ok {c : Clock} (h : ClockOk c) : ClockOk (clockTick c) := by
  obtain ⟨hd, hm, hs⟩ := h
  unfold clockTick
  split
  · exact ⟨hd, hm, by dsimp only; omega⟩
  · split
    · exact ⟨hd, by dsimp only; omega, Nat.zero_le _⟩
    · split
      · exact ⟨by dsimp only; omega, Nat.zero_le _, Nat.zero_le _⟩
      · exact ⟨Nat.zero_le _, Nat.zero_le _, Nat.zero_le _⟩

/-! ### Every step keeps the lists and the settings in range -/

/-- The deny list, the pending-write entries, the clock and the settings are in their ranges. -/
structure InRange (s : State) : Prop where
  deny : DenyOk s.cards
  entries : EntriesOk s.cards
  clock : ClockOk s.fare.clock
  settings : SettingsOk s

/-- Only the watched parts count. -/
theorem InRange.of_watched {s t : State} (e : watched t = watched s) (h : InRange s) : InRange t := by
  obtain ⟨deny, entries, clock, settings⟩ := h
  have hd : t.cards.deny = s.cards.deny := congrArg Watched.deny e
  have he : t.cards.entries = s.cards.entries := congrArg Watched.entries e
  have hc : t.fare.clock = s.fare.clock := congrArg Watched.clock e
  have hs : t.sales.timing = s.sales.timing := congrArg Watched.timing e
  have hl : t.link.timing = s.link.timing := congrArg Watched.linkTiming e
  exact ⟨by rwa [DenyOk, hd], by rwa [EntriesOk, he], by rwa [hc], by rwa [SettingsOk, hs, hl]⟩

theorem entriesOk_cold : EntriesOk Cards.cold := by
  simp [EntriesOk, Cards.cold, PendingEntry.free]

theorem settingsOk_start : sessTimingInRange SessTiming.default = true ∧ linkTimingInRange LinkTiming.default = true := by
  decide

theorem Move.keeps_inRange {s t : State} (m : Move s t) (h : InRange s) : InRange t := by
  obtain ⟨deny, entries, clock, settings⟩ := h
  cases m with
  | unwatched same => exact .of_watched same ⟨deny, entries, clock, settings⟩
  | clear => exact ⟨deny, entries, clock, settingsOk_start⟩
  | wipe => exact ⟨⟨List.Pairwise.nil, Nat.zero_le _⟩, entriesOk_cold, ⟨Nat.zero_le _, Nat.zero_le _, Nat.zero_le _⟩, settings⟩
  | tick => exact ⟨deny, entries, clockTick_ok clock, settings⟩
  | setTime day minute second _ hm hs => exact ⟨deny, entries, ⟨Nat.le_of_lt_succ day.isLt, hm, hs⟩, settings⟩
  | timing x _ inRange => exact ⟨deny, entries, clock, inRange, settings.2⟩
  | linkTiming x _ inRange => exact ⟨deny, entries, clock, settings.1, inRange⟩
  | deny change => exact ⟨change.keeps deny, entries, clock, settings⟩
  | entries change => exact ⟨deny, entries.change change, clock, settings⟩
  | write e state card alone => exact ⟨deny, entries.write state card alone, clock, settings⟩
  | answer | notice | serve | take | keep | mode | door | doorLine | powerLoss | record | confirm | list | passes =>
    exact ⟨deny, entries, clock, settings⟩

end Sys2Proof.Machine

namespace Sys2Proof.Proofs
open Sys2Proof Sys2Proof.Machine

/-- Settles O58: every step is a sequence of moves, and each kind of move keeps the ranges. -/
theorem listsAndSettingsStayInRange : Obligations.ListsAndSettingsStayInRange := by
  intro s t deny entries clock settings h
  obtain ⟨deny', entries', clock', settings'⟩ := step_keeps Move.keeps_inRange h ⟨deny, entries, clock, settings⟩
  exact ⟨deny', entries', clock', settings'⟩

end Sys2Proof.Proofs

namespace Sys2Proof.Machine

/-! ### The cash price (R17) -/

/-- The largest multiple of U within 65,535. -/
def cashTop (u : Nat) : Nat := 65535 / u * u

/-- The nearest multiple of U, a half rounding up. -/
def cashNearest (u price : Nat) : Nat := (price + u / 2) / u * u

theorem cashTop_le (u : Nat) : cashTop u ≤ 65535 := Nat.div_mul_le_self _ _

theorem le_cashTop {u k : Nat} (hu : 1 ≤ u) (h : k * u ≤ 65535) : k * u ≤ cashTop u :=
  Nat.mul_le_mul_right u ((Nat.le_div_iff_mul_le hu).2 h)

theorem cashTop_le_pred {u k : Nat} (hu : 1 ≤ u) (h : 65535 < k * u) : cashTop u ≤ (k - 1) * u :=
  Nat.mul_le_mul_right u (Nat.le_sub_one_of_lt ((Nat.div_lt_iff_lt_mul hu).2 h))

/-- Lowering by U brings a multiple of U down to the largest within 65,535, given steps enough (R17, correction 2). -/
theorem lowerCash_multiple {u : Nat} (hu : 1 ≤ u) (n : Nat) :
    ∀ k, k * u ≤ 65535 + n * u → lowerCash u n (k * u) = min (k * u) (cashTop u) := by
  induction n with
  | zero =>
    intro k h
    exact (Nat.min_eq_left (le_cashTop hu (by omega))).symm
  | succ n ih =>
    intro k h
    unfold lowerCash
    split
    · rename_i high
      have one : k * u - u = (k - 1) * u := by rw [Nat.sub_mul, Nat.one_mul]
      have top := cashTop_le_pred hu high
      have := cashTop_le u
      rw [Nat.succ_mul] at h
      rw [one, ih (k - 1) (by omega), Nat.min_eq_right top, Nat.min_eq_right (by omega)]
    · rename_i low
      exact (Nat.min_eq_left (le_cashTop hu (Nat.not_lt.1 low))).symm

/-- The cash price before the second correction, and the top it is brought down to (R17). -/
theorem cashPrice_eq {u price : Nat} (hu : 1 ≤ u) (hp : price ≤ 65535) :
    cashPrice u price = min (if 0 < price ∧ cashNearest u price = 0 then u else cashNearest u price) (cashTop u) := by
  have near : cashNearest u price ≤ 65535 + 100 * u := by
    have := Nat.div_mul_le_self (price + u / 2) u
    unfold cashNearest
    omega
  change lowerCash u 100 (if 0 < price ∧ cashNearest u price = 0 then u else cashNearest u price) = _
  split
  · simpa using lowerCash_multiple hu 100 1 (by omega)
  · exact lowerCash_multiple hu 100 _ near

theorem le_cashTop_unit {u : Nat} (h1 : 1 ≤ u) (h2 : u ≤ 100) : u ≤ cashTop u := by
  simpa using le_cashTop (k := 1) h1 (by omega)

/-- The nearest multiple of U to a multiple of U. -/
theorem cashNearest_multiple {u price : Nat} (hu : 1 ≤ u) (h : price % u = 0) : cashNearest u price = price := by
  obtain ⟨k, rfl⟩ := Nat.dvd_of_mod_eq_zero h
  have half : u / 2 / u = 0 := Nat.div_eq_of_lt (by omega)
  rw [cashNearest, Nat.mul_add_div hu, half, Nat.add_zero, Nat.mul_comm]

section Rounding
variable {u price : Nat} (h1 : 1 ≤ u) (h2 : u ≤ 100) (hp : price ≤ 65535)
include h1 h2 hp

theorem cashPrice_small (h0 : 0 < price) (hn : cashNearest u price = 0) : cashPrice u price = u := by
  rw [cashPrice_eq h1 hp, if_pos ⟨h0, hn⟩, Nat.min_eq_left (le_cashTop_unit h1 h2)]

omit h2 in
theorem cashPrice_nearest (h0 : 0 < cashNearest u price) (hn : cashNearest u price ≤ 65535) :
    cashPrice u price = cashNearest u price := by
  rw [cashPrice_eq h1 hp, if_neg (by omega)]
  exact Nat.min_eq_left (le_cashTop h1 hn)

omit h2 in
theorem cashPrice_large (hn : 65535 < cashNearest u price) : cashPrice u price = cashTop u := by
  have := cashTop_le u
  rw [cashPrice_eq h1 hp, if_neg (by omega), Nat.min_eq_right (by omega)]

omit h2 hp in
theorem cashPrice_free : cashPrice u 0 = 0 := by
  rw [cashPrice_eq h1 (Nat.zero_le _), cashNearest_multiple h1 (Nat.zero_mod u)]
  simp

/-- The three forms of a cash price above 0. -/
theorem cashPrice_cases (h0 : 0 < price) :
    cashPrice u price = u ∨ (0 < cashNearest u price ∧ cashPrice u price = cashNearest u price ∧
      cashNearest u price ≤ 65535) ∨ cashPrice u price = cashTop u := by
  obtain hn | hn := Nat.eq_zero_or_pos (cashNearest u price)
  · exact .inl (cashPrice_small h1 h2 hp h0 hn)
  · obtain lt | le := Nat.lt_or_ge 65535 (cashNearest u price)
    · exact .inr (.inr (cashPrice_large h1 hp lt))
    · exact .inr (.inl ⟨hn, cashPrice_nearest h1 hp hn le, le⟩)

theorem cashPrice_mod : cashPrice u price % u = 0 := by
  obtain rfl | h0 := Nat.eq_zero_or_pos price
  · rw [cashPrice_free h1, Nat.zero_mod]
  · obtain e | ⟨-, e, -⟩ | e := cashPrice_cases h1 h2 hp h0
    · rw [e, Nat.mod_self]
    · rw [e, cashNearest, Nat.mul_mod_left]
    · rw [e, cashTop, Nat.mul_mod_left]

omit h2 in
theorem cashPrice_le : cashPrice u price ≤ 65535 := by
  rw [cashPrice_eq h1 hp]
  exact (Nat.min_le_right _ _).trans (cashTop_le u)

theorem cashPrice_eq_zero : cashPrice u price = 0 ↔ price = 0 := by
  constructor
  · intro h
    by_contra hne
    have top := le_cashTop_unit h1 h2
    obtain e | ⟨hn, e, -⟩ | e := cashPrice_cases h1 h2 hp (by omega) <;> omega
  · rintro rfl
    exact cashPrice_free h1

omit h2 in
theorem cashPrice_multiple (h : price % u = 0) : cashPrice u price = price := by
  have near := cashNearest_multiple h1 h
  obtain rfl | h0 := Nat.eq_zero_or_pos price
  · exact cashPrice_free h1
  · rw [cashPrice_nearest h1 hp (by omega) (by omega), near]

end Rounding

/-! ### The quote result (R15, R16, R21) -/

/-- What every quote result says of its own price. -/
structure PricedFor (b : Bank) (u : Nat) (q : QuoteReq) (r : QuoteResult) : Prop where
  cash : r.cash = cashPrice u r.price
  free : r.free = true ↔ r.price = 0
  product : r.product = q.product
  within : r.price ≤ b.ceiling

theorem clampPrice_le (ceiling price : Nat) : (clampPrice ceiling price).1 ≤ ceiling := by
  unfold clampPrice
  split
  · exact Nat.le_refl _
  · exact Nat.not_lt.1 ‹_›

/-- The rounding of R14: the product over 2^28, a half up. -/
theorem rounded_eq (base m k t : Nat) : rounded base m k t = (base * m * k * t + 2 ^ 27) / 2 ^ 28 := by
  norm_num [rounded]

theorem clampPrice_above {ceiling price : Nat} (h : ceiling < price) : clampPrice ceiling price = (ceiling, true) :=
  if_pos h

theorem clampPrice_within {ceiling price : Nat} (h : price ≤ ceiling) : clampPrice ceiling price = (price, false) :=
  if_neg (Nat.not_lt.2 h)

theorem floorTo_le (step n : Nat) : floorTo step n ≤ n := Nat.div_mul_le_self _ _

/-- A top-up amount is within the fare ceiling (R16). -/
theorem topUpAmount_le {b : Bank} {c : Clock} {x : CardImage} {asked a : Nat} {reduced : Bool}
    (h : topUpAmount b c x asked = .ok (a, reduced)) : a ≤ b.ceiling := by
  unfold topUpAmount at h
  dsimp only at h
  split at h
  · cases h
  · split at h
    · split at h
      · cases h
      · cases h
        exact floorTo_le _ _
    · cases h
      exact Nat.not_lt.1 ‹_›

/-- A result that takes its product from the request and its other figures from one price. -/
theorem pricedFor_result {b : Bank} {u : Nat} {q : QuoteReq} {price : Nat} (within : price ≤ b.ceiling) (kind : ProductKind)
    (zones : Option (Nat × Nat)) (cls : Option Nat) (clamped reduced : Bool) (days : Option (Nat × Nat)) (receipt : Bool)
    (card : Option CardQuote) :
    PricedFor b u q { product := q.product, kind := kind, zones := zones, cls := cls, price := price,
                      cash := cashPrice u price, clamped := clamped, reduced := reduced, free := decide (price = 0),
                      days := days, receipt := receipt, card := card } :=
  ⟨rfl, decide_eq_true_iff, rfl, within⟩

theorem priceQuote_ok {b : Bank} {c : Clock} {u : Nat} {q : QuoteReq} {card : Option CardImage} {r : QuoteResult}
    (h : priceQuote b c u q card = .ok r) : PricedFor b u q r := by
  unfold priceQuote at h
  split at h
  · cases h
  · dsimp only at h
    split at h
    · split at h
      · cases h
      · split at h
        · cases h
        · rename_i amount
          cases h
          exact pricedFor_result (topUpAmount_le amount) ..
    · split at h
      · cases h
      · split at h
        · cases h
        · cases h
          exact pricedFor_result (clampPrice_le _ _) ..

theorem quotePlain_ok {b : Bank} {c : Clock} {u : Nat} {q : QuoteReq} {r : QuoteResult}
    (h : quotePlain b c u q = .ok r) : PricedFor b u q r := by
  unfold quotePlain at h
  split at h
  · cases h
  · exact priceQuote_ok h

theorem quoteCard_ok {b : Bank} {c : Clock} {u : Nat} {q : QuoteReq} {x : CardImage} {r : QuoteResult}
    (h : quoteCard b c u q x = .ok r) : PricedFor b u q r := by
  unfold quoteCard at h
  split at h
  · cases h
  · split at h
    · cases h
    · rename_i priced
      obtain ⟨cash, free, product, within⟩ := priceQuote_ok priced
      split at h
      · cases h
      · split at h
        · split at h
          · cases h
          · cases h
            exact ⟨cash, free, product, within⟩
        · cases h
          exact ⟨cash, free, product, within⟩

/-! ### The price of a ride that reads no card (R11, R12, R14, R15) -/

theorem toFin?_val {n : Nat} (i : Fin n) : toFin? n i.val = some i := dif_pos i.isLt

theorem productOfBank_some {b : Bank} {i : Fin 32} (h : (vget b.products i).kind ≠ .unused) :
    productOfBank b i.val = some (vget b.products i) := by
  simp only [productOfBank, toFin?_val, if_neg h]

theorem ride_kind {k : ProductKind} (h : k = .single ∨ k = .returnTrip) : k ≠ .unused ∧ k ≠ .topup ∧ k ≠ .period := by
  obtain rfl | rfl := h <;> decide

theorem classFactor_val (b : Bank) (k : Fin 8) : classFactor b k.val = (vget b.classes k).factor := by
  simp only [classFactor, toFin?_val]

theorem classAllowed_val (p : Product) (k : Fin 8) : classAllowed p k.val = p.classes.getLsbD k.val := by
  simp only [classAllowed, inMask, Nat.le_of_lt_succ k.isLt, decide_true, Bool.true_and]

theorem matrixEntry_val {b : Bank} {o d : Fin 16} {cell : Fin 256} (h : cell.val = 16 * o.val + d.val) :
    matrixEntry b (o.val + 1) (d.val + 1) = vget b.matrix cell := by
  simp only [matrixEntry, Nat.add_sub_cancel, ← h, toFin?_val]

theorem zoneOk_val (o : Fin 16) : zoneOk (o.val + 1) = true := by
  simp only [zoneOk, Bool.and_eq_true, decide_eq_true_eq]
  omega

/-- The result of a ride that reads no card, at a price with its CLAMPED. -/
def rideQuote (u : Nat) (q : QuoteReq) (p : Product) (pr : Nat × Bool) : QuoteResult :=
  { product := q.product, kind := p.kind, zones := some (q.origin, q.dest), cls := some q.cls, price := pr.1,
    cash := cashPrice u pr.1, clamped := pr.2, reduced := false, free := decide (pr.1 = 0), days := none,
    receipt := p.receiptRequired, card := none }

theorem rideQuote_price (u : Nat) (q : QuoteReq) (p : Product) (pr : Nat × Bool) :
    ((rideQuote u q p pr).price, (rideQuote u q p pr).clamped) = pr := rfl

section Ride
variable {b : Bank} {c : Clock} {q : QuoteReq} {i : Fin 32} {o d : Fin 16} {k : Fin 8} {cell : Fin 256}
  (hp : q.product = i.val) (ho : q.origin = o.val + 1) (hd : q.dest = d.val + 1) (hk : q.cls = k.val)
  (kind : (vget b.products i).kind = .single ∨ (vget b.products i).kind = .returnTrip)
  (allowed : (vget b.products i).classes.getLsbD k.val = true) (hc : cell.val = 16 * o.val + d.val)
include hp ho hd hk kind allowed hc

/-- A SINGLE or RETURN of a route and a class that the bank sells passes checks 1 to 6 (R11). -/
theorem stage1_ride (route : vget b.matrix cell ≠ 0) : stage1 b c q = none := by
  obtain ⟨used, notTopup, notPeriod⟩ := ride_kind kind
  simp only [stage1, hp, ho, hd, hk, productOfBank_some used, notTopup, notPeriod, zoneOk_val, classAllowed_val, allowed,
    matrixEntry_val hc, route]
  simp

/-- It is priced by the product of the base fare and the three factors over 2^28, rounded and clamped (R12, R14, R15). -/
theorem priceQuote_ride (u : Nat) :
    priceQuote b c u q none = .ok (rideQuote u q (vget b.products i) (clampPrice b.ceiling
      ((vget b.matrix cell * (vget b.products i).mult * (vget b.classes k).factor *
        bandFactor b c (vget b.products i) + 2 ^ 27) / 2 ^ 28))) := by
  obtain ⟨used, notTopup, notPeriod⟩ := ride_kind kind
  simp only [priceQuote, rideQuote, classUsed, baseFare, hp, ho, hd, hk, productOfBank_some used, notTopup, notPeriod,
    classAllowed_val, classFactor_val, allowed, matrixEntry_val hc, rounded_eq, if_false, Bool.true_eq_false,
    Option.map_none]

end Ride
end Sys2Proof.Machine

namespace Sys2Proof.Proofs
open Sys2Proof Sys2Proof.Machine

/-- Settles O53: the three forms of the cash price, and the price that every quote result carries. -/
theorem cashPriceRounds : Obligations.CashPriceRounds := by
  refine ⟨fun u price h1 h2 hp => ?_, fun b c u q r h => ?_⟩
  · exact ⟨cashPrice_small h1 h2 hp, cashPrice_nearest h1 hp, cashPrice_large h1 hp, cashPrice_mod h1 h2 hp,
      cashPrice_le h1 hp, cashPrice_eq_zero h1 h2 hp, cashPrice_multiple h1 hp⟩
  · obtain ⟨cash, free, product, within⟩ : PricedFor b u q r := h.elim quotePlain_ok fun ⟨_, hx⟩ => quoteCard_ok hx
    exact ⟨cash, free, product, within⟩

/-- Settles O54: the checks pass, and the price is the clamped product. -/
theorem ridePrice : Obligations.RidePrice := by
  intro b c u q i o d k p hp ho hd hk kind allowed cell hc route raw n
  have plain : quotePlain b c u q = priceQuote b c u q none := by
    rw [quotePlain, stage1_ride hp ho hd hk kind allowed hc route]
  have result := plain.trans (priceQuote_ride (b := b) (c := c) hp ho hd hk kind allowed hc u)
  refine ⟨_, result, by rw [rideQuote, ho, hd], by rw [rideQuote, hk], rfl, rfl, rfl, rfl, fun high => ?_, fun low => ?_⟩
  · exact Prod.mk.inj ((rideQuote_price ..).trans (clampPrice_above high))
  · exact Prod.mk.inj ((rideQuote_price ..).trans (clampPrice_within low))

end Sys2Proof.Proofs

namespace Sys2Proof.Machine

/-! ### The swap and the activation watch (R204, R205) -/

section Swap
variable (x : ActTime) (late : Bool) (s : State)

/-- The banks after a swap; the clock goes on. -/
theorem swap_fare : (swap x late s).fare =
    { s.fare with live := s.fare.staged, staged := s.fare.live, liveCheck := bankCheck s.fare.staged, act := none } := by
  simp only [swap, notify_fare, append_fare, onFare_fare]

/-- With room in the journal, a swap is recorded under the next number. -/
theorem swap_journal (room : s.journal.records.length < Config.journalCapacity) :
    (swap x late s).journal.records = s.journal.records ++
      [commonPart s.fare.clock s.journal.next none (.tableActivated (bankCheck s.fare.staged) x late)] := by
  rw [swap, notify_journal, append_journal_room (s := onFare _ s) room]
  rfl

@[simp] theorem swap_cash : (swap x late s).cash = s.cash := by simp only [swap, notify_cash, append_cash, onFare_cash]
@[simp] theorem swap_coins : (swap x late s).coins = s.coins := by simp only [swap, notify_coins, append_coins, onFare_coins]
@[simp] theorem swap_change : (swap x late s).change = s.change := by
  simp only [swap, notify_change, append_change, onFare_change]
@[simp] theorem swap_cards : (swap x late s).cards = s.cards := by simp only [swap, notify_cards, append_cards, onFare_cards]
@[simp] theorem swap_sales : (swap x late s).sales = s.sales := by simp only [swap, notify_sales, append_sales, onFare_sales]
@[simp] theorem swap_print : (swap x late s).print = s.print := by simp only [swap, notify_print, append_print, onFare_print]

end Swap

/-- Nothing is swapped while no pending activation is reached (R204). -/
theorem activationWatch_waits {s : State}
    (h : ∀ a, s.fare.act = some a → dayMinute s.fare.clock.day s.fare.clock.minute < dayMinute a.day a.minute) :
    activationWatch s = s := by
  unfold activationWatch
  split
  · rfl
  · rename_i a ha
    exact if_neg fun reached => absurd reached.2 (Nat.not_le.2 (h a ha))

/-- A pending activation that is reached is made, late where its time is past (R204). -/
theorem activationWatch_reached {s : State} {a : PendingAct} (ha : s.fare.act = some a) (valid : s.fare.clock.valid = true)
    (reached : dayMinute a.day a.minute ≤ dayMinute s.fare.clock.day s.fare.clock.minute) :
    activationWatch s = swap (.day a.day a.minute)
      (decide (dayMinute a.day a.minute < dayMinute s.fare.clock.day s.fare.clock.minute)) s := by
  simp only [activationWatch, ha]
  exact if_pos ⟨valid, reached⟩

/-- All that the activation watch can do. -/
theorem activationWatch_cases (s : State) :
    activationWatch s = s ∨ ∃ a, s.fare.act = some a ∧ ∃ late, activationWatch s = swap (.day a.day a.minute) late s := by
  unfold activationWatch
  split
  · exact .inl rfl
  · split
    · exact .inr ⟨_, ‹_›, _, rfl⟩
    · exact .inl rfl

/-! ### The second of the clock (R1) -/

/-- The state after the clock's second, before anything looks at it. -/
def ticked (s : State) : State := onFare (fun f => { f with clock := clockTick f.clock }) s

theorem clockTick_second {c : Clock} (h : c.second < 59) : clockTick c = { c with second := c.second + 1 } := if_pos h

theorem clockTick_minute {c : Clock} (h : 59 ≤ c.second) : clockTick c =
    if c.minute < 1439 then { c with second := 0, minute := c.minute + 1 }
    else if c.day < 65535 then { c with second := 0, minute := 0, day := c.day + 1 }
    else { day := 0, minute := 0, second := 0, valid := false } := if_neg (Nat.not_lt.2 h)

theorem execClockSecond_within {s : State} (h : s.fare.clock.second < 59) : execClockSecond s = .next (ticked s) := by
  simp [execClockSecond, minuteChanges, h, ticked]

theorem execClockSecond_minute {s : State} (h : 59 ≤ s.fare.clock.second) :
    execClockSecond s = .next (if s.power then finish (activationWatch (ticked s)) else ticked s) := by
  have changes : minuteChanges s.fare.clock = true := by simpa [minuteChanges] using h
  simp only [execClockSecond, changes, and_true]
  rfl

/-- What a change of minute leaves alone, and the clock it leaves. -/
theorem minute_frame (s : State) :
    let t := if s.power then finish (activationWatch (ticked s)) else ticked s
    t.fare.clock = clockTick s.fare.clock ∧ t.sales = s.sales ∧ t.cash = s.cash ∧ t.coins = s.coins ∧
      t.change = s.change ∧ t.cards = s.cards ∧ t.print = s.print ∧
      (s.power = false ∨ s.fare.act = none → t.fare.live = s.fare.live ∧ t.journal = s.journal) := by
  dsimp only
  split
  · rename_i on
    obtain e | ⟨a, ha, late, e⟩ := activationWatch_cases (ticked s)
    · rw [e]
      simp [ticked]
    · rw [e]
      have pending : s.fare.act ≠ none := by
        rw [show s.fare.act = some a from ha]
        exact Option.some_ne_none a
      simp only [finish_fare, finish_sales, finish_cash, finish_coins, finish_change, finish_cards, finish_print,
        swap_fare, swap_sales, swap_cash, swap_coins, swap_change, swap_cards, swap_print]
      exact ⟨rfl, rfl, rfl, rfl, rfl, rfl, rfl, fun h => absurd h (by simp [on, pending])⟩
  · exact ⟨rfl, rfl, rfl, rfl, rfl, rfl, rfl, fun _ => ⟨rfl, rfl⟩⟩

end Sys2Proof.Machine

namespace Sys2Proof.Proofs
open Sys2Proof Sys2Proof.Machine

/-- Settles O13: within a minute the second alone rises; at its end the clock rolls over and the activation watch looks at it. -/
theorem clockSecondAdvances : Obligations.ClockSecondAdvances := by
  refine ⟨fun s => ⟨fun within => ?_, fun minute => ?_⟩, fun s a on valid ha hs hm hd reached => ?_⟩
  · refine (execClockSecond_within within).trans ?_
    rw [ticked, onFare, clockTick_second within]
  · obtain ⟨clock, frame⟩ := minute_frame s
    exact ⟨_, execClockSecond_minute minute, clock.trans (clockTick_minute minute), frame⟩
  · have next : clockTick s.fare.clock = { s.fare.clock with second := 0, minute := s.fare.clock.minute + 1 } := by
      rw [clockTick_minute hs.ge, if_pos hm]
    have clock : (ticked s).fare.clock = { s.fare.clock with second := 0, minute := s.fare.clock.minute + 1 } := next
    have late : decide (dayMinute a.day a.minute < dayMinute s.fare.clock.day (s.fare.clock.minute + 1)) =
        decide (a.minute < s.fare.clock.minute + 1) := by
      simp only [dayMinute, hd, Nat.add_lt_add_iff_left]
    have made := activationWatch_reached (s := ticked s) ha (by rw [clock]; exact valid)
      (by rw [clock, hd]; exact Nat.add_le_add_left reached _)
    rw [clock, late] at made
    have run := execClockSecond_minute hs.ge
    rw [on, made] at run
    refine ⟨_, run, ?_⟩
    simp only [if_true, finish_fare, finish_journal, finish_sales, finish_change, finish_cards, swap_fare, swap_sales,
      swap_change, swap_cards, true_and]
    exact ⟨rfl, rfl, rfl, fun room => swap_journal _ _ (ticked s) room, rfl, rfl, rfl⟩

end Sys2Proof.Proofs

namespace Sys2Proof.Machine

/-! ### The setting requests -/

section Settings
variable {tag : Byte} {s : State}

theorem flagGet_flagsClear (f g : Flags) (x : Flag) : flagGet (flagsClear f g) x = (flagGet f x && !flagGet g x) := by
  cases x <;> rfl

/-- The flags named are cleared, and nothing else of a peripheral changes (R183). -/
theorem periph_clearFaults (sets : Vector Flags 6) (overrun : Bool) (a : Addr) (s : State) :
    periph a (clearFaults sets overrun s) =
      { periph a s with flags := flagsClear (periph a s).flags (vget sets (addrIndex a)) } :=
  vget_vtab _ _

theorem execAckFaults_taken {sets : Vector Flags 6} {overrun : Bool} (h : takes (.ackFaults tag sets overrun) s = true) :
    let t := clearFaults sets overrun (takeFrame s)
    execAckFaults tag sets overrun s =
      .next (answeredOnly 1 tag 18 .ok (.faults (vmap (·.flags) t.link.periph) t.link.overrun) t) :=
  request_taken h

section SetTime
variable {day : BitVec 16} {minute second : Nat}

/-- The clock as SET_TIME gives it. -/
def clockOf (day : BitVec 16) (minute second : Nat) : Clock :=
  { day := day.toNat, minute := minute, second := second, valid := true }

/-- A SET_TIME to the minute that the clock already shows (log 31). -/
def SameMinute (c : Clock) (day : BitVec 16) (minute : Nat) : Prop :=
  c.valid = true ∧ c.day = day.toNat ∧ c.minute = minute

theorem execSetTime_refused (h : takes (.setTime tag day minute second) s = true) (out : 1439 < minute ∨ 59 < second) :
    execSetTime tag day minute second s = .next (answeredOnly 1 tag 21 .range .empty (takeFrame s)) := by
  rw [execSetTime, request_taken h, if_pos out]
  rfl

theorem execSetTime_set (h : takes (.setTime tag day minute second) s = true) (hm : minute ≤ 1439) (hs : second ≤ 59) :
    execSetTime tag day minute second s =
      .next (answeredOnly 1 tag 21 .ok .empty (setClock day minute second (takeFrame s))) := by
  rw [execSetTime, request_taken h, if_neg (by omega)]
  rfl

/-- The clock alone is set where the minute is the same or no pending activation is reached (R3, R204). -/
theorem setClock_quiet (h : SameMinute s.fare.clock day minute ∨
      ∀ a, s.fare.act = some a → day.toNat * 1440 + minute < a.day * 1440 + a.minute) :
    setClock day minute second s = { s with fare := { s.fare with clock := clockOf day minute second } } := by
  unfold setClock
  dsimp only
  split
  · rfl
  · rename_i other
    exact activationWatch_waits (h.resolve_left other)

/-- A SET_TIME that changes the minute and reaches a pending activation makes it (R204, R205). -/
theorem setClock_swaps {a : PendingAct} (other : ¬ SameMinute s.fare.clock day minute) (ha : s.fare.act = some a)
    (reached : a.day * 1440 + a.minute ≤ day.toNat * 1440 + minute) :
    setClock day minute second s =
      swap (.day a.day a.minute) (decide (a.day * 1440 + a.minute < day.toNat * 1440 + minute))
        { s with fare := { s.fare with clock := clockOf day minute second } } :=
  (if_neg other).trans (activationWatch_reached ha rfl reached)

end SetTime

theorem execSetTiming_set {x : SessTiming} (h : takes (.setTiming tag x) s = true) (ok : sessTimingInRange x = true) :
    execSetTiming tag x s = .next (answeredOnly 1 tag 22 .ok .empty
      { takeFrame s with sales := { s.sales with timing := x } }) := by
  rw [execSetTiming, request_taken h, if_pos ok]
  rfl

theorem execSetTiming_refused {x : SessTiming} (h : takes (.setTiming tag x) s = true) (out : ¬ sessTimingInRange x = true) :
    execSetTiming tag x s = .next (answeredOnly 1 tag 22 .range .empty (takeFrame s)) := by
  rw [execSetTiming, request_taken h, if_neg out]
  rfl

theorem sessTimingInRange_iff (x : SessTiming) : sessTimingInRange x = true ↔
    10 ≤ x.quoteLife ∧ x.quoteLife ≤ 300 ∧ 10 ≤ x.inactivity ∧ x.inactivity ≤ 300 ∧ 2 ≤ x.cardWait ∧ x.cardWait ≤ 30 ∧
      5 ≤ x.tearWindow ∧ x.tearWindow ≤ 300 := by
  simp only [sessTimingInRange, Bool.and_eq_true, decide_eq_true_eq, and_assoc]

theorem execLinkTiming_set {x : LinkTiming} (h : takes (.linkTiming tag x) s = true) (ok : linkTimingInRange x = true) :
    execLinkTiming tag x s = .next (answeredOnly 1 tag 23 .ok .empty
      { takeFrame s with link := { s.link with timing := x } }) := by
  rw [execLinkTiming, request_taken h, if_pos ok]
  rfl

theorem execLinkTiming_refused {x : LinkTiming} (h : takes (.linkTiming tag x) s = true) (out : linkTimingInRange x = false) :
    execLinkTiming tag x s = .next (answeredOnly 1 tag 23 .range .empty (takeFrame s)) := by
  rw [execLinkTiming, request_taken h, if_neg (Bool.eq_false_iff.1 out)]
  rfl

section SetMode
variable {x : Option Mode}

theorem execSetMode_protected (h : takes (.setMode tag x) s = true) (hm : s.port.mode = .serviceOpen) :
    execSetMode tag x s = .next (answeredOnly 1 tag 24 .protectedReq .empty (takeFrame s)) := by
  rw [execSetMode, request_taken h, if_pos (show (takeFrame s).port.mode = .serviceOpen from hm)]
  rfl

theorem execSetMode_refused (h : takes (.setMode tag x) s = true) (hm : s.port.mode ≠ .serviceOpen)
    (hx : x = none ∨ x = some .serviceOpen) :
    execSetMode tag x s = .next (answeredOnly 1 tag 24 .range .empty (takeFrame s)) := by
  rw [execSetMode, request_taken h, if_neg (show (takeFrame s).port.mode ≠ .serviceOpen from hm)]
  obtain rfl | rfl := hx <;> rfl

theorem execSetMode_set {m : Mode} (h : takes (.setMode tag (some m)) s = true) (hm : s.port.mode ≠ .serviceOpen)
    (target : m ≠ .serviceOpen) :
    execSetMode tag (some m) s = .next (answeredOnly 1 tag 24 .ok (.mode m)
      { takeFrame s with port := { (takeFrame s).port with mode := m } }) := by
  rw [execSetMode, request_taken h, if_neg (show (takeFrame s).port.mode ≠ .serviceOpen from hm)]
  cases m with
  | inService => rfl
  | outOfService => rfl
  | serviceOpen => exact absurd rfl target

end SetMode
end Settings
end Sys2Proof.Machine

namespace Sys2Proof.Proofs
open Sys2Proof Sys2Proof.Machine

/-- Settles O33: each request in its ranges and out of them, and the three forms of SET_TIME. -/
theorem settingRequests : Obligations.SettingRequests := by
  refine fun tag s => ⟨fun sets overrun h => ?_, fun day minute second h => ?_, fun x h => ?_, fun x h => ?_, fun x h => ?_⟩
  · refine ⟨clearFaults sets overrun (takeFrame s), execAckFaults_taken h, rfl, fun a => ?_⟩
    rw [periph_clearFaults]
    exact ⟨rfl, fun f => flagGet_flagsClear _ _ f⟩
  · refine ⟨execSetTime_refused h, fun hm hs quiet => ?_, fun a hm hs other ha reached => ?_⟩
    · refine (execSetTime_set h hm hs).trans ?_
      rw [setClock_quiet (s := takeFrame s) quiet]
      rfl
    · refine (execSetTime_set h hm hs).trans ?_
      rw [setClock_swaps (s := takeFrame s) other ha reached]
      rfl
  · rw [← sessTimingInRange_iff]
    exact ⟨execSetTiming_set h, execSetTiming_refused h⟩
  · exact ⟨execLinkTiming_set h, execLinkTiming_refused h⟩
  · refine ⟨execSetMode_protected h, execSetMode_refused h, fun m closed hx target => ?_⟩
    subst hx
    exact execSetMode_set h closed target

end Sys2Proof.Proofs

namespace Sys2Proof.Machine

/-! ### The verdict lists and the pass-through queue (R30, R180) -/

/-- A list keeps its size and its distinct numbers: entries leave it, or a new number joins it while there is room (R30). -/
theorem ListStep.keeps {l m : Lane} (step : ListStep l.list m.list) (h : LaneOk l) : LaneOk m := by
  obtain ⟨bounded, distinct⟩ := h
  obtain sub | ⟨e, joined, room, new⟩ := step
  · exact ⟨sub.length_le.trans bounded, distinct.sublist (sub.map _)⟩
  · refine ⟨by rw [joined, List.length_append]; exact room, ?_⟩
    rw [joined, List.map_append, List.map_singleton, List.nodup_append]
    refine ⟨distinct, List.nodup_singleton _, fun a ha b hb => ?_⟩
    obtain ⟨x, hx, rfl⟩ := List.mem_map.1 ha
    rw [List.mem_singleton.1 hb]
    exact new x hx

theorem PassStep.keeps {old new : List QueuedPass} (step : PassStep old new) (h : old.length ≤ Config.passCapacity) :
    new.length ≤ Config.passCapacity := by
  obtain sub | ⟨q, rfl, room⟩ := step
  · exact sub.length_le.trans h
  · rw [List.length_append]
    exact room

theorem laneOk_start : LaneOk Lane.start := ⟨Nat.zero_le _, List.nodup_nil⟩

/-- Only the watched parts count. -/
theorem QueuesOk.of_watched {s t : State} (e : watched t = watched s) (h : QueuesOk s) : QueuesOk t := by
  obtain ⟨a, b, passes⟩ := h
  have lists : t.coins.map (·.list) = s.coins.map (·.list) := congrArg Watched.lists e
  have ha : t.coins.a.list = s.coins.a.list := congrArg Pair.a lists
  have hb : t.coins.b.list = s.coins.b.list := congrArg Pair.b lists
  have hq : t.link.passQueue = s.link.passQueue := congrArg Watched.passQueue e
  exact ⟨by rwa [LaneOk, ha], by rwa [LaneOk, hb], by rwa [hq]⟩

theorem Move.keeps_queuesOk {s t : State} (m : Move s t) (h : QueuesOk s) : QueuesOk t := by
  obtain ⟨a, b, passes⟩ := h
  cases m with
  | unwatched same => exact .of_watched same ⟨a, b, passes⟩
  | clear => exact ⟨laneOk_start, laneOk_start, Nat.zero_le _⟩
  | list p change =>
    cases p with
    | A => exact ⟨change.keeps a, b, passes⟩
    | B => exact ⟨a, change.keeps b, passes⟩
  | passes change => exact ⟨a, b, change.keeps passes⟩
  | answer | notice | serve | take | keep | mode | door | doorLine | powerLoss | wipe | record | confirm | tick | setTime
  | timing | linkTiming | deny | entries | write => exact ⟨a, b, passes⟩

end Sys2Proof.Machine

namespace Sys2Proof.Proofs
open Sys2Proof Sys2Proof.Machine

/-- Settles O60: every step is a sequence of moves, and each kind of move keeps the lists and the queue within their sizes. -/
theorem verdictListsStayBounded : Obligations.VerdictListsStayBounded :=
  fun _ _ ok h => step_keeps Move.keeps_queuesOk h ok

end Sys2Proof.Proofs

namespace Sys2Proof.Machine

/-! ### What serving the masks, the device link and the transmit line leaves alone -/

/-- What a lane keeps when its mask is recomputed: all but the last mask sent. -/
structure LaneKept where
  list : List Outstanding
  spMask : BitVec 8
  last : Option (Byte × Verdict)
  rejects : Vector (BitVec 16) 9
  returnedLate : BitVec 16
  returnedFailed : BitVec 16

def laneKept (l : Lane) : LaneKept := ⟨l.list, l.spMask, l.last, l.rejects, l.returnedLate, l.returnedFailed⟩

/-- What serving keeps of the change store: all but the commanded DISPENSE and its polls. -/
structure ChangeKept where
  tubes : Vector Tube 6
  box : Box
  resv : Pair Reserve
  parityErrors : BitVec 16

def changeKept (c : ChangeStore) : ChangeKept := ⟨c.tubes, c.box, c.resv, c.parityErrors⟩

/-- What serving keeps of the device link. -/
structure LinkKept where
  lend : Option Lend
  timing : LinkTiming
  overrun : Bool
  writeOut : Pair (Option CardWrite)
  acked : Pair (Option (BitVec 8))
  lastWrite : Pair (Option CardId)
  passWrite : Pair (Option QueuedPass)

def linkKept (l : Link) : LinkKept := ⟨l.lend, l.timing, l.overrun, l.writeOut, l.acked, l.lastWrite, l.passWrite⟩

/-- What serving keeps of the print unit: all but the progress of what is printed. -/
structure PrintKept where
  queueNo : BitVec 32
  last : Option PrinterStatus
  void : Option Job
  printed : Vector (BitVec 16) 4
  failed : Vector (BitVec 16) 4

def printKept (u : PrintUnit) : PrintKept := ⟨u.queueNo, u.last, u.void, u.printed, u.failed⟩

/-- What serving keeps of the sale link port: all but its queues to send and the transmit line. -/
structure PortKept where
  mode : Mode
  doorOpen : Bool
  rx : List RxFrame
  startReq : Option StartCause
  counters : SaleCounters

def portKept (t : Port) : PortKept := ⟨t.mode, t.doorOpen, t.rx, t.startReq, t.counters⟩

/-- The parts of a state that serving leaves alone (`OnlyServed`). -/
structure Unserved where
  power : Bool
  resetHeld : Bool
  doorLine : Bool
  fare : Fare
  cash : Cash
  lanes : Pair LaneKept
  change : ChangeKept
  cards : Cards
  sales : Sales
  print : PrintKept
  journal : Journal
  link : LinkKept
  port : PortKept
  pending : List Instr

def unserved (s : State) : Unserved :=
  { power := s.power, resetHeld := s.resetHeld, doorLine := s.doorLine, fare := s.fare, cash := s.cash,
    lanes := s.coins.map laneKept, change := changeKept s.change, cards := s.cards, sales := s.sales,
    print := printKept s.print, journal := s.journal, link := linkKept s.link, port := portKept s.port,
    pending := s.pending }

theorem laneKept_of_map {s t : State} (h : t.coins.map laneKept = s.coins.map laneKept) (p : Position) :
    laneKept (lane p t) = laneKept (lane p s) := by
  cases p with
  | A => exact congrArg Pair.a h
  | B => exact congrArg Pair.b h

/-- `OnlyServed` says that the unserved parts are the same. -/
theorem onlyServed_of_unserved {s t : State} (h : unserved t = unserved s) : OnlyServed s t := by
  have hp := congrArg Unserved.port h
  have hc := congrArg Unserved.change h
  have hl := congrArg Unserved.link h
  have hu := congrArg Unserved.print h
  refine ⟨congrArg Unserved.power h, congrArg Unserved.resetHeld h, congrArg Unserved.doorLine h,
    congrArg Unserved.fare h, congrArg Unserved.cash h, congrArg ChangeKept.tubes hc, congrArg ChangeKept.box hc,
    congrArg ChangeKept.resv hc, congrArg ChangeKept.parityErrors hc, congrArg Unserved.cards h,
    congrArg Unserved.sales h, congrArg Unserved.journal h, congrArg Unserved.pending h, congrArg PortKept.mode hp,
    congrArg PortKept.doorOpen hp, congrArg PortKept.rx hp, congrArg PortKept.startReq hp,
    congrArg PortKept.counters hp, congrArg LinkKept.lend hl, congrArg LinkKept.timing hl, congrArg LinkKept.overrun hl,
    congrArg LinkKept.writeOut hl, congrArg LinkKept.acked hl, congrArg LinkKept.lastWrite hl,
    congrArg LinkKept.passWrite hl, fun p => ?_, congrArg PrintKept.queueNo hu, congrArg PrintKept.last hu,
    congrArg PrintKept.void hu, congrArg PrintKept.printed hu, congrArg PrintKept.failed hu⟩
  have hq := laneKept_of_map (congrArg Unserved.lanes h) p
  exact ⟨congrArg LaneKept.list hq, congrArg LaneKept.spMask hq, congrArg LaneKept.last hq,
    congrArg LaneKept.rejects hq, congrArg LaneKept.returnedLate hq, congrArg LaneKept.returnedFailed hq⟩

section Unserved
variable (s : State)

@[simp] theorem notify_unserved (c : Nat) (b : NoticeBody) : unserved (notify c b s) = unserved s := by
  have port : portKept (notify c b s).port = portKept s.port := by
    simp only [notify, onPort_port]
    split
    · rfl
    · split <;> rfl
  simp only [unserved, port]
  rfl

@[simp] theorem finish_unserved : unserved (finish s) = unserved s := by
  have next (t : Port) : portKept (nextFrame t) = portKept t := by
    unfold nextFrame
    split
    · rfl
    · split <;> rfl
  have port : portKept (finish s).port = portKept s.port := by
    rw [finish_port]
    cases s.port.tx with
    | idle => exact next s.port
    | answer a => rfl
    | notice no n => rfl
  rw [finish_eq]
  simp only [unserved, port]

@[simp] theorem onPeriph_unserved (a : Addr) (f : Peripheral → Peripheral) :
    unserved (onPeriph a f s) = unserved s := rfl

@[simp] theorem raiseFault_unserved (a : Addr) (f : Flag) : unserved (raiseFault a f s) = unserved s := by
  unfold raiseFault
  split
  · rfl
  · rw [notify_unserved, onPeriph_unserved]

theorem onLink_unserved (f : Link → Link) (h : ∀ l, linkKept (f l) = linkKept l) : unserved (onLink f s) = unserved s := by
  simp only [unserved, onLink, h]

theorem onLane_unserved (p : Position) (f : Lane → Lane) (h : ∀ l, laneKept (f l) = laneKept l) :
    unserved (onLane p f s) = unserved s := by
  cases p <;> simp only [unserved, onLane, Pair.map, Pair.modify, Pair.set, Pair.get, h]

@[simp] theorem onProgress_unserved (f : Progress → Progress) : unserved (onProgress f s) = unserved s := by
  unfold onProgress
  split <;> rfl

@[simp] theorem unready_unserved (r : ReadyFrame) : unserved (unready r s) = unserved s := by
  unfold unready
  split
  case h_7 => exact onProgress_unserved s _
  case h_8 => exact onProgress_unserved s _
  all_goals rfl

@[simp] theorem sendMask_unserved (p : Position) (m : BitVec 8) : unserved (sendMask p m s) = unserved s := by
  unfold sendMask
  split <;> rfl

@[simp] theorem changeMask_unserved (p : Position) (m : BitVec 8) : unserved (changeMask p m s) = unserved s := by
  unfold changeMask
  split
  · split
    · exact (onLink_unserved _ _ fun _ => rfl).trans (sendMask_unserved s p m)
    · exact sendMask_unserved s p m
  · split
    · rfl
    · exact sendMask_unserved s p m

@[simp] theorem recompute_unserved (p : Position) (rise : Option Rise) : unserved (recompute p rise s) = unserved s := by
  have sent : unserved (changeMask p (effectiveMask p s) (onLane p (fun l => { l with lastMask := effectiveMask p s }) s)) =
      unserved s := (changeMask_unserved _ p _).trans (onLane_unserved s p _ fun _ => rfl)
  unfold recompute
  dsimp only
  split
  · split
    · rw [notify_unserved]; split <;> [exact sent; rfl]
    · split
      · rw [notify_unserved]; exact sent
      · rfl
  · split
    · rw [notify_unserved]; exact sent
    · rfl

@[simp] theorem masks_unserved (rise : Option Rise) : unserved (masks rise s) = unserved s := by
  simp only [masks, recompute_unserved]

@[simp] theorem standIn_unserved (p : Position) : unserved (standIn p s) = unserved s := by
  obtain e | ⟨age, c, -, -, ⟨-, e⟩ | ⟨-, -, e⟩⟩ := standIn_cases p s <;> rw [e] <;> rfl

@[simp] theorem defer_unserved (r : ReadyFrame) : unserved (defer r s) = unserved s := by
  unfold defer
  refine (onLink_unserved _ _ fun _ => rfl).trans ?_
  split
  · rfl
  · exact raiseFault_unserved _ _ _

@[simp] theorem handOut_unserved (busy : Bool) : unserved (handOut busy s) = unserved s := by
  unfold handOut
  split
  · split
    · rfl
    · split
      · rfl
      · split
        · exact defer_unserved _ _
        · exact (onLink_unserved _ _ fun _ => rfl).trans (unready_unserved _ _)
  all_goals rfl

@[simp] theorem settle_unserved (busy : Bool) : unserved (settle busy s) = unserved s := by
  simp only [settle, arbitrate, finish_unserved, handOut_unserved, standIn_unserved]

end Unserved

/-! ### Which coins a mask enables (R38) -/

theorem getLsbD_one_shiftLeft : ∀ d c : Fin 8, (1#8 <<< d.val).getLsbD c.val = decide (c = d) := by decide

theorem getLsbD_foldl_mask (f : Fin 8 → Bool) (c : Fin 8) (xs : List (Fin 8)) (m : BitVec 8) :
    (xs.foldl (fun m d => if f d then m ||| (1#8 <<< d.val) else m) m).getLsbD c.val =
      (m.getLsbD c.val || decide (c ∈ xs) && f c) := by
  induction xs generalizing m with
  | nil => simp
  | cons d ds ih =>
    have head : (if f d then m ||| (1#8 <<< d.val) else m).getLsbD c.val = (m.getLsbD c.val || decide (c = d) && f d) := by
      split
      · rename_i hf
        rw [BitVec.getLsbD_or, getLsbD_one_shiftLeft, hf, Bool.and_true]
      · rename_i hf
        rw [Bool.eq_false_iff.2 hf, Bool.and_false, Bool.or_false]
    rw [List.foldl_cons, ih, head]
    by_cases hd : c = d
    · subst hd
      simp only [List.mem_cons, true_or, decide_true, Bool.true_and]
      cases m.getLsbD c.val <;> cases f c <;> simp
    · simp [hd]

/-- A mask holds the coin types that satisfy its condition. -/
theorem getLsbD_maskOf (f : Fin 8 → Bool) (c : Fin 8) : (maskOf f).getLsbD c.val = f c := by
  have listed : c ∈ eights := by revert c; decide
  rw [maskOf, getLsbD_foldl_mask, decide_eq_true listed, Bool.true_and]
  exact Bool.or_eq_right_iff_imp.2 fun h => by simp at h

/-- The tube that a coin of type c is routed to can take it (R28). -/
def TubeOpen (c : Fin 8) (s : State) : Prop :=
  ∃ t, (coinType c s).route = some t ∧ (tube t s).ctype = some c ∧ (tube t s).state ≠ .jammed ∧
    (tube t s).state ≠ .disabled ∧ (tube t s).count + arrivals (.tube t) s < (tube t s).capacity

theorem destination_tube {c : Fin 8} {t : Fin 6} {s : State} (h : destination c s = .tube t) : TubeOpen c s := by
  unfold destination at h
  split at h
  · cases h
  · rename_i u route
    split at h
    · exact ⟨u, route, ‹_›⟩
    · cases h

theorem destination_of_tubeOpen {c : Fin 8} {s : State} (h : TubeOpen c s) : ∃ t, destination c s = .tube t := by
  obtain ⟨t, route, takes⟩ := h
  exact ⟨t, by simp only [destination, route]; exact if_pos takes⟩

/-- A coin has a destination where its tube takes it, or the box does (R28). -/
theorem destinationOpen_iff (c : Fin 8) (s : State) :
    destinationOpen c s = true ↔
      TubeOpen c s ∨ s.change.box.present = true ∧ s.change.box.count + arrivals .box s < s.cash.limit := by
  unfold destinationOpen
  split
  · rename_i t ht
    simp only [true_iff]
    exact .inl (destination_tube ht)
  · rename_i box
    have shut : ¬ TubeOpen c s := fun h => by
      obtain ⟨t, ht⟩ := destination_of_tubeOpen h
      rw [box] at ht
      cases ht
    simp only [shut, false_or, boxTakes, Bool.and_eq_true, decide_eq_true_eq]

theorem partEnables_iff (p : Position) (c : Fin 8) (s : State) :
    let v := (coinType c s).value
    let rest := (sess p s).due - pledged p s
    partEnables p s c = true ↔ 0 < v ∧ (sess p s).state = .collecting ∧ pledged p s < (sess p s).due ∧
      destinationOpen c s = true ∧ (v ≤ rest ∨ ∃ pl, planAt s p (v - rest) = some pl) := by
  simp only [partEnables, Bool.and_eq_true, Bool.or_eq_true, decide_eq_true_eq, Option.isSome_iff_exists, and_assoc]

/-- The effective mask holds what the part enables while it collects with no lend in force, and the sale processor enables. -/
theorem effectiveMask_iff (p : Position) (c : Fin 8) (s : State) :
    (effectiveMask p s).getLsbD c.val = true ↔
      s.link.lend = none ∧ partEnables p s c = true ∧ (lane p s).spMask.getLsbD c.val = true := by
  simp only [effectiveMask, BitVec.getLsbD_and, Bool.and_eq_true, ← and_assoc]
  refine and_congr_left fun _ => ?_
  unfold partMask
  split
  · rename_i off
    have shut : ¬ (s.link.lend = none ∧ partEnables p s c = true) := fun ⟨free, enables⟩ => by
      obtain ⟨-, collecting, -⟩ := (partEnables_iff p c s).1 enables
      simp [lent, free, collecting] at off
    simp [shut]
  · rename_i on
    have free : s.link.lend = none := by
      simp only [not_or, lent, Bool.not_eq_true, Option.isSome_eq_false_iff, Option.isNone_iff_eq_none] at on
      exact on.1
    simp only [getLsbD_maskOf, free, true_and]

/-! ### What a changed mask sends (R41) -/

theorem Pair.set_set {α : Type} (x : Pair α) (p : Position) (v w : α) : (x.set p v).set p w = x.set p w := by
  cases p <;> rfl

/-- The INHIBIT that waits for p's validator. -/
def waitInhibit (p : Position) (x : Option (Nat × BitVec 8)) (s : State) : State :=
  onLink (fun l => { l with inhibit := l.inhibit.set p x }) s

/-- The INHIBIT in its exchange, as it stays waiting if it is left unanswered. -/
def keepInhibit (p : Position) (x : Option (Nat × BitVec 8)) (s : State) : State :=
  onLink (fun l => { l with inhibitKept := l.inhibitKept.set p x }) s

theorem sendMask_offline {p : Position} {m : BitVec 8} {s : State} (h : (periph (valAddr p) s).state ≠ .online) :
    sendMask p m s = s := by
  simp [sendMask, online, h]

theorem sendMask_waiting {p : Position} {m : BitVec 8} {s : State} (h : (periph (valAddr p) s).state = .online)
    (out : inhibitOut p s = false) : sendMask p m s = waitInhibit p (takeSet m s (s.link.inhibit.get p)) s := by
  simp [sendMask, online, h, out, waitInhibit, onLink]

theorem sendMask_inExchange {p : Position} {m : BitVec 8} {s : State} (h : (periph (valAddr p) s).state = .online)
    (out : inhibitOut p s = true) :
    sendMask p m s = keepInhibit p (takeSet m s (s.link.inhibitKept.get p))
      (waitInhibit p (takeSet m s (s.link.inhibit.get p)) s) := by
  simp [sendMask, online, h, out, waitInhibit, keepInhibit, onLink]

theorem keepInhibit_keepInhibit (p : Position) (x y : Option (Nat × BitVec 8)) (s : State) :
    keepInhibit p y (keepInhibit p x s) = keepInhibit p y s := by
  simp only [keepInhibit, onLink, Pair.set_set]

/-- What becomes of the waiting INHIBIT, and of the one in its exchange, at a changed mask (R41). -/
theorem changeMask_eq (p : Position) (m : BitVec 8) (s : State) :
    changeMask p m s =
      if inhibitOut p s = true then
        (if (s.link.inhibitKept.get p).isSome = true ∧ s.link.acked.get p = some m then keepInhibit p none
         else if (periph (valAddr p) s).state = .online then keepInhibit p (takeSet m s (s.link.inhibitKept.get p)) else id)
        ((if (periph (valAddr p) s).state = .online then waitInhibit p (takeSet m s (s.link.inhibit.get p)) else id) s)
      else if (s.link.inhibit.get p).isSome = true ∧ s.link.acked.get p = some m then waitInhibit p none s
      else if (periph (valAddr p) s).state = .online then waitInhibit p (takeSet m s (s.link.inhibit.get p)) s
      else s := by
  have withdrawn (x : Option (Nat × BitVec 8)) : withdraws p m x s = true ↔ x.isSome = true ∧ s.link.acked.get p = some m := by
    simp only [withdraws, Bool.and_eq_true, decide_eq_true_eq]
  unfold changeMask
  by_cases out : inhibitOut p s = true
  · by_cases on : (periph (valAddr p) s).state = .online
    · simp only [withdrawn, out, on, if_true, sendMask_inExchange on out]
      split
      · exact keepInhibit_keepInhibit _ _ _ _
      · rfl
    · simp only [withdrawn, out, on, if_true, if_false, sendMask_offline on]
      split <;> rfl
  · rw [if_neg out, if_neg out]
    simp only [withdrawn]
    split
    · rfl
    · by_cases on : (periph (valAddr p) s).state = .online
      · rw [if_pos on, sendMask_waiting on (Bool.eq_false_iff.2 out)]
      · rw [if_neg on, sendMask_offline on]

/-- A changed mask is taken as the last and sent. -/
def maskSent (p : Position) (s : State) : State :=
  changeMask p (effectiveMask p s) (onLane p (fun l => { l with lastMask := effectiveMask p s }) s)

/-- A recomputation at a rise of p's own credit (R39). -/
theorem recompute_rise {p : Position} {r : Rise} (h : r.pos = p) (s : State) :
    recompute p (some r) s = notify 0 (.credit p r.credit r.due (effectiveMask p s))
      (if effectiveMask p s ≠ (lane p s).lastMask then maskSent p s else s) := by
  simp only [recompute, h, if_true, decide_eq_true_eq]
  rfl

/-- A recomputation with no rise of p's credit (R39). -/
theorem recompute_quiet {p : Position} {rise : Option Rise} (h : ∀ r, rise = some r → r.pos ≠ p) (s : State) :
    recompute p rise s = if effectiveMask p s ≠ (lane p s).lastMask
      then notify 0 (.credit p (sess p s).credit (sess p s).due (effectiveMask p s)) (maskSent p s) else s := by
  unfold recompute maskSent
  dsimp only
  split
  · rename_i r
    rw [if_neg (h r rfl)]
    simp only [decide_eq_true_eq]
    split <;> rfl
  · simp only [decide_eq_true_eq]
    split <;> rfl

end Sys2Proof.Machine

namespace Sys2Proof.Proofs
open Sys2Proof Sys2Proof.Machine

/-- Settles O3: every operation of serving keeps the unserved parts; a mask's bits are the part's conditions; and a recomputation is
one of four equations. -/
theorem servingKeepsTheRest : Obligations.ServingKeepsTheRest := by
  refine ⟨fun busy rise s => ?_, fun p c s => ?_, fun p rise s => ⟨fun quiet => ⟨fun same => ?_, fun new => ?_⟩, ?_⟩⟩
  · exact onlyServed_of_unserved (by rw [settle_unserved, masks_unserved])
  · have enables := partEnables_iff p c s
    rw [destinationOpen_iff] at enables
    dsimp only at enables ⊢
    rw [effectiveMask_iff, enables]
    simp only [and_assoc]
    rfl
  · rw [recompute_quiet quiet, if_neg (not_not.2 same)]
  · rw [recompute_quiet quiet, if_pos new, maskSent, changeMask_eq]
    rfl
  · rintro r rfl rise
    refine ⟨fun same => ?_, fun new => ?_⟩
    · rw [recompute_rise rise, if_neg (not_not.2 same)]
    · rw [recompute_rise rise, if_pos new, maskSent, changeMask_eq]
      rfl

end Sys2Proof.Proofs

namespace Sys2Proof.Machine

/-! ### A coin at the gate (R24–R30, R37) -/

section Gate
variable {p : Position} {q : Byte} {r : GateReading} {c : Fin 8} {s : State}

/-- A listed number has its ACCEPT again (R24). -/
theorem knownVerdict_listed {e : Outstanding} (h : findEntry p q s = some e) : knownVerdict p q s = some (.accept e.dest) := by
  unfold knownVerdict
  rw [show (lane p s).list.find? (fun e => decide (e.seq = q)) = some e from h]

theorem findEntry_eq_none : findEntry p q s = none ↔ ∀ e ∈ (lane p s).list, e.seq ≠ q := by
  simp only [findEntry, List.find?_eq_none, decide_eq_true_eq, ne_eq]

/-- The last number has its verdict again (R24). -/
theorem knownVerdict_last {v : Verdict} (unlisted : ∀ e ∈ (lane p s).list, e.seq ≠ q) (h : (lane p s).last = some (q, v)) :
    knownVerdict p q s = some v := by
  unfold knownVerdict
  rw [show (lane p s).list.find? (fun e => decide (e.seq = q)) = none from findEntry_eq_none.2 unlisted, h]
  exact if_pos rfl

/-- A number that is neither listed nor the last is new (R24). -/
theorem knownVerdict_new (unlisted : ∀ e ∈ (lane p s).list, e.seq ≠ q) (fresh : ∀ v, (lane p s).last ≠ some (q, v)) :
    knownVerdict p q s = none := by
  unfold knownVerdict
  rw [show (lane p s).list.find? (fun e => decide (e.seq = q)) = none from findEntry_eq_none.2 unlisted]
  dsimp only
  split
  · rename_i x v last
    exact if_neg fun (e : x = q) => fresh v (e ▸ last)
  · rfl

theorem mem_eights (c : Fin 8) : c ∈ eights := by revert c; decide

theorem filter_eights_eq (c : Fin 8) : eights.filter (fun d => decide (d = c)) = [c] := by revert c; decide

theorem mem_candidates : c ∈ eights.filter (fun c => candidate r (coinType c s)) ↔ candidate r (coinType c s) = true := by
  simp only [List.mem_filter, mem_eights, true_and]

theorem classify_unknown (h : ∀ c, candidate r (coinType c s) = false) : classify s.cash.types r = .error .unknown := by
  have none : eights.filter (fun c => candidate r (vget s.cash.types c)) = [] := by
    rw [List.filter_eq_nil_iff]
    exact fun c _ => Bool.eq_false_iff.1 (h c)
  rw [classify, none]

theorem classify_ambiguous {d : Fin 8} (ne : c ≠ d) (hc : candidate r (coinType c s) = true)
    (hd : candidate r (coinType d s) = true) : classify s.cash.types r = .error .ambiguous := by
  have mc := mem_candidates.2 hc
  have md := mem_candidates.2 hd
  change c ∈ eights.filter (fun c => candidate r (vget s.cash.types c)) at mc
  change d ∈ eights.filter (fun c => candidate r (vget s.cash.types c)) at md
  unfold classify
  split
  · rename_i none
    rw [none] at mc
    cases mc
  · rename_i one
    rw [one, List.mem_singleton] at mc md
    exact absurd (mc.trans md.symm) ne
  · rfl

theorem classify_sole (hc : candidate r (coinType c s) = true) (sole : ∀ d, d ≠ c → candidate r (coinType d s) = false) :
    classify s.cash.types r =
      if noisy r (coinType c s) ∧ (coinType c s).strict = true then .error .noise else .ok c := by
  have same (d : Fin 8) : candidate r (vget s.cash.types d) = decide (d = c) := by
    by_cases hd : d = c
    · subst hd
      rw [decide_eq_true rfl]
      exact hc
    · rw [decide_eq_false hd]
      exact sole d hd
  have one : eights.filter (fun d => candidate r (vget s.cash.types d)) = [c] := by
    simp only [same, filter_eights_eq]
  rw [classify, one]
  rfl

theorem coinAtGate_repeated {v : Verdict} (h : knownVerdict p q s = some v) :
    coinAtGate p q r s = (sendVerdict p q v s, .repeated) := by
  rw [coinAtGate, h]

theorem coinAtGate_unclassified {x : RejectReason} (new : knownVerdict p q s = none)
    (h : classify s.cash.types r = .error x) :
    coinAtGate p q r s = (rejectCoin p q x s, .verdict (.reject x)) := by
  rw [coinAtGate, new]
  simp only [h]

theorem coinAtGate_rejected {x : RejectReason} (new : knownVerdict p q s = none) (type : classify s.cash.types r = .ok c)
    (h : decideCoin p c s = .error x) : coinAtGate p q r s = (rejectCoin p q x s, .verdict (.reject x)) := by
  rw [coinAtGate, new]
  simp only [type, h]

theorem coinAtGate_accepted {d : Dest} {plan : Option (Plan × Nat)} (new : knownVerdict p q s = none)
    (type : classify s.cash.types r = .ok c) (h : decideCoin p c s = .ok (d, plan)) :
    coinAtGate p q r s = (acceptCoin p q c d plan s, .verdict (.accept d)) := by
  rw [coinAtGate, new]
  simp only [type, h]

theorem decideCoin_state (idle : (sess p s).state ≠ .collecting) : decideCoin p c s = .error .state := if_pos idle

section Collecting
variable (collecting : (sess p s).state = .collecting)
include collecting

theorem decideCoin_busy (full : Config.verdictCapacity ≤ (lane p s).list.length) : decideCoin p c s = .error .busy := by
  rw [decideCoin, if_neg (not_not.2 collecting), if_pos full]

theorem decideCoin_inhibited (room : (lane p s).list.length < Config.verdictCapacity)
    (off : (lane p s).spMask.getLsbD c.val = false) : decideCoin p c s = .error .inhibited := by
  rw [decideCoin, if_neg (not_not.2 collecting), if_neg (Nat.not_le.2 room), if_pos (show inMask _ _ = false from off)]

theorem decideCoin_boxFull (room : (lane p s).list.length < Config.verdictCapacity)
    (on : (lane p s).spMask.getLsbD c.val = true) (shut : destinationOpen c s = false) :
    decideCoin p c s = .error .boxFull := by
  rw [decideCoin, if_neg (not_not.2 collecting), if_neg (Nat.not_le.2 room), if_neg (by simp [inMask, on]), if_pos shut]

end Collecting

/-- The first five checks of a classified coin pass (R27, R28). -/
structure CoinPlaced (p : Position) (c : Fin 8) (s : State) : Prop where
  collecting : (sess p s).state = .collecting
  room : (lane p s).list.length < Config.verdictCapacity
  enabled : (lane p s).spMask.getLsbD c.val = true
  placed : destinationOpen c s = true

theorem decideCoin_paid (h : CoinPlaced p c s) (paid : (sess p s).due ≤ pledged p s) :
    decideCoin p c s = .error .paid := by
  rw [decideCoin, if_neg (not_not.2 h.collecting), if_neg (Nat.not_le.2 h.room), if_neg (by simp [inMask, h.enabled]),
    if_neg (by simp [h.placed]), if_pos paid]

section Owing
variable (h : CoinPlaced p c s) (owing : pledged p s < (sess p s).due)
include h owing

/-- With an amount still owing, the coin's value decides (R29). -/
theorem decideCoin_owing {d : Except RejectReason (Dest × Option (Plan × Nat))}
    (within : pledged p s + (coinType c s).value ≤ (sess p s).due → d = .ok (destination c s, none))
    (above : (sess p s).due < pledged p s + (coinType c s).value →
      ∀ x, planAt s p (pledged p s + (coinType c s).value - (sess p s).due) = x →
        d = x.elim (.error .change)
          fun pl => .ok (destination c s, some (pl, pledged p s + (coinType c s).value - (sess p s).due))) :
    decideCoin p c s = d := by
  rw [decideCoin, if_neg (not_not.2 h.collecting), if_neg (Nat.not_le.2 h.room), if_neg (by simp [inMask, h.enabled]),
    if_neg (by simp [h.placed]), if_neg (Nat.not_le.2 owing)]
  split
  · exact (within ‹_›).symm
  · rename_i high
    split <;> exact (above (Nat.not_le.1 high) _ ‹_›).symm

theorem decideCoin_fits (fits : pledged p s + (coinType c s).value ≤ (sess p s).due) :
    decideCoin p c s = .ok (destination c s, none) :=
  decideCoin_owing h owing (fun _ => rfl) fun above => absurd fits (Nat.not_le.2 above)

theorem decideCoin_change (above : (sess p s).due < pledged p s + (coinType c s).value)
    (none : planAt s p (pledged p s + (coinType c s).value - (sess p s).due) = none) :
    decideCoin p c s = .error .change :=
  decideCoin_owing h owing (fun fits => absurd fits (Nat.not_le.2 above)) fun _ x hx => by rw [← hx, none]; rfl

theorem decideCoin_planned {pl : Plan} (above : (sess p s).due < pledged p s + (coinType c s).value)
    (plan : planAt s p (pledged p s + (coinType c s).value - (sess p s).due) = some pl) :
    decideCoin p c s = .ok (destination c s, some (pl, pledged p s + (coinType c s).value - (sess p s).due)) :=
  decideCoin_owing h owing (fun fits => absurd fits (Nat.not_le.2 above)) fun _ x hx => by rw [← hx, plan]; rfl

end Owing

theorem acceptCoin_lane {d : Dest} {plan : Option (Plan × Nat)} :
    lane p (acceptCoin p q c d plan s) = { lane p s with
      list := (lane p s).list ++ [⟨q, c, (coinType c s).value, d, (sess p s).serial⟩], last := some (q, .accept d) } := by
  cases plan <;> cases p <;> rfl

theorem acceptCoin_resv {d : Dest} {pl : Plan} {n : Nat} :
    resv p (acceptCoin p q c d (some (pl, n)) s) = { resv p s with
      mode := .provisional, plan := pl, amount := n,
      reserved := vtab (fun t => max (vget (resv p s).cover t) (planCount pl t)) } := by
  cases p <;> rfl

end Gate
end Sys2Proof.Machine

namespace Sys2Proof.Proofs
open Sys2Proof Sys2Proof.Machine

/-- Settles O46: a known number is answered again, a new one is classified, and a classified coin takes the first of the checks that
applies. -/
theorem coinAtGate : Obligations.CoinAtGate := by
  intro p seq r s send rejected new
  refine ⟨fun e listed => coinAtGate_repeated (knownVerdict_listed listed),
    fun unlisted v last => coinAtGate_repeated (knownVerdict_last unlisted last), fun ⟨unlisted, fresh⟩ => ?_⟩
  have known := knownVerdict_new unlisted fresh
  refine ⟨fun none => coinAtGate_unclassified known (classify_unknown none),
    fun c d ne hc hd => coinAtGate_unclassified known (classify_ambiguous ne hc hd), fun c hc sole => ?_⟩
  have type := classify_sole hc sole
  intro v due quiet collecting room enabled placed owing
  have typed (h : quiet) : classify s.cash.types r = .ok c := by
    rw [type, if_neg]
    rintro ⟨loud, strict⟩
    exact h.elim (fun h => by simp [h] at loud) (fun h => by simp [h] at strict)
  have able (h : placed) : CoinPlaced p c s ∧ classify s.cash.types r = .ok c := by
    obtain ⟨⟨⟨⟨h, collects⟩, free⟩, on⟩, fits⟩ := h
    exact ⟨⟨collects, free, on, fits⟩, typed h⟩
  refine ⟨fun loud strict => ?_, fun h idle => ?_, fun h full => ?_, fun h off => ?_, fun h shut => ?_, fun h paid => ?_,
    fun h above none => ?_, fun h fits => ?_, fun pl h above plan => ?_⟩
  · exact coinAtGate_unclassified known (by rw [type, if_pos ⟨loud, strict⟩])
  · exact coinAtGate_rejected known (typed h) (decideCoin_state idle)
  · obtain ⟨h, collects⟩ := h
    exact coinAtGate_rejected known (typed h) (decideCoin_busy collects full)
  · obtain ⟨⟨h, collects⟩, free⟩ := h
    exact coinAtGate_rejected known (typed h) (decideCoin_inhibited collects free off)
  · obtain ⟨⟨⟨h, collects⟩, free⟩, on⟩ := h
    exact coinAtGate_rejected known (typed h) (decideCoin_boxFull collects free on shut)
  · obtain ⟨able, typed⟩ := able h
    exact coinAtGate_rejected known typed (decideCoin_paid able paid)
  · obtain ⟨h, owes⟩ := h
    obtain ⟨able, typed⟩ := able h
    exact coinAtGate_rejected known typed (decideCoin_change able owes above none)
  · obtain ⟨h, owes⟩ := h
    obtain ⟨able, typed⟩ := able h
    exact coinAtGate_accepted known typed (decideCoin_fits able owes fits)
  · obtain ⟨h, owes⟩ := h
    obtain ⟨able, typed⟩ := able h
    have accepted := coinAtGate_accepted (r := r) known typed (decideCoin_planned able owes above plan)
    rw [accepted, acceptCoin_lane, acceptCoin_resv]
    exact ⟨rfl, rfl, rfl, rfl, rfl, fun t => vget_vtab _ t⟩

end Sys2Proof.Proofs

namespace Sys2Proof.Machine

/-! ### Addresses and the lowest of eight (R179, R145) -/

theorem addrOf_addrNumber (a : Addr) : addrOf (addrNumber a) = some a := by cases a <;> rfl

theorem addrOf_eq_none {n : Nat} (h : n = 0 ∨ 6 < n) : addrOf n = none := by
  unfold addrOf
  split <;> grind

theorem eights_split : ∀ i : Fin 8, eights = eights.take i.val ++ i :: eights.drop (i.val + 1) := by decide

theorem mem_take_eights : ∀ i k : Fin 8, k ∈ eights.take i.val → k.val < i.val := by decide

/-- The lowest of the eight that satisfies a condition comes first of those that do. -/
theorem filter_eights_cons {f : Fin 8 → Bool} {i : Fin 8} (hi : f i = true) (low : ∀ k : Fin 8, k.val < i.val → f k = false) :
    eights.filter f = i :: (eights.drop (i.val + 1)).filter f := by
  have none : (eights.take i.val).filter f = [] := by
    rw [List.filter_eq_nil_iff]
    exact fun k hk => Bool.eq_false_iff.1 (low k (mem_take_eights i k hk))
  conv => lhs; rw [eights_split i, List.filter_append, none, List.nil_append, List.filter_cons_of_pos hi]

/-- The lowest FREE slot comes first of the FREE slots (R134). -/
theorem freeSlots_cons {i : Fin 8} {s : State} (hi : slotOf i s = .free) (low : ∀ k : Fin 8, k.val < i.val → slotOf k s ≠ .free) :
    ∃ rest, freeSlots s = i :: rest :=
  ⟨_, filter_eights_cons (decide_eq_true hi) fun k hk => decide_eq_false (low k hk)⟩

/-! ### Pass frames (R40, R145, R179, R180) -/

section PassFrame
variable {tag : Byte} {f : PassFrame} {a : Addr} {busy : Bool} {s : State}

theorem execPassFrame_badLength (h : takes (.passFrame tag f busy) s = true) (long : 64 < f.body.length) :
    execPassFrame tag f s busy = .next (answeredOnly 2 tag 1 .badLength .empty (takeFrame s)) := by
  rw [execPassFrame, request_taken h, if_pos (show Config.linkBody < _ from long)]
  rfl

theorem execPassFrame_range (h : takes (.passFrame tag f busy) s = true) (short : f.body.length ≤ 64)
    (addr : addrOf f.addr = none) :
    execPassFrame tag f s busy = .next (answeredOnly 2 tag 1 .range .empty (takeFrame s)) := by
  rw [execPassFrame, request_taken h, if_neg (Nat.not_lt.2 (show _ ≤ Config.linkBody from short))]
  simp only [addr]
  rfl

theorem execPassFrame_taken (h : takes (.passFrame tag f busy) s = true) (short : f.body.length ≤ 64)
    (addr : addrOf f.addr = some a) :
    execPassFrame tag f s busy = .next (settle busy (masks none (passTaken tag a f (takeFrame s)))) := by
  rw [execPassFrame, request_taken h, if_neg (Nat.not_lt.2 (show _ ≤ Config.linkBody from short))]
  simp only [addr]
  rfl

theorem acceptPass_full {unfiltered : Bool} (full : 8 ≤ s.link.passQueue.length) :
    acceptPass tag a f unfiltered s = passAnswer tag .busy .empty s := if_pos full

theorem acceptPass_room {unfiltered : Bool} (room : s.link.passQueue.length < 8) :
    acceptPass tag a f unfiltered s =
      onLink (fun l => { l with passQueue := l.passQueue ++ [⟨tag, a, f.code, f.body, unfiltered⟩] }) s :=
  if_neg (Nat.not_le.2 room)

theorem passTaken_lent {d : Lend} (lend : s.link.lend = some d) (same : d.addr = a) :
    passTaken tag a f s = acceptPass tag a f true s := by
  simp only [passTaken, lend, same, if_true]

theorem passTaken_lentAway {d : Lend} (lend : s.link.lend = some d) (away : d.addr ≠ a) :
    passTaken tag a f s = passAnswer tag .linkLent .empty s := by
  simp only [passTaken, lend, away, if_false]

theorem passTaken_missing (free : s.link.lend = none) (off : (periph a s).state ≠ .online) :
    passTaken tag a f s = passAnswer tag .peripheralMissing .empty s := by
  simp only [passTaken, free, online, off, decide_false, if_true]

section Online
variable (free : s.link.lend = none) (on : (periph a s).state = .online)
include free on

theorem passTaken_drop (verdict : passVerdict a f.code s = .drop) :
    passTaken tag a f s = passAnswer tag .refusedByTable .empty s := by
  simp [passTaken, free, online, on, verdict]

theorem passTaken_pass (verdict : passVerdict a f.code s = .pass) : passTaken tag a f s = acceptPass tag a f false s := by
  simp [passTaken, free, online, on, verdict]

theorem passTaken_merge (verdict : passVerdict a f.code s = .merge) : passTaken tag a f s = mergeMask tag a f.enable s := by
  simp [passTaken, free, online, on, verdict]

theorem passTaken_queue (verdict : passVerdict a f.code s = .queue) : passTaken tag a f s = freeText tag a f.lines s := by
  simp [passTaken, free, online, on, verdict]

end Online

theorem mergeMask_validator (p : Position) (m : BitVec 8) :
    mergeMask tag (valAddr p) m s = passAnswer tag .ok .empty (onLane p (fun l => { l with spMask := m }) s) := by
  cases p <;> rfl

/-! ### FREE_TEXT (R145) -/

/-- The lines of a FREE_TEXT are within their number and length (R145). -/
def LinesFit (lines : List Text) : Prop := lines ≠ [] ∧ lines.length ≤ 12 ∧ ∀ l ∈ lines, l.length ≤ 48

theorem linesFit_iff (lines : List Text) : LinesFit lines ↔
    ¬ (lines = [] ∨ 12 < lines.length ∨ lines.any (fun l => decide (48 < l.length)) = true) := by
  simp only [LinesFit, List.any_eq_true, decide_eq_true_eq, not_or, not_exists, not_and, Nat.not_lt, ne_eq]

theorem freeTextCheck_badLength {lines : List Text} (h : ¬ LinesFit lines) : freeTextCheck lines s = some .badLength := by
  rw [linesFit_iff, not_not] at h
  exact if_pos h

/-- The printer is out of paper or jammed (R145). -/
def PrinterStuck (s : State) : Prop := s.print.last = some .paperOut ∨ s.print.last = some .jammed

section Listed
variable {lines : List Text} (listed : LinesFit lines)
include listed

theorem freeTextCheck_unavailable (stuck : PrinterStuck s) : freeTextCheck lines s = some .printerUnavailable := by
  rw [freeTextCheck, if_neg ((linesFit_iff _).1 listed), if_pos (show _ ∨ _ from stuck)]

theorem freeTextCheck_full (works : ¬ PrinterStuck s) (full : (freeSlots s).length < 3) :
    freeTextCheck lines s = some .tableFull := by
  rw [freeTextCheck, if_neg ((linesFit_iff _).1 listed), if_neg (show ¬ (_ ∨ _) from works),
    if_pos (show _ < Config.freeTextSlots from full)]

theorem freeTextCheck_ok (works : ¬ PrinterStuck s) (room : 3 ≤ (freeSlots s).length) : freeTextCheck lines s = none := by
  rw [freeTextCheck, if_neg ((linesFit_iff _).1 listed), if_neg (show ¬ (_ ∨ _) from works),
    if_neg (Nat.not_lt.2 (show Config.freeTextSlots ≤ _ from room))]

end Listed

/-- A FREE_TEXT takes the lowest FREE slot and has no time (R145; log 74). -/
theorem queueText_free {lines : List Text} {i : Fin 8} (hi : slotOf i s = .free)
    (low : ∀ k : Fin 8, k.val < i.val → slotOf k s ≠ .free) :
    queueText tag lines s = tryBegin (setSlot i (.waiting
      { kind := .freeText, pos := none, queueNo := s.print.queueNo + 1, time := none, sale := none, seq := none,
        pending := false, tag := tag, lines := lines }) (bumpQueue s)) := by
  obtain ⟨rest, free⟩ := freeSlots_cons (s := bumpQueue s) hi low
  simp only [queueText, free]
  rfl

theorem freeText_refused {lines : List Text} {r : Result} (h : freeTextCheck lines s = some r) :
    freeText tag .printer lines s = passAnswer tag r .empty s := by
  simp only [freeText, h, ne_eq, not_true_eq_false, if_false]

theorem freeText_queued {lines : List Text} (h : freeTextCheck lines s = none) :
    freeText tag .printer lines s = passAnswer tag .ok (.queued (s.print.queueNo + 1)) (queueText tag lines s) := by
  simp only [freeText, h, ne_eq, not_true_eq_false, if_false]

end PassFrame
end Sys2Proof.Machine

namespace Sys2Proof.Proofs
open Sys2Proof Sys2Proof.Machine

/-- Settles O37: the two checks of the frame, the lend's, and the four verdicts with the checks of a FREE_TEXT. -/
theorem passFrames : Obligations.PassFrames := by
  intro tag f a busy s h answer queued now free text
  refine ⟨execPassFrame_badLength h, fun short out => execPassFrame_range h short (addrOf_eq_none out), fun short addr => ?_⟩
  have taken : now = .next (settle busy (masks none (passTaken tag a f (takeFrame s)))) :=
    execPassFrame_taken h short (by rw [addr, addrOf_addrNumber])
  refine ⟨fun d lend => ⟨fun away => ?_, fun same full => ?_, fun same room => ?_⟩, fun lend off => ?_, fun ⟨lend, on⟩ drop => ?_,
    fun ⟨lend, on⟩ pass full => ?_, fun ⟨lend, on⟩ pass room => ?_, fun p ⟨lend, on⟩ merge ha => ?_, fun ⟨lend, on⟩ queue ha => ?_,
    fun i ⟨lend, on⟩ queue ha some few short serves hi low three => ?_⟩
  · rw [taken, passTaken_lentAway (s := takeFrame s) lend away]
    rfl
  · rw [taken, passTaken_lent (s := takeFrame s) lend same, acceptPass_full (s := takeFrame s) full]
    rfl
  · rw [taken, passTaken_lent (s := takeFrame s) lend same, acceptPass_room (s := takeFrame s) room]
    rfl
  · rw [taken, passTaken_missing (s := takeFrame s) lend off]
    rfl
  · rw [taken, passTaken_drop (s := takeFrame s) lend on drop]
    rfl
  · rw [taken, passTaken_pass (s := takeFrame s) lend on pass, acceptPass_full (s := takeFrame s) full]
    rfl
  · rw [taken, passTaken_pass (s := takeFrame s) lend on pass, acceptPass_room (s := takeFrame s) room]
    rfl
  · rw [taken, passTaken_merge (s := takeFrame s) lend on merge, ha, mergeMask_validator]
    rfl
  · subst ha
    have queued := passTaken_queue (s := takeFrame s) (tag := tag) lend on queue
    refine ⟨fun bad => ?_, fun listed stuck => ?_, fun listed works full => ?_⟩
    · rw [taken, queued, freeText_refused (freeTextCheck_badLength bad)]
      rfl
    · rw [taken, queued, freeText_refused (freeTextCheck_unavailable (s := takeFrame s) listed stuck)]
      rfl
    · rw [taken, queued, freeText_refused (freeTextCheck_full (s := takeFrame s) listed works full)]
      rfl
  · subst ha
    obtain ⟨-, paper, jam⟩ := serves
    rw [taken, passTaken_queue (s := takeFrame s) lend on queue, freeText_queued (freeTextCheck_ok (s := takeFrame s)
      ⟨some, few, short⟩ (fun stuck => stuck.elim paper jam) three), queueText_free (s := takeFrame s) hi low]
    rfl

end Sys2Proof.Proofs

namespace Sys2Proof.Machine

/-! ### What the session controllers do

A payout that goes on, a refund, a write or a ticket that ends and a session that closes are sequences of the same few steps. Each
`_controlled` lemma says so of one function of the model; what none of the steps changes, the function leaves alone. -/

/-- A job waits or is printed in the slot. -/
def Slot.Busy (x : Slot) : Prop := (∃ j, x = .waiting j) ∨ ∃ j g, x = .active j g

/-- The update keeps the printer's last status, and puts a job into a slot only while the printer is ONLINE. -/
def PrintStep (u v : PrintUnit) (s : State) : Prop :=
  v.last = u.last ∧ v.stale = u.stale ∧
  (online .printer s = false → ∀ i, (vget v.slots i).Busy → (vget u.slots i).Busy)

/-- One step of the controller of position p, or of the block it hands something to. -/
inductive Control (p : Position) : State → State → Prop where
  | sess (f : Session → Session) (s : State) : Control p s (onSess p f s)
  | resv (f : Reserve → Reserve) (s : State) : Control p s (onResv p f s)
  | hand (s : State) : Control p s (handDispense s)
  | read (r : ReadPhase) (s : State) : Control p s (setRead p r s)
  | push (c : CardCmd) (s : State) : Control p s (pushCard p c s)
  | drop (s : State) : Control p s (dropReadCmds p s)
  | disown (n : Nat) (s : State) : Control p s (disownAll (p, n) s)
  | notice (c : Nat) (b : NoticeBody) (s : State) : Control p s (notify c b s)
  | journal (f : Journal → Journal) (s : State) : Control p s (onJournal f s)
  | overrun (s : State) : Control p s (raiseOverrun s)
  | print {f : PrintUnit → PrintUnit} (s : State) (h : PrintStep s.print (f s.print) s) : Control p s (onPrint f s)

/-- A sequence of such steps of p's controller. -/
def Controlled (p : Position) : State → State → Prop := Relation.ReflTransGen (Control p)

theorem Controlled.refl (p : Position) (s : State) : Controlled p s s := Relation.ReflTransGen.refl

theorem Controlled.andThen {p : Position} {s t u : State} (h : Controlled p s t) (c : Control p t u) : Controlled p s u :=
  Relation.ReflTransGen.tail h c

theorem controlled_ite {p : Position} {c : Prop} [Decidable c] {s t u : State} (ht : Controlled p s t) (hu : Controlled p s u) :
    Controlled p s (if c then t else u) := by
  split
  · exact ht
  · exact hu

/-- What every step keeps, the controllers keep. -/
theorem Controlled.keeps {p : Position} {I : State → Prop} (step : ∀ {s t : State}, Control p s t → I s → I t) {s t : State}
    (h : Controlled p s t) (hs : I s) : I t := by
  induction h with
  | refl => exact hs
  | tail _ c ih => exact step c ih

section Print
variable {s t : State} {p : Position} {j : Job}

/-! #### The print unit's share -/

/-- An update that leaves the slots and the last status alone. -/
theorem printStep_of_same {u v : PrintUnit} (last : v.last = u.last) (stale : v.stale = u.stale) (slots : v.slots = u.slots) :
    PrintStep u v s :=
  ⟨last, stale, fun _ i h => by rwa [slots] at h⟩

theorem onPrint_controlled {f : PrintUnit → PrintUnit} (h : Controlled p s t) (same : ∀ u, (f u).last = u.last ∧
    (f u).stale = u.stale ∧ (f u).slots = u.slots) : Controlled p s (onPrint f t) :=
  h.andThen (.print t (printStep_of_same (same _).1 (same _).2.1 (same _).2.2))

/-- A slot may take what holds no job, or any job while the printer is ONLINE. -/
theorem setSlot_controlled {i : Fin 8} {x : Slot} (h : Controlled p s t) (hx : online .printer t = false → ¬ x.Busy) :
    Controlled p s (setSlot i x t) := by
  refine h.andThen (.print t ⟨rfl, rfl, fun off k hk => ?_⟩)
  by_cases hi : k = i
  · subst hi
    exact absurd (by simpa using hk) (hx off)
  · simpa [vget_vset_ne _ hi] using hk

theorem not_busy_free : ¬ Slot.Busy .free := by rintro (⟨_, h⟩ | ⟨_, _, h⟩) <;> cases h

theorem note_controlled {isSlip : Bool} {q : Option (BitVec 32)} (h : Controlled p s t) : Controlled p s (note isSlip q t) := by
  unfold note
  split
  · exact onPrint_controlled h fun _ => ⟨rfl, rfl, rfl⟩
  · split
    · exact h.andThen (.journal _ t)
    · exact onPrint_controlled h fun _ => ⟨rfl, rfl, rfl⟩

theorem noteJob_controlled (h : Controlled p s t) : Controlled p s (noteJob j t) := by
  unfold noteJob
  split
  · exact note_controlled h
  · exact note_controlled h
  · exact h
  · exact h

theorem printDone_controlled {o : JobOutcome} (h : Controlled p s t) : Controlled p s (printDone j o t) := by
  unfold printDone
  dsimp only
  split
  · exact h
  · exact h.andThen (.notice _ _ t)
  · exact h.andThen (.notice _ _ t)

theorem jobFailed_controlled (h : Controlled p s t) : Controlled p s (jobFailed j t) :=
  printDone_controlled (noteJob_controlled (onPrint_controlled h fun _ => ⟨rfl, rfl, rfl⟩))

theorem tryBegin_offline (off : online .printer t = false) : tryBegin t = t := by
  unfold tryBegin
  rw [if_pos (.inr (.inr (by simp [printerReady, off])))]

theorem tryBegin_controlled (h : Controlled p s t) : Controlled p s (tryBegin t) := by
  by_cases off : online .printer t = false
  · rwa [tryBegin_offline off]
  · unfold tryBegin
    split
    · exact h
    · split
      · exact onPrint_controlled h fun _ => ⟨rfl, rfl, rfl⟩
      · split
        · exact h
        · exact onPrint_controlled (setSlot_controlled h fun h => absurd h off) fun _ => ⟨rfl, rfl, rfl⟩

theorem online_of_serves (h : ¬ printerDown t = true) : online .printer t ≠ false := by
  intro off
  simp [printerDown, off] at h

theorem giveJob_controlled {k : JobKind} {q : Position} {x : SaleFields} {n : Option (BitVec 32)} {pending : Bool}
    (h : Controlled p s t) : Controlled p s (giveJob k q x n pending t) := by
  have numbered : Controlled p s (bumpQueue t) := onPrint_controlled h fun _ => ⟨rfl, rfl, rfl⟩
  unfold giveJob
  dsimp only
  split
  · exact printDone_controlled (noteJob_controlled (onPrint_controlled numbered fun _ => by cases k <;> exact ⟨rfl, rfl, rfl⟩))
  · split
    · exact jobFailed_controlled numbered
    · rename_i serves
      exact tryBegin_controlled (setSlot_controlled numbered fun off => absurd off (online_of_serves serves))

end Print

section Session
variable {s t : State} {p : Position}

/-! #### Closing and payouts -/

theorem append_controlled {pos : Option Position} {b : RecordBody} (h : Controlled p s t) :
    Controlled p s (append pos b t) := by
  unfold append
  split
  · have recorded := h.andThen (.journal (fun j => { j with records := j.records ++ [commonPart t.fare.clock j.next pos b],
                                                            next := j.next + 1 }) t)
    dsimp only
    split
    · exact recorded.andThen (.notice _ _ _)
    · exact recorded
  · exact (h.andThen (.journal _ t)).andThen (.overrun _)

theorem enter_controlled {st : SessState} {r : ChangeReason} (h : Controlled p s t) : Controlled p s (enter p st r t) :=
  (h.andThen (.sess _ t)).andThen (.notice _ _ _)

theorem releaseSlot_controlled (h : Controlled p s t) : Controlled p s (releaseSlot p t) := by
  refine h.andThen (.print t ⟨rfl, rfl, fun _ i busy => ?_⟩)
  simp only [vget_vmap] at busy
  split at busy
  · exact absurd busy not_busy_free
  · exact busy

theorem release_controlled {r : EndReason} (h : Controlled p s t) : Controlled p s (release p r t) := by
  have read := (h.andThen (.drop t)).andThen (.read .none _)
  have slot := releaseSlot_controlled (read.andThen (.resv (fun _ => Reserve.start) _))
  exact ((slot.andThen (.disown (sess p t).serial _)).andThen (.sess _ _)).andThen (.notice _ _ _)

theorem closeJobs_controlled {refund : Bool} {r : EndReason} {q : Option (BitVec 32)} {x : Session} (h : Controlled p s t) :
    Controlled p s (closeJobs p refund r q x t) := by
  unfold closeJobs
  exact controlled_ite (giveJob_controlled (controlled_ite (giveJob_controlled h) h)) (controlled_ite (giveJob_controlled h) h)

theorem closeSession_controlled (h : Controlled p s t) : Controlled p s (closeSession p t) := by
  unfold closeSession
  dsimp only
  split
  · exact release_controlled h
  · exact release_controlled (closeJobs_controlled (append_controlled (h.andThen (.journal _ t))))

theorem wantEnd_controlled (h : Controlled p s t) : Controlled p s (wantEnd p t) := by
  unfold wantEnd
  split
  · exact closeSession_controlled h
  · exact h.andThen (.sess _ t)

theorem setEnd_controlled {r : EndReason} (h : Controlled p s t) : Controlled p s (setEnd p r t) := h.andThen (.sess _ t)

theorem advancePayout_controlled (h : Controlled p s t) : Controlled p s (advancePayout p t).1 := by
  have closed {u : State} (hu : Controlled p s u) : Controlled p s (closePayout p u) := hu.andThen (.resv _ u)
  have planned : Controlled p s (planForNext p t) := by
    unfold planForNext
    split
    · exact h
    · exact controlled_ite h (h.andThen (.resv _ t))
  unfold advancePayout
  split
  · exact closed h
  · split
    · exact closed h
    · dsimp only
      split
      · exact closed planned
      · exact (planned.andThen (.resv _ _)).andThen (.hand _)

theorem payFurther_controlled (h : Controlled p s t) : Controlled p s (payFurther p t) := by
  have planned : Controlled p s (planFurther p t) :=
    ((h.andThen (.sess _ t)).andThen (.resv _ _)).andThen (.resv _ _)
  have paid := advancePayout_controlled planned
  unfold payFurther
  split <;> rename_i e <;> rw [e] at paid
  · exact paid
  · exact wantEnd_controlled ((paid.andThen (.sess _ _)).andThen (.hand _))

theorem payoutEnded_controlled {n : Nat} (h : Controlled p s t) : Controlled p s (payoutEnded p n t) := by
  have owed : Controlled p s (addOwed p n t) := h.andThen (.sess _ t)
  unfold payoutEnded
  exact controlled_ite (payFurther_controlled owed) (wantEnd_controlled owed)

theorem continuePayout_controlled (h : Controlled p s t) : Controlled p s (continuePayout p t) := by
  have paid := advancePayout_controlled h
  unfold continuePayout
  split <;> rename_i e <;> rw [e] at paid
  · exact paid
  · exact payoutEnded_controlled (paid.andThen (.hand _))

theorem enterPayingOut_controlled (h : Controlled p s t) : Controlled p s (enterPayingOut p t) :=
  continuePayout_controlled (((enter_controlled h).andThen (.sess _ _)).andThen (.resv _ _))

theorem payRefund_controlled (h : Controlled p s t) : Controlled p s (payRefund p t) := by
  unfold payRefund
  exact controlled_ite (closeSession_controlled h)
    (continuePayout_controlled (((h.andThen (.sess _ t)).andThen (.resv _ _)).andThen (.resv _ _)))

theorem payHeld_controlled (h : Controlled p s t) : Controlled p s (payHeld p t) := by
  unfold payHeld
  exact controlled_ite (payFurther_controlled (controlled_ite (enter_controlled h) h)) (closeSession_controlled h)

theorem listMoved_controlled (h : Controlled p s t) : Controlled p s (listMoved p t) := by
  unfold listMoved
  split
  · exact h
  · split
    · exact payRefund_controlled h
    · exact payHeld_controlled h
    · exact h

theorem enterRefund_controlled {r : EndReason} (h : Controlled p s t) : Controlled p s (enterRefund p r t) :=
  listMoved_controlled (enter_controlled ((controlled_ite (h.andThen (.resv _ t)) h).andThen (.sess _ _)))

/-! #### Issuing -/

theorem issueSucceeded_controlled (h : Controlled p s t) : Controlled p s (issueSucceeded p t) := by
  unfold issueSucceeded
  exact controlled_ite (enterPayingOut_controlled (setEnd_controlled (h.andThen (.sess _ t))))
    (wantEnd_controlled (setEnd_controlled (h.andThen (.sess _ t))))

theorem notCredited_controlled (h : Controlled p s t) : Controlled p s (notCredited p t) :=
  wantEnd_controlled (h.andThen (.sess _ t))

theorem askCredit_controlled (h : Controlled p s t) : Controlled p s (askCredit p t) := by
  unfold askCredit
  exact controlled_ite (notCredited_controlled h) ((h.andThen (.sess _ t)).andThen (.push _ _))

theorem ticketFailed_controlled (h : Controlled p s t) : Controlled p s (ticketFailed p t) := by
  have failed := h.andThen (.sess (fun x => { x with ticket := .failed, stage := .none, slot := none }) t)
  unfold ticketFailed
  exact controlled_ite (wantEnd_controlled (setEnd_controlled failed))
    (controlled_ite (enterRefund_controlled failed) (askCredit_controlled (setEnd_controlled failed)))

theorem handedNotDone_controlled {r : WriteFault} (h : Controlled p s t) : Controlled p s (handedNotDone p r t) := by
  have told := h.andThen (.sess (fun x => { x with write := .notDone r, stage := .none, tearWindow := none }) t)
  unfold handedNotDone
  exact controlled_ite (enterRefund_controlled told)
    (wantEnd_controlled (setEnd_controlled told))

theorem endReading_controlled {a : Result} {r : EndReason} (h : Controlled p s (answerQuote p a t)) :
    Controlled p s (endReading p a r t) := release_controlled h

end Session

/-! ### Both positions -/

/-- Steps of either controller. -/
def Controls : State → State → Prop := Relation.ReflTransGen fun s t => ∃ p, Control p s t

theorem Controls.refl (s : State) : Controls s s := Relation.ReflTransGen.refl

theorem Controlled.controls {p : Position} {s t : State} (h : Controlled p s t) : Controls s t :=
  Relation.ReflTransGen.mono (show Control p ≤ fun s t => ∃ p, Control p s t from fun _ _ c => ⟨p, c⟩) _ _ h

theorem Controls.trans {s t u : State} (h : Controls s t) (k : Controls t u) : Controls s u := Relation.ReflTransGen.trans h k

theorem Controls.keeps {I : State → Prop} (step : ∀ {p : Position} {s t : State}, Control p s t → I s → I t) {s t : State}
    (h : Controls s t) (hs : I s) : I t := by
  induction h with
  | refl => exact hs
  | tail _ c ih => exact step c.choose_spec ih

theorem ticketEnded_controls (o : Position × Bool) (s : State) : Controls s (ticketEnded s o) := by
  unfold ticketEnded
  split
  · exact .refl s
  · split
    · exact (issueSucceeded_controlled ((Controlled.refl o.1 s).andThen (.sess _ s))).controls
    · exact (ticketFailed_controlled (.refl o.1 s)).controls

theorem ticketEnds_controls (ends : TicketEnds) (s : State) : Controls s (ends.foldl ticketEnded s) := by
  induction ends generalizing s with
  | nil => exact .refl s
  | cons o ends ih => exact (ticketEnded_controls o s).trans (ih _)

theorem handTickets_controls (r : State × TicketEnds) : Controls r.1 (handTickets r) := ticketEnds_controls r.2 r.1

/-! ### What the controllers leave alone -/

/-- A state with the parts that the controllers change put out of sight: the sessions, the reservations and the DISPENSE, the
pending-write entries and the reads, the print unit but for the printer's last status, the journal, the card commands and the notices. -/
def aside (s : State) : State :=
  { s with
    sales := { s.sales with sess := Pair.both (Session.idle 0) }
    change := { s.change with resv := Pair.both Reserve.start, dispense := none, misses := 0 }
    cards := { s.cards with entries := vfill 4 PendingEntry.free, reads := Pair.both .none }
    print := { PrintUnit.start with last := s.print.last, stale := s.print.stale }
    journal := Journal.cold .powerUp
    link := { s.link with cardReady := [], overrun := false }
    port := { s.port with notices := [], lost := 0 } }

section Aside
variable {s t : State} {p : Position}

theorem notify_aside (c : Nat) (b : NoticeBody) (s : State) : aside (notify c b s) = aside s := by
  simp only [notify, aside, onPort]
  split
  · rfl
  · split <;> rfl

/-- A waiting DISPENSE is handed over inside the change store. -/
theorem handDispense_eq (s : State) : ∃ r d, handDispense s = onChange (fun c => { c with resv := r, dispense := d }) s := by
  unfold handDispense
  dsimp only
  split
  · exact ⟨s.change.resv, s.change.dispense, rfl⟩
  · split
    · split <;> exact ⟨_, _, rfl⟩
    · exact ⟨_, _, rfl⟩
    · exact ⟨_, _, rfl⟩
    · exact ⟨s.change.resv, s.change.dispense, rfl⟩

theorem handDispense_aside (s : State) : aside (handDispense s) = aside s := by
  obtain ⟨r, d, e⟩ := handDispense_eq s
  rw [e]
  rfl

theorem raiseOverrun_aside (s : State) : aside (raiseOverrun s) = aside s := by
  unfold raiseOverrun
  split
  · rfl
  · rw [notify_aside]
    rfl

theorem Control.aside (h : Control p s t) : aside t = aside s := by
  cases h with
  | hand => exact handDispense_aside s
  | notice c b => exact notify_aside c b s
  | overrun => exact raiseOverrun_aside s
  | print _ step =>
    obtain ⟨last, stale, -⟩ := step
    simp only [Machine.aside, onPrint, last, stale]
  | _ => rfl

theorem Controls.aside (h : Controls s t) : aside t = aside s :=
  h.keeps (I := fun u => Machine.aside u = Machine.aside s) (fun c hs => c.aside.trans hs) rfl

theorem Controlled.aside (h : Controlled p s t) : Machine.aside t = Machine.aside s := h.controls.aside

theorem Controlled.coins (h : Controlled p s t) : t.coins = s.coins :=
  (congrArg State.coins h.aside :)

theorem Controlled.tubes (h : Controlled p s t) : t.change.tubes = s.change.tubes :=
  (congrArg (fun u => u.change.tubes) h.aside :)

theorem Controls.periph (h : Controls s t) (a : Addr) : periph a t = periph a s :=
  (congrArg (fun u => vget u.link.periph (addrIndex a)) h.aside :)

theorem Controls.print (h : Controls s t) : t.print.last = s.print.last ∧ t.print.stale = s.print.stale :=
  ⟨congrArg (fun u => u.print.last) h.aside, congrArg (fun u => u.print.stale) h.aside⟩

theorem Controls.online (h : Controls s t) (a : Addr) : online a t = online a s := by
  simp only [Machine.online, h.periph]

/-- The controller of one position leaves the other position's session alone. -/
theorem Controlled.sess_other (h : Controlled p s t) : sess p.other t = sess p.other s := by
  refine h.keeps (I := fun u => Machine.sess p.other u = Machine.sess p.other s) (fun {s t} c hs => ?_) rfl
  have same : Machine.sess p.other t = Machine.sess p.other s := by
    cases c with
    | sess f => cases p <;> rfl
    | hand =>
      obtain ⟨r, d, e⟩ := handDispense_eq s
      rw [e]
      rfl
    | overrun => unfold raiseOverrun; split <;> rfl
    | _ => rfl
  exact same.trans hs

/-- While the printer is not ONLINE no slot gets a job. -/
theorem Controls.busy (h : Controls s t) (off : Machine.online .printer s = false) {i : Fin 8} (hb : (slotOf i t).Busy) :
    (slotOf i s).Busy := by
  have kept : Machine.online .printer t = false ∧ ((slotOf i t).Busy → (slotOf i s).Busy) := by
    refine h.keeps (I := fun u => Machine.online .printer u = false ∧ ((slotOf i u).Busy → (slotOf i s).Busy))
      (fun {p s t} c ⟨off, hs⟩ => ⟨?_, fun hb => hs ?_⟩) ⟨off, id⟩
    · rw [Controls.online (.single ⟨p, c⟩), off]
    · cases c with
      | hand =>
        obtain ⟨r, d, e⟩ := handDispense_eq s
        rwa [e] at hb
      | overrun => unfold raiseOverrun at hb; split at hb <;> exact hb
      | print _ step => exact step.2.2 off i hb
      | _ => exact hb
  exact kept.2 hb

/-- An entry keeps its state, or is no longer reserved. -/
def EntryLeft (x y : PendingEntry) : Prop := y.state = x.state ∨ x.state = .reserved ∧ y.state = .free

theorem disown_left (o : Position × Nat) (x : PendingEntry) : EntryLeft x (disown o x) := by
  unfold disown
  split
  · split
    · exact .inr ⟨‹_›, rfl⟩
    · exact .inl rfl
  · exact .inl rfl

theorem EntryLeft.trans {x y z : PendingEntry} (h : EntryLeft x y) (k : EntryLeft y z) : EntryLeft x z := by
  obtain h | ⟨hx, hy⟩ := h
  · simpa only [EntryLeft, h] using k
  · refine .inr ⟨hx, ?_⟩
    obtain k | ⟨ky, -⟩ := k
    · rw [k, hy]
    · exact absurd (hy.symm.trans ky) (by decide)

theorem Controls.entry (h : Controls s t) (e : Fin 4) : EntryLeft (entry e s) (entry e t) := by
  refine h.keeps (I := fun u => EntryLeft (Machine.entry e s) (Machine.entry e u)) (fun {p u v} c hs => hs.trans ?_) (.inl rfl)
  cases c with
  | disown n => simpa only [Machine.entry, disownAll, onCards_cards, vget_vmap] using disown_left (p, n) _
  | hand =>
    obtain ⟨r, d, e⟩ := handDispense_eq u
    rw [e]
    exact .inl rfl
  | overrun => unfold raiseOverrun; split <;> exact .inl rfl
  | _ => exact .inl rfl

end Aside
end Sys2Proof.Machine

namespace Sys2Proof.Machine

/-! ### What the masks change -/

/-- Of the link a recomputed mask changes the INHIBITs of ONLINE validators, and of the port the notices. -/
def MasksOnly (s t : State) : Prop :=
  (∃ i k, t.link = { s.link with inhibit := i, inhibitKept := k } ∧
    ∀ q, online (valAddr q) s = false → s.link.inhibit.get q = none → s.link.inhibitKept.get q = none →
      i.get q = none ∧ k.get q = none) ∧
  ∃ ns n, t.port = { s.port with notices := ns, lost := n }

section Masks
variable {s t u : State} {p : Position}

theorem MasksOnly.refl (s : State) : MasksOnly s s := ⟨⟨_, _, rfl, fun _ _ hi hk => ⟨hi, hk⟩⟩, _, _, rfl⟩

theorem online_of_periph {a : Addr} (h : t.link.periph = s.link.periph) : online a t = online a s := by
  rw [online, online, periph, periph, h]

theorem MasksOnly.trans (h : MasksOnly s t) (h' : MasksOnly t u) : MasksOnly s u := by
  obtain ⟨⟨i, k, hl, keep⟩, ns, n, hp⟩ := h
  obtain ⟨⟨i', k', hl', keep'⟩, ns', n', hp'⟩ := h'
  refine ⟨⟨i', k', by rw [hl', hl], fun q off hi hk => ?_⟩, ns', n', by rw [hp', hp]⟩
  obtain ⟨hi, hk⟩ := keep q off hi hk
  exact keep' q (by rw [online_of_periph (s := s) (by rw [hl]), off]) (by rw [hl]; exact hi) (by rw [hl]; exact hk)

theorem notify_masksOnly (c : Nat) (b : NoticeBody) (s : State) : MasksOnly s (notify c b s) := by
  refine ⟨⟨_, _, rfl, fun _ _ hi hk => ⟨hi, hk⟩⟩, ?_⟩
  simp only [notify, onPort_port]
  split
  · exact ⟨_, _, rfl⟩
  · split <;> exact ⟨_, _, rfl⟩

/-- An INHIBIT of an ONLINE validator, or one withdrawn. -/
theorem waitInhibit_masksOnly {x : Option (Nat × BitVec 8)} (h : online (valAddr p) s = true ∨ x = none) :
    MasksOnly s (waitInhibit p x s) := by
  refine ⟨⟨_, _, rfl, fun q off hi hk => ⟨?_, hk⟩⟩, _, _, rfl⟩
  by_cases hq : q = p
  · subst hq
    obtain on | none := h
    · rw [on] at off
      cases off
    · rw [Pair.get_set_self, none]
  · rw [Pair.get_set_ne _ hq, hi]

theorem keepInhibit_masksOnly {x : Option (Nat × BitVec 8)} (h : online (valAddr p) s = true ∨ x = none) :
    MasksOnly s (keepInhibit p x s) := by
  refine ⟨⟨_, _, rfl, fun q off hi hk => ⟨hi, ?_⟩⟩, _, _, rfl⟩
  by_cases hq : q = p
  · subst hq
    obtain on | none := h
    · rw [on] at off
      cases off
    · rw [Pair.get_set_self, none]
  · rw [Pair.get_set_ne _ hq, hk]

theorem changeMask_masksOnly (p : Position) (m : BitVec 8) (s : State) : MasksOnly s (changeMask p m s) := by
  rw [changeMask_eq]
  by_cases on : (periph (valAddr p) s).state = .online
  · have up {t : State} (h : t.link.periph = s.link.periph) : online (valAddr p) t = true := by
      rw [online_of_periph h, online, on]
      rfl
    simp only [if_pos on]
    split
    · refine MasksOnly.trans (t := waitInhibit p (takeSet m s (s.link.inhibit.get p)) s) (waitInhibit_masksOnly (.inl (up rfl))) ?_
      split
      · exact keepInhibit_masksOnly (.inr rfl)
      · exact keepInhibit_masksOnly (.inl (up rfl))
    · split
      · exact waitInhibit_masksOnly (.inr rfl)
      · exact waitInhibit_masksOnly (.inl (up rfl))
  · simp only [if_neg on]
    split
    · split
      · exact keepInhibit_masksOnly (.inr rfl)
      · exact .refl s
    · split
      · exact waitInhibit_masksOnly (.inr rfl)
      · exact .refl s

theorem maskSent_masksOnly (p : Position) (s : State) : MasksOnly s (maskSent p s) :=
  (show MasksOnly s (onLane p (fun l => { l with lastMask := effectiveMask p s }) s) from .refl s).trans
    (changeMask_masksOnly p _ _)

theorem recompute_masksOnly (p : Position) (rise : Option Rise) (s : State) : MasksOnly s (recompute p rise s) := by
  by_cases h : ∀ r, rise = some r → r.pos ≠ p
  · rw [recompute_quiet h]
    split
    · exact (maskSent_masksOnly p s).trans (notify_masksOnly _ _ _)
    · exact .refl s
  · simp only [not_forall, not_not] at h
    obtain ⟨r, rfl, hr⟩ := h
    rw [recompute_rise hr]
    refine MasksOnly.trans ?_ (notify_masksOnly _ _ _)
    split
    · exact maskSent_masksOnly p s
    · exact .refl s

theorem masks_masksOnly (rise : Option Rise) (s : State) : MasksOnly s (masks rise s) :=
  (recompute_masksOnly .A rise s).trans (recompute_masksOnly .B rise _)

@[simp] theorem masks_periph (rise : Option Rise) (s : State) (a : Addr) : periph a (masks rise s) = periph a s := by
  obtain ⟨⟨i, k, hl, -⟩, -⟩ := masks_masksOnly rise s
  rw [periph, hl]
  rfl

end Masks

/-! ### What the arbiter and the transmit line change -/

/-- A level's choice is one of its frames. -/
theorem oldestReady_mem {n : Nat} {s : State} {r : ReadyFrame} : ∀ {xs : List ReadyFrame}, oldestReady n s xs = some r → r ∈ xs
  | x :: xs, h => by
    unfold oldestReady at h
    split at h
    · rename_i y hy
      cases h
      unfold older
      split
      · exact .tail _ (oldestReady_mem hy)
      · split
        · exact .tail _ (oldestReady_mem hy)
        · exact .head _
    · cases h
      exact .head _
    · exact .tail _ (oldestReady_mem h)

/-- The frame chosen is ready at one of the six levels. -/
theorem choose_level {s : State} {r : ReadyFrame} (h : choose s = some r) :
    r ∈ level1 s ∨ r ∈ level2 s ∨ r ∈ level3 s ∨ r ∈ level4 s ∨ r ∈ level5 s ∨ level6 s = some r := by
  unfold choose at h
  split at h
  · cases h
    exact .inl (oldestReady_mem ‹_›)
  · split at h
    · cases h
      exact .inr (.inl (oldestReady_mem ‹_›))
    · split at h
      · cases h
        exact .inr (.inr (.inl (oldestReady_mem ‹_›)))
      · split at h
        · cases h
          exact .inr (.inr (.inr (.inl (oldestReady_mem ‹_›))))
        · split at h
          · cases h
            exact .inr (.inr (.inr (.inr (.inl (oldestReady_mem ‹_›)))))
          · exact .inr (.inr (.inr (.inr (.inr h))))

theorem level4_frame {s : State} {r : ReadyFrame} (h : r ∈ level4 s) : (∃ n t, r.frame = .line n t) ∨ ∃ n, r.frame = .cut n := by
  unfold level4 at h
  split at h
  · split at h
    · rw [List.mem_singleton.1 h]
      dsimp only
      unfold printFrame
      split
      · exact .inl ⟨_, _, rfl⟩
      · exact .inr ⟨_, rfl⟩
    · cases h
  · cases h

theorem level5_frame {s : State} {r : ReadyFrame} (h : r ∈ level5 s) : (∃ a c, r.frame = .poll a c) ∨ ∃ a, r.frame = .announce a := by
  simp only [level5, List.mem_filterMap, Option.map_eq_some_iff] at h
  obtain ⟨a, -, age, -, rfl⟩ := h
  dsimp only
  unfold pollFrame
  split
  · exact .inl ⟨_, _, rfl⟩
  · exact .inr ⟨_, rfl⟩

/-- An INHIBIT that is chosen waits (R174). -/
theorem choose_inhibit {s : State} {r : ReadyFrame} {p : Position} {m : BitVec 8} (h : choose s = some r)
    (frame : r.frame = .inhibit p m) : s.link.inhibit.get p = some (r.age, m) := by
  obtain h | h | h | h | h | h := choose_level h
  · obtain h | h := List.mem_append.1 h
    · obtain ⟨v, -, rfl⟩ := List.mem_map.1 h
      cases frame
    · simp only [List.mem_filterMap, Option.map_eq_some_iff] at h
      obtain ⟨q, -, x, hx, rfl⟩ := h
      cases frame
      exact hx
  · unfold level2 at h
    split at h
    · split at h
      · cases h
      · rw [List.mem_singleton.1 h] at frame
        cases frame
    · cases h
  · obtain ⟨c, -, rfl⟩ := List.mem_map.1 h
    cases frame
  · obtain ⟨n, t, e⟩ | ⟨n, e⟩ := level4_frame h <;> rw [e] at frame <;> cases frame
  · obtain ⟨a, c, e⟩ | ⟨a, e⟩ := level5_frame h <;> rw [e] at frame <;> cases frame
  · simp only [level6, Option.map_eq_some_iff] at h
    obtain ⟨f, -, rfl⟩ := h
    cases frame

/-- What serving leaves of a peripheral's entry: its counters and its CONTENTION flag may change, and its poll may be sent. -/
def PeriphServed (x y : Peripheral) : Prop :=
  y.state = x.state ∧ y.revision = x.revision ∧ y.lastReport = x.lastReport ∧ y.streak = x.streak ∧
  (x.pollDue = none → y.pollDue = none) ∧ (y.flags = x.flags ∨ y.flags = { x.flags with contention := true })

theorem PeriphServed.refl (x : Peripheral) : PeriphServed x x := ⟨rfl, rfl, rfl, rfl, id, .inl rfl⟩

/-- A poll is sent. -/
theorem periphServed_polled (x : Peripheral) : PeriphServed x { x with pollDue := none } :=
  ⟨rfl, rfl, rfl, rfl, fun _ => rfl, .inl rfl⟩

theorem PeriphServed.trans {x y z : Peripheral} (h : PeriphServed x y) (k : PeriphServed y z) : PeriphServed x z := by
  obtain ⟨state, rev, rep, streak, due, flags⟩ := h
  obtain ⟨state', rev', rep', streak', due', flags'⟩ := k
  refine ⟨state'.trans state, rev'.trans rev, rep'.trans rep, streak'.trans streak, due' ∘ due, ?_⟩
  obtain e | e := flags <;> obtain e' | e' := flags' <;> rw [e', e]
  · exact .inl rfl
  · exact .inr rfl
  · exact .inr rfl
  · exact .inr rfl

/-- The link after a frame of it has gone, or a poll's command has come: lists shrink, and no INHIBIT comes up. -/
def LinkServed (l m : Link) : Prop :=
  m.periph = l.periph ∧ m.passQueue.Sublist l.passQueue ∧ m.verdicts.Sublist l.verdicts ∧
  ∀ p, l.inhibit.get p = none → l.inhibitKept.get p = none → m.inhibit.get p = none ∧ m.inhibitKept.get p = none

/-- One step of the arbiter or the transmit line. -/
inductive Serve : State → State → Prop where
  | periph (a : Addr) {f : Peripheral → Peripheral} (s : State) (h : ∀ x, PeriphServed x (f x)) : Serve s (onPeriph a f s)
  | contention (a : Addr) (s : State) : Serve s (raiseFault a .contention s)
  | link {f : Link → Link} (s : State) (h : LinkServed s.link (f s.link)) : Serve s (onLink f s)
  | dispense (f : Dispense → Dispense) (s : State) :
      Serve s (onChange (fun c => { c with dispense := c.dispense.map f, misses := 0 }) s)
  | progress (f : Progress → Progress) (s : State) : Serve s (onProgress f s)
  | finish (s : State) : Serve s (finish s)

/-- A sequence of such steps. -/
def Served : State → State → Prop := Relation.ReflTransGen Serve

theorem Served.refl (s : State) : Served s s := Relation.ReflTransGen.refl

theorem Served.andThen {s t u : State} (h : Served s t) (c : Serve t u) : Served s u := Relation.ReflTransGen.tail h c

theorem Served.keeps {I : State → Prop} (step : ∀ {s t : State}, Serve s t → I s → I t) {s t : State} (h : Served s t)
    (hs : I s) : I t := by
  induction h with
  | refl => exact hs
  | tail _ c ih => exact step c ih

section Served
variable {s t : State}

theorem linkServed_of_same {l m : Link} (periph : m.periph = l.periph) (passes : m.passQueue = l.passQueue)
    (verdicts : m.verdicts = l.verdicts) (inhibit : m.inhibit = l.inhibit) (kept : m.inhibitKept = l.inhibitKept) :
    LinkServed l m :=
  ⟨periph, by rw [passes], by rw [verdicts], fun p hi hk => ⟨by rw [inhibit, hi], by rw [kept, hk]⟩⟩

theorem standIn_served (p : Position) (h : Served s t) : Served s (standIn p t) := by
  have taken : Served s (onPeriph (cardAddr p) (fun x => { x with pollDue := none }) t) :=
    h.andThen (.periph _ t periphServed_polled)
  obtain e | ⟨age, c, -, -, ⟨-, e⟩ | ⟨-, -, e⟩⟩ := standIn_cases p t
  · rwa [e]
  · rwa [e]
  · rw [e]
    exact taken.andThen (.link _ (linkServed_of_same rfl rfl rfl rfl rfl))

theorem defer_served (r : ReadyFrame) (h : Served s t) : Served s (defer r t) := by
  have counted : Served s (onCounters (frameAddr r.frame) (fun c => { c with deferrals := bump16 c.deferrals }) t) :=
    h.andThen (.periph _ t fun x => ⟨rfl, rfl, rfl, rfl, id, .inl rfl⟩)
  unfold defer
  dsimp only
  split
  · exact counted.andThen (.link _ (linkServed_of_same rfl rfl rfl rfl rfl))
  · exact (counted.andThen (.contention _ _)).andThen (.link _ (linkServed_of_same rfl rfl rfl rfl rfl))

/-- A frame that was chosen leaves the place where it was ready. -/
theorem unready_served {r : ReadyFrame} (h : Served s t) (chosen : choose t = some r) : Served s (unready r t) := by
  unfold unready
  split
  · exact h.andThen (.periph _ t periphServed_polled)
  · exact h.andThen (.periph _ t fun x => ⟨rfl, rfl, rfl, rfl, fun _ => rfl, .inl rfl⟩)
  · exact h.andThen (.link t ⟨rfl, List.Sublist.refl _, List.erase_sublist, fun p hi hk => ⟨hi, hk⟩⟩)
  · rename_i p m frame
    refine h.andThen (.link t ⟨rfl, List.Sublist.refl _, List.Sublist.refl _, fun q hi hk => ?_⟩)
    have hq : q ≠ p := by
      rintro rfl
      rw [choose_inhibit chosen frame] at hi
      cases hi
    exact ⟨by rw [Pair.get_set_ne _ hq, hi], by rw [Pair.get_set_ne _ hq, hk]⟩
  · exact h.andThen (.dispense _ t)
  · exact h.andThen (.link t (linkServed_of_same rfl rfl rfl rfl rfl))
  · exact h.andThen (.progress _ t)
  · exact h.andThen (.progress _ t)
  · exact h.andThen (.link t ⟨rfl, List.erase_sublist, List.Sublist.refl _, fun p hi hk => ⟨hi, hk⟩⟩)

theorem handOut_served (busy : Bool) (h : Served s t) : Served s (handOut busy t) := by
  unfold handOut
  split
  · split
    · exact h
    · split
      · exact h
      · split
        · exact defer_served _ h
        · exact (unready_served h ‹_›).andThen (.link _ (linkServed_of_same rfl rfl rfl rfl rfl))
  all_goals exact h

theorem settle_served (busy : Bool) (s : State) : Served s (settle busy s) :=
  (handOut_served busy (standIn_served .B (standIn_served .A (.refl s)))).andThen (.finish _)

end Served

section Kept
variable {s t : State} {a : Addr}

theorem onPeriph_periph {f : Peripheral → Peripheral} (b : Addr) :
    periph b (onPeriph a f s) = if b = a then f (periph a s) else periph b s := by
  split
  · subst b
    exact periph_onPeriph_self a f s
  · exact periph_onPeriph_ne ‹_› f s

theorem notify_periph (c : Nat) (b : NoticeBody) (s : State) (a : Addr) : periph a (notify c b s) = periph a s := rfl

/-- A fault raised changes the peripherals alone of the link. -/
theorem raiseFault_link (a : Addr) (f : Flag) (s : State) :
    (raiseFault a f s).link = { s.link with periph := (raiseFault a f s).link.periph } := by
  unfold raiseFault
  split <;> rfl

theorem raiseFault_periph (f : Flag) (b : Addr) :
    periph b (raiseFault a f s) = if b = a then { periph a s with flags := flagSet (periph a s).flags f } else periph b s := by
  unfold raiseFault
  split
  · rename_i set
    split
    · rename_i e
      subst e
      have same : flagSet (periph b s).flags f = (periph b s).flags := by
        cases f <;> simp only [flagGet] at set <;> simp only [flagSet] <;> rw [← set]
      rw [same]
    · rfl
  · rw [notify_periph, onPeriph_periph]

theorem Served.periph (h : Served s t) (a : Addr) : PeriphServed (periph a s) (periph a t) := by
  refine h.keeps (I := fun u => PeriphServed (Machine.periph a s) (Machine.periph a u)) (fun {u v} c hs => hs.trans ?_) (.refl _)
  cases c with
  | periph b _ step =>
    rw [onPeriph_periph]
    split
    · subst a
      exact step _
    · exact .refl _
  | contention b =>
    rw [raiseFault_periph]
    split
    · subst a
      exact ⟨rfl, rfl, rfl, rfl, id, .inr rfl⟩
    · exact .refl _
  | link _ step =>
    rw [Machine.periph, Machine.periph, onLink_link, step.1]
    exact .refl _
  | progress f =>
    rw [Machine.periph, Machine.periph, onProgress_link]
    exact .refl _
  | finish =>
    rw [Machine.periph, Machine.periph, finish_link]
    exact .refl _
  | dispense f => exact .refl _

theorem settled_periph (busy : Bool) (s : State) (a : Addr) :
    PeriphServed (Machine.periph a (standIn .B (standIn .A s))) (Machine.periph a (settle busy s)) :=
  ((handOut_served busy (.refl _)).andThen (.finish _)).periph a

/-- The pass-through queue only shrinks. -/
theorem Served.passQueue (h : Served s t) : t.link.passQueue.Sublist s.link.passQueue := by
  refine h.keeps (I := fun u => u.link.passQueue.Sublist s.link.passQueue) (fun {u v} c hs => ?_) (.refl _)
  cases c with
  | link _ step => exact step.2.1.trans hs
  | contention b => rwa [raiseFault_link]
  | progress f => rwa [onProgress_link]
  | finish => rwa [finish_link]
  | periph b _ step => exact hs
  | dispense f => exact hs

/-- The waiting verdicts only shrink. -/
theorem Served.verdicts (h : Served s t) : t.link.verdicts.Sublist s.link.verdicts := by
  refine h.keeps (I := fun u => u.link.verdicts.Sublist s.link.verdicts) (fun {u v} c hs => ?_) (.refl _)
  cases c with
  | link _ step => exact step.2.2.1.trans hs
  | contention b => rwa [raiseFault_link]
  | progress f => rwa [onProgress_link]
  | finish => rwa [finish_link]
  | periph b _ step => exact hs
  | dispense f => exact hs

/-- No INHIBIT comes up. -/
theorem Served.inhibits (h : Served s t) {p : Position} (wait : s.link.inhibit.get p = none) (kept : s.link.inhibitKept.get p = none) :
    t.link.inhibit.get p = none ∧ t.link.inhibitKept.get p = none := by
  refine h.keeps (I := fun u => u.link.inhibit.get p = none ∧ u.link.inhibitKept.get p = none) (fun {u v} c hs => ?_) ⟨wait, kept⟩
  cases c with
  | link _ step => exact step.2.2.2 p hs.1 hs.2
  | contention b => rwa [raiseFault_link]
  | progress f => rwa [onProgress_link]
  | finish => rwa [finish_link]
  | periph b _ step => exact hs
  | dispense f => exact hs

theorem Served.dispense (h : Served s t) (out : s.change.dispense = none) : t.change.dispense = none := by
  refine h.keeps (I := fun u => u.change.dispense = none) (fun {u v} c hs => ?_) out
  cases c with
  | contention b => rwa [raiseFault_change]
  | progress f => rwa [onProgress_change]
  | finish => rwa [finish_change]
  | dispense f => exact (congrArg (Option.map f) hs :)
  | link _ step => exact hs
  | periph b _ step => exact hs

/-! ### Answers on their way (R192) -/

theorem nextFrame_answering {x : Answer} {t : Port} (h : x ∈ t.answers ∨ x ∈ t.overflow) :
    x ∈ (nextFrame t).answers ∨ x ∈ (nextFrame t).overflow ∨ (nextFrame t).tx = .answer x := by
  unfold nextFrame
  split
  · rename_i y rest answers
    rw [answers] at h
    obtain h | h := h
    · obtain rfl | h := List.mem_cons.1 h
      · exact .inr (.inr rfl)
      · exact .inl (List.mem_append_left _ h)
    · rw [← List.take_append_drop 1 t.overflow] at h
      obtain h | h := List.mem_append.1 h
      · exact .inl (List.mem_append_right _ h)
      · exact .inr (.inl h)
  · rename_i answers
    have waits : x ∈ t.overflow := by simpa [answers] using h
    split <;> exact .inr (.inl waits)

theorem finish_answering {x : Answer} (h : Answering x s) : Answering x (finish s) := by
  have kicked : Answering x (kick s) := by
    unfold kick
    split
    · rename_i tx
      obtain h | h | h := h
      · exact nextFrame_answering (.inl h)
      · exact nextFrame_answering (.inr h)
      · rw [tx] at h
        cases h
    · exact h
    · exact h
  exact kicked

theorem answering_of_port {x : Answer} (h : Answering x s) (answers : t.port.answers = s.port.answers)
    (waiting : t.port.overflow = s.port.overflow) (tx : t.port.tx = s.port.tx) : Answering x t := by
  rwa [Answering, answers, waiting, tx]

theorem MasksOnly.answering (m : MasksOnly s t) {x : Answer} (h : Answering x s) : Answering x t := by
  obtain ⟨-, ns, n, port⟩ := m
  exact answering_of_port h (by rw [port]) (by rw [port]) (by rw [port])

theorem notify_answering {c : Nat} {b : NoticeBody} {x : Answer} (h : Answering x s) : Answering x (notify c b s) :=
  (notify_masksOnly c b s).answering h

theorem raiseFault_answering {f : Flag} {x : Answer} (h : Answering x s) : Answering x (raiseFault a f s) := by
  unfold raiseFault
  split
  · exact h
  · exact notify_answering h

/-- An answer that becomes ready is on its way, and so are those before it. -/
theorem enqueue_answering (x : Answer) (s : State) : Answering x (enqueue x s) := by
  unfold enqueue Answering
  rw [onPort_port]
  split <;> simp

theorem answering_enqueue {x y : Answer} (h : Answering x s) : Answering x (enqueue y s) := by
  unfold enqueue
  unfold Answering at h ⊢
  rw [onPort_port]
  split
  · exact h.imp_left (List.mem_append_left _)
  · exact h.imp_right (Or.imp_left (List.mem_append_left _))

theorem Served.answering (h : Served s t) {x : Answer} (hx : Answering x s) : Answering x t := by
  refine h.keeps (I := Answering x) (fun {u v} c hs => ?_) hx
  cases c with
  | contention b => exact raiseFault_answering hs
  | progress f => exact answering_of_port hs (by rw [onProgress_port]) (by rw [onProgress_port]) (by rw [onProgress_port])
  | finish => exact finish_answering hs
  | link _ step => exact hs
  | periph b _ step => exact hs
  | dispense f => exact hs

/-! ### The print unit in service -/

theorem activeJob_slot {i : Fin 8} {j : Job} {g : Progress} (h : activeJob s = some (i, j, g)) : slotOf i s = .active j g := by
  obtain ⟨x, hx, e⟩ := List.exists_of_findSome?_eq_some h
  obtain ⟨k, -, rfl⟩ := List.mem_map.1 hx
  dsimp only at e
  split at e
  · rename_i active
    cases e
    exact active
  · cases e

/-- The job in progress stays in its slot. -/
theorem onProgress_busy {f : Progress → Progress} {i : Fin 8} (h : (slotOf i (onProgress f s)).Busy) : (slotOf i s).Busy := by
  unfold onProgress at h
  split at h
  · rename_i k j g active
    by_cases hi : i = k
    · rw [hi, activeJob_slot active]
      exact .inr ⟨j, g, rfl⟩
    · rwa [slotOf_setSlot_ne hi] at h
  · exact h

theorem onProgress_stale (f : Progress → Progress) (s : State) : (onProgress f s).print.stale = s.print.stale := by
  unfold onProgress
  split <;> rfl

theorem Served.busy (h : Served s t) {i : Fin 8} (hb : (slotOf i t).Busy) : (slotOf i s).Busy := by
  refine h.keeps (I := fun u => (slotOf i u).Busy → (slotOf i s).Busy) (fun {u v} c hs hb => hs ?_) id hb
  cases c with
  | contention b => rwa [slotOf, raiseFault_print] at hb
  | progress f => exact onProgress_busy hb
  | finish => rwa [slotOf, finish_print] at hb
  | link _ step => exact hb
  | periph b _ step => exact hb
  | dispense f => exact hb

theorem Served.stale (h : Served s t) : t.print.stale = s.print.stale := by
  refine h.keeps (I := fun u => u.print.stale = s.print.stale) (fun {u v} c hs => ?_) rfl
  cases c with
  | contention b => rwa [raiseFault_print]
  | progress f => rwa [onProgress_stale]
  | finish => rwa [finish_print]
  | link _ step => exact hs
  | periph b _ step => exact hs
  | dispense f => exact hs

end Kept
end Sys2Proof.Machine

namespace Sys2Proof.Machine

section Serving
variable {s : State}

/-! ### A step's end -/

theorem onPeriph_onPeriph (a : Addr) (f g : Peripheral → Peripheral) (s : State) :
    onPeriph a f (onPeriph a g s) = onPeriph a (fun x => f (g x)) s := by
  simp [onPeriph, onLink, vmodify, vset, vget_eq]

/-- The masks recomputed, the line handed out and the transmit line served: how a step of the device link ends. -/
def served (busy : Bool) (s : State) : State := settle busy (masks none s)

theorem served_periph (busy : Bool) (s : State) (a : Addr) : PeriphServed (periph a s) (periph a (served busy s)) := by
  rw [← masks_periph none s a]
  exact (settle_served busy _).periph a

theorem served_unserved (busy : Bool) (s : State) : unserved (served busy s) = unserved s :=
  (settle_unserved _ busy).trans (masks_unserved s none)

theorem served_box (busy : Bool) (s : State) : (served busy s).change.box = s.change.box :=
  (congrArg (fun u => u.change.box) (served_unserved busy s) :)

theorem served_journal (busy : Bool) (s : State) : (served busy s).journal = s.journal :=
  (congrArg Unserved.journal (served_unserved busy s) :)

theorem served_last (busy : Bool) (s : State) : (served busy s).print.last = s.print.last :=
  (congrArg (fun u => u.print.last) (served_unserved busy s) :)

theorem served_stale (busy : Bool) (s : State) : (served busy s).print.stale = s.print.stale := by
  rw [served, (settle_served busy _).stale, masks_print]

/-- A flag that is raised stays raised. -/
theorem PeriphServed.flag {x y : Peripheral} (h : PeriphServed x y) {f : Flags → Bool} (hf : f x.flags = true)
    (contention : ∀ g : Flags, f { g with contention := true } = true ∨ f { g with contention := true } = f g) :
    f y.flags = true := by
  obtain ⟨-, -, -, -, -, e | e⟩ := h
  · rw [e, hf]
  · rw [e]
    obtain c | c := contention x.flags
    · exact c
    · rw [c, hf]

theorem sortEvent_controlled {p : Position} {t : State} {a : Addr} {c : Byte} {d : EventData} {r : PartResult}
    (h : Controlled p s t) : Controlled p s (sortEvent a c d r t) := by
  unfold sortEvent
  split
  · exact h.andThen (.notice _ _ t)
  · exact h.andThen (.notice _ _ t)
  · exact h

theorem sortEvent_controls (a : Addr) (c : Byte) (d : EventData) (r : PartResult) (s : State) : Controls s (sortEvent a c d r s) :=
  (sortEvent_controlled (Controlled.refl .A s)).controls

theorem append_controls (pos : Option Position) (b : RecordBody) (s : State) : Controls s (append pos b s) :=
  (append_controlled (Controlled.refl .A s)).controls

/-! ### Answers in their window -/

theorem receive_fits {a : Addr} {kind : Nat} {busy : Bool} {f : ReadyFrame → State → State} {r : ReadyFrame} (on : running s = true)
    (line : s.link.line = .window r) (fit : fits r.frame a kind = true) :
    receive a kind busy f s = served busy (f r (countAnswered r.frame (freeLine s))) := by
  simp only [receive, on, line, fit, if_true, served, Bool.true_eq_false, if_false]

/-- A frame of the controller's own, or one forwarded outside a lend, is counted. -/
theorem countAnswered_heard {f : LinkFrame} (own : lendFrame f = false) : countAnswered f (freeLine s) = heard (frameAddr f) s := by
  simp only [countAnswered, own, Bool.false_eq_true, if_false]
  rfl

/-! ### ANNOUNCE (R168) -/

/-- The peripheral is ONLINE with its revision, and its last report is forgotten (R168). -/
def cameOnline (a : Addr) (rev : Byte) (s : State) : State :=
  onPeriph a (fun x => { x with state := .online, revision := some rev, lastReport := none, missingDue := false }) (heard a s)

section Announce
variable {a : Addr} {k : Announced} {rev : Byte} {busy : Bool} {age : Nat}

theorem cameOnline_periph (a : Addr) (rev : Byte) (s : State) : (periph a (cameOnline a rev s)).state = .online ∧
    (periph a (cameOnline a rev s)).revision = some rev ∧ (periph a (cameOnline a rev s)).lastReport = none := by
  rw [cameOnline, periph_onPeriph_self]
  exact ⟨rfl, rfl, rfl⟩

theorem announceTaken_heard (a : Addr) (k : Announced) (rev : Byte) (s : State) :
    announceTaken a k rev (heard a s) = handAnnounce a k rev (cameOnline a rev s) := by
  simp only [announceTaken, cameOnline, heard, onPeriph_onPeriph]

theorem announceAnswer_taken (on : running s = true) (line : s.link.line = .window ⟨age, .announce a⟩)
    (kind : announcedKind k = some (addrKind a)) :
    exec (.announceAnswer a k rev busy) s = .next (served busy (handAnnounce a k rev (cameOnline a rev s))) := by
  have own : wrongAnnounce a k s = none := by simp [wrongAnnounce, wrongKind, line, kind]
  have fit : fits (.announce a) a 130 = true := by simp [fits, frameAddr, frameCode, answers]
  rw [← announceTaken_heard]
  show Host.Outcome.next _ = _
  rw [own, receive_fits on line fit, countAnswered_heard rfl]
  simp only [on]
  rfl

theorem announceAnswer_wrong (on : running s = true) (line : s.link.line = .window ⟨age, .announce a⟩)
    (kind : announcedKind k ≠ some (addrKind a)) :
    exec (.announceAnswer a k rev busy) s =
      .next (served busy (countUnanswered (.announce a) (freeLine (raiseFault a .moduleError s)))) := by
  have wrong : wrongAnnounce a k s = some ⟨age, .announce a⟩ := by simp [wrongAnnounce, wrongKind, line, kind]
  show Host.Outcome.next _ = _
  rw [wrong]
  simp only [on]
  rfl

/-- An ANNOUNCE answered with another kind is unanswered, with MODULE_ERROR (R168). -/
theorem wrongAnnounce_periph (a : Addr) (s : State) :
    let x := periph a (countUnanswered (.announce a) (freeLine (raiseFault a .moduleError s)))
    x.state = (periph a s).state ∧ x.revision = (periph a s).revision ∧ x.flags.moduleError = true ∧
      x.streak = min 255 ((periph a s).streak + 1) := by
  have raised : periph a (freeLine (raiseFault a .moduleError s)) =
      { periph a s with flags := flagSet (periph a s).flags .moduleError } := by
    show periph a (raiseFault a .moduleError s) = _
    rw [raiseFault_periph, if_pos rfl]
  simp [countUnanswered, lendFrame, frameAddr, raised, flagSet]

theorem handAnnounce_validator (p : Position) (rev : Byte) (s : State) (on : (periph (valAddr p) s).state = .online)
    (line : s.link.line = .idle) :
    handAnnounce (valAddr p) .validator rev s = sortEvent (valAddr p) 0 (.announced .validator rev) (.announced .validator rev)
      (onLink (fun l => { l with inhibit := l.inhibit.set p (some (((s.link.inhibit.get p).map Prod.fst).getD s.port.moment,
        effectiveMask p s)) }) s) := by
  have out : inhibitOut p s = false := by simp only [inhibitOut, line]
  have sent := sendMask_waiting (m := effectiveMask p s) on out
  cases p <;> simp only [handAnnounce, valAddr] at sent ⊢ <;> rw [sent] <;> rfl

/-- What the box switch's state makes of the cash box (R67). -/
theorem boxState_box (present : Bool) (s : State) :
    (boxState present s).1.change.box.present = present ∧
    (present = s.change.box.present → (boxState present s).1 = s) ∧
    (present = false → s.change.box.present = true → (boxState present s).1.change.box.count = 0) := by
  unfold boxState
  dsimp only
  split
  · exact ⟨by simp_all, fun _ => rfl, fun h k => by simp_all⟩
  · rename_i moved
    split
    · exact ⟨by simp_all [onBox], fun h => absurd h moved, fun h => by simp_all⟩
    · exact ⟨by simp_all [onBox], fun h => absurd h moved, fun _ _ => rfl⟩

theorem handAnnounce_changer_box (present : Bool) (rev : Byte) (s : State) :
    (handAnnounce .changer (.changer present) rev s).change.box = (boxState present s).1.change.box := by
  rw [handAnnounce, sortEvent_change, masks_change]

theorem handAnnounce_changer_journal (present : Bool) (rev : Byte) (s : State) :
    (handAnnounce .changer (.changer present) rev s).journal = (boxState present s).1.journal := by
  rw [handAnnounce, sortEvent_journal, masks_journal]

theorem boxState_periph (present : Bool) (s : State) (a : Addr) : periph a (boxState present s).1 = periph a s := by
  unfold boxState
  dsimp only
  split
  · rfl
  · split <;> exact (append_controls _ _ _).periph a

theorem handAnnounce_changer_periph (present : Bool) (rev : Byte) (s : State) :
    periph .changer (handAnnounce .changer (.changer present) rev s) = periph .changer s := by
  rw [handAnnounce]
  exact ((sortEvent_controls _ _ _ _ _).periph _).trans ((masks_periph _ _ _).trans (boxState_periph present s .changer))

/-- What the contents leave alone, a peripheral that came ONLINE shows after the step. -/
theorem served_online {t : State} (kept : periph a t = periph a (cameOnline a rev s)) :
    (periph a (served busy t)).state = .online ∧ (periph a (served busy t)).revision = some rev ∧
      (periph a (served busy t)).lastReport = none := by
  obtain ⟨state, revision, report, -, -⟩ := served_periph busy t a
  obtain ⟨on, rv, rp⟩ := cameOnline_periph a rev s
  rw [kept] at state revision report
  exact ⟨state.trans on, revision.trans rv, report.trans rp⟩

end Announce

/-! ### The printer's status (R138, R140) -/

section Status
variable {p : Position} {t : State}

/-- The status taken, its fault raised and its event sorted, before any job is looked at (R138). -/
def statusNoted (st : PrinterStatus) (s : State) : State :=
  let kept := onPrint (fun u => { u with last := some st, stale := false }) s
  let raised := (statusFault st).elim kept fun f => raiseFault .printer f kept
  if s.print.last.isSome ∧ s.print.last ≠ some st then sortEvent .printer 2 (.status st) (.status st) raised else raised

theorem failActive_controlled {always : Bool} (h : Controlled p s t) : Controlled p s (failActive always t).1 := by
  unfold failActive
  split
  · exact h
  · have freed {i : Fin 8} : Controlled p s (setSlot i .free t) := setSlot_controlled h fun _ => not_busy_free
    exact jobFailed_controlled (controlled_ite (onPrint_controlled freed fun _ => ⟨rfl, rfl, rfl⟩) freed)

theorem failStub_controlled (h : Controlled p s t) : Controlled p s (failStub t) := onPrint_controlled h fun _ => ⟨rfl, rfl, rfl⟩

theorem failWaitingList_controlled (xs : List (Fin 8 × Job)) (h : Controlled p s t) :
    Controlled p s (failWaitingList xs t).1 := by
  induction xs generalizing t with
  | nil => exact h
  | cons x xs ih => exact ih (jobFailed_controlled (setSlot_controlled h fun _ => not_busy_free))

theorem failAll_controlled (h : Controlled p s t) : Controlled p s (failAll t).1 :=
  failWaitingList_controlled _ (failStub_controlled (failActive_controlled h))

theorem failPaperOut_controlled (keepActive keepStub : Bool) (h : Controlled p s t) :
    let a := if keepActive then (t, []) else failActive false t
    Controlled p s (failWaiting (if keepStub then a.1 else failStub a.1)).1 := by
  have kept : Controlled p s (if keepActive then (t, []) else failActive false t).1 := by
    split
    · exact h
    · exact failActive_controlled h
  exact failWaitingList_controlled _ (controlled_ite kept (failStub_controlled kept))

/-- All that a status does after it is noted is the controllers' work. -/
theorem takeStatus_controls (st : PrinterStatus) (s : State) : Controls (statusNoted st s) (takeStatus st s).1 := by
  have noted := Controlled.refl .A (statusNoted st s)
  cases st with
  | ready => exact (tryBegin_controlled noted).controls
  | paperLow => exact (tryBegin_controlled noted).controls
  | jammed => exact (failAll_controlled noted).controls
  | paperOut => exact (failPaperOut_controlled _ _ noted).controls

theorem handStatus_controls (st : PrinterStatus) (s : State) : Controls (statusNoted st s) (handTickets (takeStatus st s)) :=
  (takeStatus_controls st s).trans (handTickets_controls _)

theorem statusNoted_last (st : PrinterStatus) (s : State) :
    (statusNoted st s).print.last = some st ∧ (statusNoted st s).print.stale = false := by
  unfold statusNoted
  dsimp only
  have kept : ∀ f : Option Flag, (f.elim (onPrint (fun u => { u with last := some st, stale := false }) s)
      fun f => raiseFault .printer f (onPrint (fun u => { u with last := some st, stale := false }) s)).print =
        { s.print with last := some st, stale := false } := by
    rintro (_ | f)
    · rfl
    · exact raiseFault_print _ _ _
  split
  · rw [sortEvent_print, kept]
    exact ⟨rfl, rfl⟩
  · rw [kept]
    exact ⟨rfl, rfl⟩

theorem statusNoted_periph (st : PrinterStatus) (s : State) : periph .printer (statusNoted st s) =
    { periph .printer s with flags := (statusFault st).elim (periph .printer s).flags (flagSet (periph .printer s).flags) } := by
  have raised : ∀ f : Option Flag, periph .printer (f.elim (onPrint (fun u => { u with last := some st, stale := false }) s)
      fun f => raiseFault .printer f (onPrint (fun u => { u with last := some st, stale := false }) s)) =
        { periph .printer s with flags := f.elim (periph .printer s).flags (flagSet (periph .printer s).flags) } := by
    rintro (_ | f)
    · rfl
    · exact (raiseFault_periph f .printer).trans (if_pos rfl)
  unfold statusNoted
  dsimp only
  split
  · rw [(sortEvent_controls _ _ _ _ _).periph, raised]
  · exact raised _

/-- A status handed on, the masks recomputed and the event sorted keep the peripherals and the last status. -/
theorem handAnnounce_printer_periph (st : PrinterStatus) (rev : Byte) (s : State) :
    periph .printer (handAnnounce .printer (.printer st) rev s) = periph .printer (statusNoted st s) := by
  rw [handAnnounce]
  exact ((sortEvent_controls _ _ _ _ _).periph _).trans ((masks_periph _ _ _).trans ((handStatus_controls st s).periph _))

theorem handAnnounce_printer_last (st : PrinterStatus) (rev : Byte) (s : State) :
    (handAnnounce .printer (.printer st) rev s).print.last = some st ∧
    (handAnnounce .printer (.printer st) rev s).print.stale = false := by
  rw [handAnnounce, sortEvent_print, masks_print, (handStatus_controls st s).print.1, (handStatus_controls st s).print.2]
  exact statusNoted_last st s

/-- After an ANNOUNCE answer the printer is ONLINE, whatever its status; PAPER_OUT shows in its flag. -/
theorem served_printer (st : PrinterStatus) (rev : Byte) (busy : Bool) (s : State) :
    let x := periph .printer (served busy (handAnnounce .printer (.printer st) rev (cameOnline .printer rev s)))
    x.state = .online ∧ x.revision = some rev ∧ x.lastReport = none ∧ (st = .paperOut → x.flags.paperOut = true) := by
  have kept := served_periph busy (handAnnounce .printer (.printer st) rev (cameOnline .printer rev s)) .printer
  rw [handAnnounce_printer_periph, statusNoted_periph] at kept
  obtain ⟨on, rv, rp⟩ := cameOnline_periph .printer rev s
  refine ⟨kept.1.trans on, kept.2.1.trans rv, kept.2.2.1.trans rp, ?_⟩
  rintro rfl
  exact kept.flag (f := Flags.paperOut) rfl fun _ => .inr rfl

end Status

/-! ### Acknowledgements (R41, R175, R177) -/

theorem acknowledgement_taken {a : Addr} {set : Option (BitVec 8)} {busy : Bool} {r : ReadyFrame} (on : running s = true)
    (line : s.link.line = .window r) (fit : fits r.frame a 131 = true) (own : lendFrame r.frame = false) :
    exec (.acknowledgement a set busy) s = .next (served busy (acknowledged set r (heard (frameAddr r.frame) s))) := by
  rw [← countAnswered_heard own, ← receive_fits on line fit]
  rfl

theorem inhibitTo_validator {q : QueuedPass} {p : Position} (addr : q.addr = valAddr p) (code : q.code = 4)
    (plain : q.unfiltered = false) : inhibitTo q = some p := by
  cases p <;> simp [inhibitTo, addr, valAddr, code, plain]

theorem acknowledged_pass {age : Nat} {q : QueuedPass} {p : Position} {set : BitVec 8} (h : inhibitTo q = some p) :
    acknowledged (some set) ⟨age, .pass q⟩ s = passReply q (some (.ack (some set))) (setAcked p set s) := by
  simp only [acknowledged, h]

theorem acknowledged_dispense {age : Nat} {p : Position} {i : Fin 6} {n : Nat} {d : Dispense} (out : s.change.dispense = some d) :
    acknowledged none ⟨age, .dispense p i n⟩ s = onChange (fun c => { c with dispense := some { d with acked := true } }) s := by
  simp only [acknowledged, onChange, out, Option.map_some]

/-! ### The event table (R181) -/

theorem sortEvent_none {a : Addr} {c : Byte} {d : EventData} {r : PartResult}
    (h : s.fare.live.events.filter (fun x => decide (x.kind = addrKind a) && decide (x.code = c)) = []) :
    sortEvent a c d r s = s := by
  have none : s.fare.live.events.find? (fun x => decide (x.kind = addrKind a) && decide (x.code = c)) = none := by
    rw [← List.head?_filter, h]
    rfl
  simp only [sortEvent, eventRule, none]

theorem sortEvent_sole {a : Addr} {c : Byte} {d : EventData} {r : PartResult} {x : EventRule}
    (h : s.fare.live.events.filter (fun x => decide (x.kind = addrKind a) && decide (x.code = c)) = [x]) :
    sortEvent a c d r s =
      (match x.disp with
       | .consume => s
       | .forward => notify x.cls (.deviceEvent a c d none) s
       | .both => notify x.cls (.deviceEvent a c d (some r)) s) := by
  have sole : s.fare.live.events.find? (fun x => decide (x.kind = addrKind a) && decide (x.code = c)) = some x := by
    rw [← List.head?_filter, h]
    rfl
  simp only [sortEvent, eventRule, sole]
  cases x.disp <;> rfl

end Serving
end Sys2Proof.Machine

namespace Sys2Proof.Proofs
open Sys2Proof Sys2Proof.Machine

/-- Settles O50: each kind of ANNOUNCE answer by what its contents hand on, then the acknowledgements, then the event table. -/
theorem announceAndAcknowledge : Obligations.AnnounceAndAcknowledge := by
  intro age rev busy s on done up
  refine ⟨fun p line => ⟨?_, ?_⟩, fun p line => ?_, fun line present => ?_, fun line st => ?_, fun p m set line => ?_,
    fun p q set line addr code plain => ?_, fun p t n d line out => ?_, fun a code d part => ⟨fun none => ?_, fun x sole => ?_⟩⟩
  · rw [announceAnswer_taken on line (by cases p <;> rfl)]
    cases p <;> rfl
  · refine ⟨_, announceAnswer_wrong on line (by cases p <;> decide), ?_⟩
    obtain ⟨state, rev, error, streak⟩ := wrongAnnounce_periph (cardAddr p) s
    have kept := served_periph busy (countUnanswered (.announce (cardAddr p)) (freeLine (raiseFault (cardAddr p) .moduleError s)))
      (cardAddr p)
    have flag := kept.flag (f := Flags.moduleError) error fun _ => .inr rfl
    obtain ⟨state', rev', -, streak', -, -⟩ := kept
    exact ⟨state'.trans state, rev'.trans rev, flag, streak'.trans streak⟩
  · rw [announceAnswer_taken on line (by cases p <;> rfl),
      handAnnounce_validator p rev _ (cameOnline_periph (valAddr p) rev s).1 rfl]
    cases p <;> rfl
  · obtain ⟨onl, rv, rp⟩ := served_online (busy := busy) (handAnnounce_changer_periph present rev (cameOnline .changer rev s))
    obtain ⟨there, same, removed⟩ := boxState_box present (cameOnline .changer rev s)
    refine ⟨_, announceAnswer_taken on line rfl, onl, rv, rp, ?_, fun h => ⟨?_, ?_⟩, fun gone was => ?_⟩
    · rw [served_box, handAnnounce_changer_box, there]
    · rw [served_box, handAnnounce_changer_box, same h]
      rfl
    · rw [served_journal, handAnnounce_changer_journal, same h]
      rfl
    · rw [served_box, handAnnounce_changer_box, removed gone was]
  · obtain ⟨onl, rv, rp, paper⟩ := served_printer st rev busy s
    obtain ⟨last, stale⟩ := handAnnounce_printer_last st rev (cameOnline .printer rev s)
    exact ⟨_, announceAnswer_taken on line rfl, onl, rv, rp, by rw [served_last, last], by rw [served_stale, stale], paper⟩
  · rw [acknowledgement_taken on line (by cases p <;> rfl) rfl]
    rfl
  · have fit : fits (.pass q) (valAddr p) 131 = true := by simp [fits, frameAddr, frameCode, answers, addr, code]
    rw [acknowledgement_taken on line fit plain, acknowledged_pass (inhibitTo_validator addr code plain), ← addr]
    rfl
  · rw [acknowledgement_taken on line rfl rfl, acknowledged_dispense (s := heard _ s) out]
    rfl
  · exact sortEvent_none none
  · exact sortEvent_sole sole

end Sys2Proof.Proofs

namespace Sys2Proof.Machine

/-! ### A coin's entry leaves the list unrouted (R34–R36) -/

section Drop
variable {p : Position} {e : Outstanding} {s t : State}

theorem reviewPlan_eq (p : Position) (s : State) : reviewPlan p s = onResv p (fun _ => resv p (reviewPlan p s)) s := by
  have self : s = onResv p (fun _ => resv p s) s := by cases p <;> rfl
  unfold reviewPlan
  split
  · exact self
  · split
    · simp only [dropToCover, resv_onResv_self]
      rfl
    · split
      · simp only [reserveProvisional, resv_onResv_self]
        rfl
      · simp only [dropToCover, resv_onResv_self]
        rfl

/-- An entry dropped changes the list and its position's reservations. -/
theorem dropEntry_eq (p : Position) (e : Outstanding) (s : State) :
    dropEntry p e s = onResv p (fun _ => resv p (dropEntry p e s)) (removeEntry p e.seq s) := by
  unfold dropEntry
  dsimp only
  split
  · exact reviewPlan_eq p _
  · cases p <;> rfl

/-- What is left of a state whose entry is dropped: the shorter list, and the reservations reviewed. -/
theorem dropEntry_blocks (p : Position) (e : Outstanding) (s : State) : dropEntry p e s = { s with
    coins := s.coins.set p { lane p s with list := (lane p s).list.filter fun x => !decide (x.seq = e.seq) }
    change := { s.change with resv := s.change.resv.set p (resv p (dropEntry p e s)) } } := by
  conv => lhs; rw [dropEntry_eq]
  rfl

theorem currentList_dropEntry (p : Position) (e : Outstanding) (s : State) : currentList p (dropEntry p e s) =
    ((lane p s).list.filter fun x => !decide (x.seq = e.seq)).filter fun x => current p x s := by
  rw [dropEntry_eq]
  cases p <;> rfl

/-- A late entry leaves the reservations alone. -/
theorem dropEntry_late (h : current p e s = false) : resv p (dropEntry p e s) = resv p s := by
  simp only [dropEntry, h, Bool.false_eq_true, if_false]
  rfl

theorem pledged_removeEntry (p : Position) (q : Byte) (s : State) : pledged p (removeEntry p q s) = (sess p s).credit +
    ((((lane p s).list.filter fun x => !decide (x.seq = q)).filter fun x => current p x s).map (·.value)).sum := by
  cases p <;> rfl

theorem reviewPlan_other (h : (resv p s).mode ≠ .provisional) : reviewPlan p s = s := if_pos h

theorem reviewPlan_cover (mode : (resv p s).mode = .provisional)
    (h : pledged p s ≤ (sess p s).due ∨ planAt s p (pledged p s - (sess p s).due) = none) : reviewPlan p s = dropToCover p s := by
  rw [reviewPlan, if_neg (not_not.2 mode)]
  obtain h | h := h
  · rw [if_pos h]
  · rw [h]
    split <;> rfl

theorem reviewPlan_planned {pl : Plan} (mode : (resv p s).mode = .provisional) (above : (sess p s).due < pledged p s)
    (plan : planAt s p (pledged p s - (sess p s).due) = some pl) :
    reviewPlan p s = reserveProvisional p pl (pledged p s - (sess p s).due) s := by
  rw [reviewPlan, if_neg (not_not.2 mode), if_neg (Nat.not_le.2 above), plan]

/-- One of the session has its plan reviewed (R36). -/
theorem dropEntry_current (h : current p e s = true) :
    PlanReviewed p ((lane p s).list.filter fun x => !decide (x.seq = e.seq)) s (dropEntry p e s) := by
  set u := removeEntry p e.seq s with hu
  have dropped : dropEntry p e s = reviewPlan p u := by simp only [dropEntry, h, if_true, hu]
  have amount := pledged_removeEntry p e.seq s
  have covered : resv p (dropToCover p u) =
      { resv p s with mode := .cover, plan := [], amount := 0, reserved := (resv p s).cover } := by cases p <;> rfl
  rw [dropped]
  refine ⟨fun other => ?_, fun mode => ⟨fun paid => ?_, fun rest none => ?_, fun pl rest some => ?_⟩⟩
  · rw [reviewPlan_other (s := u) other]
    rfl
  · rw [reviewPlan_cover (s := u) mode (.inl (amount.trans_le paid)), covered]
  · rw [reviewPlan_cover (s := u) mode (.inr (by rw [amount]; exact none)), covered]
  · rw [reviewPlan_planned (s := u) (pl := pl) mode (rest.trans_eq amount.symm) (by rw [amount]; exact some), amount,
      reserveProvisional, resv_onResv_self, ← mode]
    rfl

/-- A review is judged by the sessions, the change store and the cash tables. -/
theorem PlanReviewed.of_same {off : List Outstanding} {r u : State} (h : PlanReviewed p off r t) (sales : r.sales = s.sales)
    (change : r.change = s.change) (cash : r.cash = s.cash) (resv : resv p u = resv p t) : PlanReviewed p off s u := by
  have sess : Machine.sess p r = Machine.sess p s := sess_of_sales p sales
  have reserve (q : Position) : Machine.resv q r = Machine.resv q s := by simp only [Machine.resv, change]
  have denom : denomOf r = denomOf s := funext fun i => by simp only [denomOf, tube, coinType, change, cash]
  have available : availOf r p = availOf s p := funext fun i => by simp only [availOf, tube, reserve, change]
  simpa only [PlanReviewed, current, planAt, denoms, avail, sess, reserve, denom, available, resv] using h

/-! ### A session whose list has moved (R121, R123) -/

theorem listMoved_waits (h : currentList p s ≠ []) : listMoved p s = s := if_pos h

theorem listMoved_other (refund : (sess p s).stage ≠ .refundWait) (held : (sess p s).stage ≠ .held) : listMoved p s = s := by
  unfold listMoved
  split
  · rfl
  · split
    · exact absurd ‹_› refund
    · exact absurd ‹_› held
    · rfl

/-- With nothing further to pay, or no credit to refund, the session ends. -/
theorem listMoved_ends (out : currentList p s = []) (ends : (sess p s).stage = .held ∧ (sess p s).further = 0 ∨
    (sess p s).stage = .refundWait ∧ (sess p s).credit = 0) : listMoved p s = closeSession p s := by
  unfold listMoved
  rw [if_neg (not_not.2 out)]
  obtain ⟨stage, none⟩ | ⟨stage, none⟩ := ends
  · simp only [stage, payHeld, none, Nat.lt_irrefl, if_false]
  · simp only [stage, payRefund, none, if_true]

/-- A session that does not wait for its list, or has a coin left on it, goes on as it was. -/
theorem listMoved_dropEntry (h : (sess p s).stage ≠ .refundWait ∧ (sess p s).stage ≠ .held ∨ (sess p s).state ≠ .idle ∧
    ∃ y ∈ (lane p s).list.filter fun x => !decide (x.seq = e.seq), y.session = (sess p s).serial) :
    listMoved p (dropEntry p e s) = dropEntry p e s := by
  have same : sess p (dropEntry p e s) = sess p s := by rw [dropEntry_eq]; rfl
  obtain ⟨refund, held⟩ | ⟨busy, y, hy, hs⟩ := h
  · exact listMoved_other (by rwa [same]) (by rwa [same])
  · refine listMoved_waits (List.ne_nil_of_mem (a := y) ?_)
    rw [currentList_dropEntry]
    exact List.mem_filter.2 ⟨hy, by simp [current, hs, busy]⟩

theorem release_sess (p : Position) (r : EndReason) (s : State) : (sess p (release p r s)).state = .idle := by cases p <;> rfl

theorem release_resv (p : Position) (r : EndReason) (s : State) : resv p (release p r s) = Reserve.start := by cases p <;> rfl

/-- A close brings the session back to IDLE with nothing reserved (R124, R51). -/
theorem closeSession_ends (p : Position) (s : State) :
    (sess p (closeSession p s)).state = .idle ∧ resv p (closeSession p s) = Reserve.start := by
  unfold closeSession
  dsimp only
  split <;> exact ⟨release_sess p _ _, release_resv p _ _⟩

end Drop

/-! ### What a served step keeps -/

theorem lane_eq_of_kept {x y : Lane} (h : laneKept x = laneKept y) : x = { y with lastMask := x.lastMask } := by
  cases x
  cases y
  cases h
  rfl

section Served
variable (busy : Bool) (s : State)

theorem served_lane (p : Position) : laneKept (lane p (served busy s)) = laneKept (lane p s) :=
  laneKept_of_map (congrArg Unserved.lanes (served_unserved busy s)) p

theorem served_sales : (served busy s).sales = s.sales := (congrArg Unserved.sales (served_unserved busy s) :)

theorem served_fare : (served busy s).fare = s.fare := (congrArg Unserved.fare (served_unserved busy s) :)

theorem served_cash : (served busy s).cash = s.cash := (congrArg Unserved.cash (served_unserved busy s) :)

theorem served_cards : (served busy s).cards = s.cards := (congrArg Unserved.cards (served_unserved busy s) :)

theorem served_tubes : (served busy s).change.tubes = s.change.tubes :=
  (congrArg (fun u => u.change.tubes) (served_unserved busy s) :)

theorem served_resv (p : Position) : resv p (served busy s) = resv p s :=
  (congrArg (fun u => u.change.resv.get p) (served_unserved busy s) :)

end Served

/-! ### The settle limit (R35) -/

section SettleLimit
variable {p : Position} {seq : Byte} {e : Outstanding} {busy : Bool} {s : State}

/-- The coin counts as lost, and its entry is dropped. -/
def lostDropped (p : Position) (e : Outstanding) (s : State) : State := dropEntry p e (raiseFault (valAddr p) .lostCoin s)

theorem execSettleLimitExpiry_unlisted (h : ∀ e ∈ (lane p s).list, e.seq ≠ seq) :
    exec (.settleLimitExpiry p seq busy) s = .next s := by
  show expiry _ _ _ _ = _
  rw [findEntry_eq_none.2 h, expiry]
  simp

theorem execSettleLimitExpiry_listed (on : s.power = true) (h : findEntry p seq s = some e) :
    exec (.settleLimitExpiry p seq busy) s = .next (served busy (listMoved p (lostDropped p e s))) := by
  show expiry _ _ _ _ = _
  rw [expiry_occurs on (by rw [h]; rfl)]
  simp only [settleLimit, h]
  rfl

theorem lostDropped_blocks (p : Position) (e : Outstanding) (s : State) :
    lostDropped p e s = { raiseFault (valAddr p) .lostCoin s with
      coins := s.coins.set p { lane p s with list := (lane p s).list.filter fun x => !decide (x.seq = e.seq) }
      change := { s.change with resv := s.change.resv.set p (resv p (lostDropped p e s)) } } := by
  have dropped := dropEntry_blocks p e (raiseFault (valAddr p) .lostCoin s)
  rwa [lane, raiseFault_coins, raiseFault_change] at dropped

theorem lostDropped_sales (p : Position) (e : Outstanding) (s : State) : (lostDropped p e s).sales = s.sales := by
  rw [lostDropped_blocks]
  exact raiseFault_sales _ _ s

theorem lostDropped_flag (p : Position) (e : Outstanding) (s : State) :
    (periph (valAddr p) (lostDropped p e s)).flags.lostCoin = true := by
  rw [lostDropped_blocks]
  show (periph (valAddr p) (raiseFault _ _ s)).flags.lostCoin = true
  rw [raiseFault_periph, if_pos rfl]
  rfl

theorem current_of_sales {r t : State} (h : t.sales = r.sales) (x : Outstanding) : current p x t = current p x r := by
  simp only [current, sess_of_sales p h]

theorem lane_raiseFault (p : Position) (a : Addr) (f : Flag) (s : State) : lane p (raiseFault a f s) = lane p s := by
  rw [lane, raiseFault_coins]
  rfl

theorem currentList_lostDropped (p : Position) (e : Outstanding) (s : State) : currentList p (lostDropped p e s) =
    ((lane p s).list.filter fun x => !decide (x.seq = e.seq)).filter fun x => current p x s := by
  rw [lostDropped, currentList_dropEntry, lane_raiseFault]
  simp only [current_of_sales (raiseFault_sales (valAddr p) .lostCoin s)]

theorem lostDropped_late (h : current p e s = false) : resv p (lostDropped p e s) = resv p s := by
  rw [lostDropped, dropEntry_late ((current_of_sales (raiseFault_sales _ _ s) e).trans h), resv, raiseFault_change]
  rfl

theorem lostDropped_current (h : current p e s = true) :
    PlanReviewed p ((lane p s).list.filter fun x => !decide (x.seq = e.seq)) s (lostDropped p e s) := by
  have reviewed := dropEntry_current ((current_of_sales (raiseFault_sales (valAddr p) .lostCoin s) e).trans h)
  rw [lane_raiseFault] at reviewed
  exact reviewed.of_same (raiseFault_sales _ _ s) (raiseFault_change _ _ s) (raiseFault_cash _ _ s) rfl

theorem listMoved_lostDropped (h : (sess p s).stage ≠ .refundWait ∧ (sess p s).stage ≠ .held ∨ (sess p s).state ≠ .idle ∧
    ∃ y ∈ (lane p s).list.filter fun x => !decide (x.seq = e.seq), y.session = (sess p s).serial) :
    listMoved p (lostDropped p e s) = lostDropped p e s :=
  listMoved_dropEntry (by rwa [sess_of_sales p (raiseFault_sales _ _ s), lane_raiseFault])

end SettleLimit
end Sys2Proof.Machine

namespace Sys2Proof.Proofs
open Sys2Proof Sys2Proof.Machine

/-- Settles O40: the entry dropped and LOST_COIN raised, then what the session makes of its list: nothing, or its end. -/
theorem settleLimitDropsTheCoin : Obligations.SettleLimitDropsTheCoin := by
  intro p seq busy s on
  refine ⟨execSettleLimitExpiry_unlisted, fun e listed => ?_⟩
  intro off others
  have seqs : e.seq = seq := by simpa using List.find?_some listed
  have moved := listMoved_controlled (Controlled.refl p (lostDropped p e s))
  have coins : (listMoved p (lostDropped p e s)).coins = s.coins.modify p fun l => { l with list := off } := by
    rw [moved.coins, lostDropped_blocks, seqs]
    rfl
  have kept (q : Position) : laneKept (lane q (served busy (listMoved p (lostDropped p e s)))) =
      laneKept ((s.coins.modify p fun l => { l with list := off }).get q) := by
    rw [served_lane, lane, coins]
  have mine : laneKept (lane p (served busy (listMoved p (lostDropped p e s)))) = laneKept { lane p s with list := off } :=
    (kept p).trans (by cases p <;> rfl)
  have theirs := (kept p.other).trans (show _ = laneKept (lane p.other s) by cases p <;> rfl)
  have other : sess p.other (lostDropped p e s) = sess p.other s := sess_of_sales _ (lostDropped_sales p e s)
  refine ⟨_, execSettleLimitExpiry_listed on listed, congrArg LaneKept.list mine, ?_, congrArg LaneKept.rejects mine,
    congrArg LaneKept.returnedLate mine, congrArg LaneKept.returnedFailed mine, ?_, lane_eq_of_kept theirs, fun waits => ?_,
    fun gone ends => ?_⟩
  · refine (served_periph busy _ (valAddr p)).flag (f := Flags.lostCoin) ?_ fun _ => .inr rfl
    rw [moved.controls.periph, lostDropped_flag]
  · rw [sess_of_sales _ (served_sales busy _), moved.sess_other, other]
  · rw [listMoved_lostDropped (by rwa [seqs])]
    refine ⟨?_, ?_, ?_, ?_, ?_, ?_, ?_, fun cur => ?_, fun late => ?_⟩
    · rw [served_sales, lostDropped_sales]
    · rw [served_journal, lostDropped_blocks]
      exact raiseFault_journal _ _ s
    · rw [served_tubes, lostDropped_blocks]
    · rw [served_box, lostDropped_blocks]
    · rw [served_fare, lostDropped_blocks]
      exact raiseFault_fare _ _ s
    · rw [served_cards, lostDropped_blocks]
      exact raiseFault_cards _ _ s
    · rw [served_resv, resv, lostDropped_blocks]
      exact Pair.get_set_other _ _ _
    · rw [show off = (lane p s).list.filter fun x => !decide (x.seq = e.seq) by rw [seqs]]
      exact (lostDropped_current cur).of_same rfl rfl rfl (served_resv busy _ p)
    · rw [served_resv, lostDropped_late late]
  · have out : currentList p (lostDropped p e s) = [] := by
      rw [currentList_lostDropped, List.filter_eq_nil_iff, seqs]
      intro y hy cur
      rw [current, Bool.and_eq_true, decide_eq_true_eq] at cur
      exact gone ⟨y, hy, cur.1⟩
    rw [listMoved_ends out (by rw [sess_of_sales p (lostDropped_sales p e s)]; exact ends)] at moved ⊢
    obtain ⟨idle, free⟩ := closeSession_ends p (lostDropped p e s)
    exact ⟨by rw [sess_of_sales p (served_sales busy _), idle], by rw [served_resv, free],
      by rw [served_tubes, moved.tubes, lostDropped_blocks]⟩

end Sys2Proof.Proofs

namespace Sys2Proof.Machine

/-! ### A coin reported returned (R34) -/

section Returned
variable {p : Position} {seq : Byte} {r : ReturnReason} {e : Outstanding} {s : State}

/-- A return counted under its reason. -/
def returnCounted (p : Position) (r : ReturnReason) (s : State) : State := onLane p (fun l => { l with
  returnedLate := if r = .late then l.returnedLate + 1 else l.returnedLate
  returnedFailed := if r = .failed then l.returnedFailed + 1 else l.returnedFailed }) s

theorem countReturn_eq (p : Position) (r : ReturnReason) (s : State) : countReturn p r s = returnCounted p r s := by
  cases r <;> rfl

theorem returnCounted_list (p : Position) (r : ReturnReason) (s : State) : (lane p (returnCounted p r s)).list = (lane p s).list := by
  rw [returnCounted, lane_onLane_self]

theorem coinReturned_unlisted (h : ∀ e ∈ (lane p s).list, e.seq ≠ seq) :
    coinReturned p seq r s = (returnCounted p r s, .unmatched) := by
  have none : findEntry p seq (returnCounted p r s) = none := findEntry_eq_none.2 (by rwa [returnCounted_list])
  simp only [coinReturned, countReturn_eq, none]

theorem coinReturned_listed (h : findEntry p seq s = some e) :
    coinReturned p seq r s = (listMoved p (dropEntry p e (returnCounted p r s)), .matched) := by
  have some : findEntry p seq (returnCounted p r s) = some e := by rwa [findEntry, returnCounted_list]
  simp only [coinReturned, countReturn_eq, some]

theorem findEntry_seq (h : findEntry p seq s = some e) : e.seq = seq := by simpa using List.find?_some h

theorem returned_coins (p : Position) (e : Outstanding) (s : State) : (listMoved p (dropEntry p e s)).coins =
    s.coins.set p { lane p s with list := (lane p s).list.filter fun x => !decide (x.seq = e.seq) } := by
  rw [(listMoved_controlled (Controlled.refl p _)).coins, dropEntry_blocks]

theorem returned_sess_other (p : Position) (e : Outstanding) (s : State) :
    sess p.other (listMoved p (dropEntry p e s)) = sess p.other s := by
  rw [(listMoved_controlled (Controlled.refl p _)).sess_other, dropEntry_eq]
  rfl

end Returned

/-! ### A coin counted at its destination (R32) -/

section Counted
variable {p : Position} {seq : Byte} {c : Fin 8} {v : Nat} {t : Fin 6} {s : State}

/-- The tube takes the coin: it is ACTIVE, of its type and not full. -/
def TubeTakes (t : Fin 6) (c : Fin 8) (s : State) : Prop :=
  (tube t s).state = .active ∧ (tube t s).ctype = some c ∧ (tube t s).count < (tube t s).capacity

theorem TubeTakes.takes (h : TubeTakes t c s) : tubeTakes t c s = true := by
  obtain ⟨active, type, room⟩ := h
  simp [tubeTakes, active, type, room]

theorem countCoin_tube (h : TubeTakes t c s) :
    countCoin c v (.tube t) s = onTube t (fun x => { x with count := x.count + 1, routedIn := x.routedIn + 1 }) s :=
  if_pos h.takes

/-- Below the limit the box counts on, and no fault is raised. -/
theorem countBox_below (limit : s.change.box.count + 1 < s.cash.limit) (max : s.change.box.count < 65535) :
    countBox c v s = onBox (fun b => { b with count := b.count + 1, values := vset b.values c (vget b.values c + BitVec.ofNat 32 v) }) s := by
  have least : min 65535 (s.change.box.count + 1) = s.change.box.count + 1 := Nat.min_eq_right max
  unfold countBox
  dsimp only
  rw [if_neg]
  · simp only [onBox, onChange, least]
    rfl
  · simp only [onBox, onChange, least, Nat.not_le]
    exact limit

/-- A coin counted into the box moves no tube and no reservation. -/
theorem countBox_keeps (c : Fin 8) (v : Nat) (s : State) :
    (countBox c v s).change.tubes = s.change.tubes ∧ (countBox c v s).change.resv = s.change.resv ∧
    (countBox c v s).cash = s.cash ∧ (countBox c v s).coins = s.coins ∧ (countBox c v s).sales = s.sales ∧
    (countBox c v s).journal = s.journal ∧ (countBox c v s).print = s.print ∧ (countBox c v s).fare = s.fare := by
  unfold countBox
  dsimp only
  split
  · simp only [raiseFault_change, raiseFault_cash, raiseFault_coins, raiseFault_sales, raiseFault_journal, raiseFault_print,
      raiseFault_fare]
    exact ⟨rfl, rfl, rfl, rfl, rfl, rfl, rfl, rfl⟩
  · exact ⟨rfl, rfl, rfl, rfl, rfl, rfl, rfl, rfl⟩

theorem countBox_periph (a : Addr) (other : a ≠ .changer) : periph a (countBox c v s) = periph a s := by
  unfold countBox
  dsimp only
  split
  · rw [raiseFault_periph, if_neg other]
    rfl
  · rfl

/-! ### A coin on no list (R33) -/

theorem coinRouted_unlisted {d : Dest} (h : ∀ e ∈ (lane p s).list, e.seq ≠ seq) :
    coinRouted p seq c d s = (append (some p) (.unclaimedCoin c (coinType c s).value d)
      (addCoinTotals c (coinType c s).value (countCoin c (coinType c s).value d s)), .unclaimed p, none) := by
  simp only [coinRouted, findEntry_eq_none.2 h]

/-! ### A coin of the session (R32, R48, R50) -/

/-- The coin counted at its destination, off its list, with its cover and in the totals. -/
def coinCounted (p : Position) (e : Outstanding) (cover : Fin 6 → State → State) (s : State) : State :=
  let counted := countCoin e.ctype e.value e.dest (removeEntry p e.seq s)
  addCoinTotals e.ctype e.value (match e.dest with
    | .tube t => if tubeTakes t e.ctype (removeEntry p e.seq s) then cover t counted else counted
    | .box => counted)

/-- What a coin of the session adds to its credit (R39). -/
def creditRise (p : Position) (v : Nat) (s : State) : Rise := ⟨p, (sess p s).credit + v, (sess p s).due⟩

variable {e : Outstanding}

theorem coinRouted_collecting {d : Dest} (h : findEntry p seq s = some e) (mine : e.session = (sess p s).serial)
    (state : (sess p s).state = .collecting) : coinRouted p seq c d s =
      (creditCoin p e.value (coinCounted p e (coverCoin p) s), .credited p, some (creditRise p e.value s)) := by
  have cur : current p e s = true := by simp [current, mine, state]
  obtain rfl := findEntry_seq h
  simp only [coinRouted, h, cur, state, decide_true, if_true, Bool.true_and]
  rfl

theorem coinRouted_late {d : Dest} (h : findEntry p seq s = some e) (mine : e.session = (sess p s).serial)
    (idle : (sess p s).state ≠ .idle) (state : (sess p s).state ≠ .collecting) : coinRouted p seq c d s =
      (creditLate p e.value (coinCounted p e (coverLate p) s), .lateCoin p, some (creditRise p e.value s)) := by
  have cur : current p e s = true := by simp [current, mine, idle]
  obtain rfl := findEntry_seq h
  simp only [coinRouted, h, cur, state, decide_false, if_true, Bool.true_and, Bool.false_eq_true, if_false]
  rfl

theorem coinCounted_box {cover : Fin 6 → State → State} (h : e.dest = .box) :
    coinCounted p e cover s = addCoinTotals e.ctype e.value (countBox e.ctype e.value (removeEntry p e.seq s)) := by
  simp only [coinCounted, h, countCoin]

theorem coinCounted_tube {cover : Fin 6 → State → State} (h : e.dest = .tube t) (takes : TubeTakes t e.ctype s) :
    coinCounted p e cover s = addCoinTotals e.ctype e.value (cover t
      (onTube t (fun x => { x with count := x.count + 1, routedIn := x.routedIn + 1 }) (removeEntry p e.seq s))) := by
  have same : TubeTakes t e.ctype (removeEntry p e.seq s) := takes
  simp only [coinCounted, h, countCoin_tube same, same.takes, if_true]

/-- Counting a coin moves no list, no session and no record. -/
theorem countCoin_keeps (c : Fin 8) (v : Nat) (d : Dest) (s : State) : (countCoin c v d s).coins = s.coins ∧
    (countCoin c v d s).sales = s.sales ∧ (countCoin c v d s).journal = s.journal := by
  obtain ⟨-, -, -, coins, sales, journal, -⟩ := countBox_keeps c v s
  unfold countCoin
  split
  · exact ⟨coins, sales, journal⟩
  · split
    · exact ⟨rfl, rfl, rfl⟩
    · exact ⟨coins, sales, journal⟩

/-- A way to give a coin cover: by its position's reservations. -/
def CoverStep (p : Position) (cover : Fin 6 → State → State) : Prop := ∀ t s, ∃ f, cover t s = onResv p f s

theorem coinCounted_keeps {cover : Fin 6 → State → State} (hc : CoverStep p cover) (e : Outstanding) (s : State) :
    (coinCounted p e cover s).coins = (removeEntry p e.seq s).coins ∧ (coinCounted p e cover s).sales = s.sales ∧
    (coinCounted p e cover s).journal = (addCoinTotals e.ctype e.value s).journal := by
  obtain ⟨coins, sales, journal⟩ := countCoin_keeps e.ctype e.value e.dest (removeEntry p e.seq s)
  have kept {u : State} (h : u = countCoin e.ctype e.value e.dest (removeEntry p e.seq s) ∨
      ∃ f, u = onResv p f (countCoin e.ctype e.value e.dest (removeEntry p e.seq s))) :
      (addCoinTotals e.ctype e.value u).coins = (removeEntry p e.seq s).coins ∧ (addCoinTotals e.ctype e.value u).sales = s.sales ∧
      (addCoinTotals e.ctype e.value u).journal = (addCoinTotals e.ctype e.value s).journal := by
    have totals : (addCoinTotals e.ctype e.value (countCoin e.ctype e.value e.dest (removeEntry p e.seq s))).journal =
        (addCoinTotals e.ctype e.value s).journal := by
      simp only [addCoinTotals, onJournal_journal, journal]
      rfl
    obtain rfl | ⟨f, rfl⟩ := h
    · exact ⟨coins, sales, totals⟩
    · exact ⟨coins, sales, totals⟩
  unfold coinCounted
  dsimp only
  split
  · split
    · exact kept (.inr (hc _ _))
    · exact kept (.inl rfl)
  · exact kept (.inl rfl)

theorem coverCoin_step (p : Position) : CoverStep p (coverCoin p) := fun _ _ => ⟨_, rfl⟩

theorem coverLate_step (p : Position) : CoverStep p (coverLate p) := fun _ _ => ⟨_, rfl⟩

theorem coinCounted_sess {cover : Fin 6 → State → State} (hc : CoverStep p cover) (q : Position) :
    sess q (coinCounted p e cover s) = sess q s := sess_of_sales q (coinCounted_keeps hc e s).2.1

theorem coinCounted_list {cover : Fin 6 → State → State} (hc : CoverStep p cover) :
    (lane p (coinCounted p e cover s)).list = (lane p s).list.filter fun x => !decide (x.seq = e.seq) := by
  rw [lane, (coinCounted_keeps hc e s).1]
  exact congrArg Lane.list (lane_onLane_self p _ s)

/-- The totals of a coin routed, and no record (R155). -/
def CoinTotalled (c : Fin 8) (v : Nat) (s t : State) : Prop :=
  (t.journal.running.valueIn = s.journal.running.valueIn + BitVec.ofNat 32 v ∧
    vget t.journal.running.coinsIn c = vget s.journal.running.coinsIn c + 1) ∧ t.journal.records = s.journal.records

theorem coinTotalled_of_journal {u : State} (h : u.journal = (addCoinTotals c v s).journal) : CoinTotalled c v s u := by
  rw [CoinTotalled, h]
  exact ⟨⟨rfl, by simp [addCoinTotals, vmodify]⟩, rfl⟩

theorem coinCounted_totals {cover : Fin 6 → State → State} (hc : CoverStep p cover) :
    CoinTotalled e.ctype e.value s (coinCounted p e cover s) := coinTotalled_of_journal (coinCounted_keeps hc e s).2.2

/-- A coin into a tube: one more there, and its cover, in the mode the session's reservations are in (R48, R50). -/
theorem coinCounted_tubes {cover : Fin 6 → State → State} (hc : CoverStep p cover) (h : e.dest = .tube t)
    (takes : TubeTakes t e.ctype s) :
    tube t (coinCounted p e cover s) = { tube t s with count := (tube t s).count + 1, routedIn := (tube t s).routedIn + 1 } ∧
    (∀ i, i ≠ t → tube i (coinCounted p e cover s) = tube i s) ∧
    (coinCounted p e cover s).change.box = s.change.box := by
  rw [coinCounted_tube h takes]
  obtain ⟨f, hf⟩ := hc t (onTube t (fun x => { x with count := x.count + 1, routedIn := x.routedIn + 1 }) (removeEntry p e.seq s))
  rw [hf]
  exact ⟨tube_onTube_self t _ (removeEntry p e.seq s), fun i ne => tube_onTube_ne ne _ (removeEntry p e.seq s), rfl⟩

/-! ### Credit (R109, R122) -/

/-- The session with the coin's credit, and its inactivity timer started again (R103, R109). -/
def credited (p : Position) (v : Nat) (s : State) : State :=
  onSess p (fun x => { x with credit := x.credit + v, inactivity := some s.sales.timing.inactivity }) s

theorem creditCoin_below (h : (sess p s).credit + v < (sess p s).due) : creditCoin p v s = credited p v s := by
  have below : (sess p (credited p v s)).credit < (sess p (credited p v s)).due := by
    rw [credited, sess_onSess_self]
    exact h
  exact if_pos below

/-- The session with a late coin's value, in a waiting refund or as a further amount (R122). -/
def creditedLate (p : Position) (v : Nat) (s : State) : State := onSess p (fun x =>
  { x with credit := x.credit + v, further := if x.stage = .refundWait then x.further else x.further + v }) s

theorem creditLate_waits (h : (sess p s).stage ≠ .held ∧ (sess p s).stage ≠ .refundWait ∨
    (sess p s).state ≠ .idle ∧ ∃ y ∈ (lane p s).list, y.session = (sess p s).serial) :
    creditLate p v s = creditedLate p v s := by
  have same : sess p (creditedLate p v s) = { sess p s with
      credit := (sess p s).credit + v
      further := if (sess p s).stage = .refundWait then (sess p s).further else (sess p s).further + v } := sess_onSess_self p _ s
  show listMoved p (creditedLate p v s) = _
  obtain ⟨held, refund⟩ | ⟨busy, y, hy, hs⟩ := h
  · exact listMoved_other (by rwa [same]) (by rwa [same])
  · refine listMoved_waits (List.ne_nil_of_mem (a := y) (List.mem_filter.2 ⟨hy, ?_⟩))
    simp [current, same, hs, busy]

/-! ### The coin that pays (R49, R113, R117) -/

/-- The session's change, once it is paid in full. -/
def changed (p : Position) (n : Nat) (s : State) : State := onSess p (fun x => { x with change := n }) s

theorem creditCoin_pays (h : (sess p s).due ≤ (sess p s).credit + v) : creditCoin p v s =
    enterIssuing p .paidInFull (fixChange p ((sess p s).credit + v - (sess p s).due)
      (changed p ((sess p s).credit + v - (sess p s).due) (credited p v s))) := by
  have credit : sess p (credited p v s) = { sess p s with
      credit := (sess p s).credit + v, inactivity := some s.sales.timing.inactivity } := sess_onSess_self p _ s
  have above : ¬ (sess p (credited p v s)).credit < (sess p (credited p v s)).due := by
    rw [credit]
    exact Nat.not_lt.2 h
  have change : (sess p (credited p v s)).credit - (sess p (credited p v s)).due = (sess p s).credit + v - (sess p s).due := by
    rw [credit]
  rw [← change]
  exact if_neg above

theorem fixChange_none (s : State) : fixChange p 0 s = onResv p (fun _ => Reserve.start) s := if_pos rfl

theorem fixChange_planned {n : Nat} (some : 0 < n) (plan : (resv p s).mode = .provisional ∧ (resv p s).amount = n) :
    resv p (fixChange p n s) = { resv p s with
      mode := .hold, short := 0, cover := vfill 6 0
      reserved := vtab (fun t => min (vget (resv p s).reserved t) (planCount (resv p s).plan t)) } := by
  rw [fixChange, if_neg some.ne', if_pos plan, resv_onResv_self]

theorem fixChange_held {n : Nat} (some : 0 < n) (plan : ¬ ((resv p s).mode = .provisional ∧ (resv p s).amount = n)) :
    resv p (fixChange p n s) = { resv p s with
      mode := .hold, plan := (planOrShort (denoms s) (avail s p) n).1, amount := n - (planOrShort (denoms s) (avail s p) n).2
      short := (planOrShort (denoms s) (avail s p) n).2, cover := vfill 6 0
      reserved := vtab (planCount (planOrShort (denoms s) (avail s p) n).1) } := by
  rw [fixChange, if_neg some.ne', if_neg plan]
  exact resv_onResv_self p _ s

/-- Fixing the change moves its position's reservations alone. -/
theorem fixChange_eq (p : Position) (n : Nat) (s : State) : fixChange p n s = onResv p (fun _ => resv p (fixChange p n s)) s := by
  have onto (f : Reserve → Reserve) : onResv p f s = onResv p (fun _ => resv p (onResv p f s)) s := by
    rw [resv_onResv_self]
    rfl
  unfold fixChange
  split
  · exact onto _
  · split
    · exact onto _
    · exact onto _

/-- The planner looks at the tubes, the reservations and the coin values alone. -/
theorem planTables_same {u : State} (tubes : u.change.tubes = s.change.tubes) (resv : u.change.resv = s.change.resv)
    (cash : u.cash = s.cash) : denoms u = denoms s ∧ avail u p = avail s p := by
  have denom : denomOf u = denomOf s := funext fun i => by simp only [denomOf, tube, coinType, tubes, cash]
  have free : availOf u p = availOf s p := funext fun i => by simp only [availOf, tube, Machine.resv, tubes, resv]
  exact ⟨by rw [denoms, denoms, denom], by rw [avail, avail, free]⟩

end Counted

/-! ### The ticket (R117, R137) -/

section Ticket
variable {p : Position} {s : State}

theorem mem_waitingJobs {i : Fin 8} {j : Job} (h : (i, j) ∈ waitingJobs s) : slotOf i s = .waiting j := by
  obtain ⟨x, hx, e⟩ := List.mem_filterMap.1 h
  obtain ⟨k, -, rfl⟩ := List.mem_map.1 hx
  dsimp only at e
  split at e
  · rename_i waiting
    cases e
    exact waiting
  · cases e

theorem oldestJob_mem {x : Fin 8 × Job} : ∀ {xs : List (Fin 8 × Job)}, oldestJob xs = some x → x ∈ xs
  | y :: ys, h => by
    unfold oldestJob at h
    split at h
    · cases h
      exact .head _
    · rename_i z hz
      split at h
      · cases h
        exact .tail _ (oldestJob_mem hz)
      · cases h
        exact .head _

/-- The job that begins waits in its slot (R137). -/
theorem chooseJob_waiting {i : Fin 8} {j : Job} (h : chooseJob s = some (i, j)) : slotOf i s = .waiting j := by
  unfold chooseJob at h
  dsimp only at h
  split at h
  · cases h
    exact mem_waitingJobs (List.mem_filter.1 (oldestJob_mem ‹_›)).1
  · split at h
    · cases h
      exact mem_waitingJobs (List.mem_filter.1 (oldestJob_mem ‹_›)).1
    · exact mem_waitingJobs (oldestJob_mem h)

/-- A waiting job waits on, or is begun. -/
theorem tryBegin_waiting {i : Fin 8} {j : Job} (h : slotOf i s = .waiting j) :
    slotOf i (tryBegin s) = .waiting j ∨ ∃ g, slotOf i (tryBegin s) = .active j g := by
  unfold tryBegin
  split
  · exact .inl h
  · split
    · exact .inl h
    · split
      · exact .inl h
      · rename_i k l chosen
        by_cases hi : i = k
        · subst hi
          obtain rfl : l = j := by
            have waits := chooseJob_waiting chosen
            rw [h] at waits
            cases waits
            rfl
          exact .inr ⟨_, slotOf_setSlot_self i _ s⟩
        · exact .inl ((slotOf_setSlot_ne hi _ s).trans h)

/-- Beginning a job changes the print unit alone. -/
theorem tryBegin_eq (s : State) : tryBegin s = { s with print := (tryBegin s).print } := by
  unfold tryBegin
  split
  · rfl
  · split
    · rfl
    · split <;> rfl

/-- A job put into its slot and perhaps begun leaves the coins, the journal, the change and the sale as they were. -/
theorem queued_blocks (i : Fin 8) (x : Slot) (s : State) : (tryBegin (setSlot i x (bumpQueue s))).coins = s.coins ∧
    (tryBegin (setSlot i x (bumpQueue s))).journal = s.journal ∧ (tryBegin (setSlot i x (bumpQueue s))).change = s.change ∧
    (tryBegin (setSlot i x (bumpQueue s))).sales = s.sales := by
  rw [tryBegin_eq]
  exact ⟨rfl, rfl, rfl, rfl⟩

theorem find_eights {f : Fin 8 → Bool} {i : Fin 8} (hi : f i = true) (low : ∀ k : Fin 8, k.val < i.val → f k = false) :
    eights.find? f = some i := by
  rw [← List.head?_filter, filter_eights_cons hi low]
  rfl

/-- The lowest slot that the session holds. -/
theorem reservedSlot_lowest {i : Fin 8} (hi : slotOf i s = .reserved p) (low : ∀ k : Fin 8, k.val < i.val → slotOf k s ≠ .reserved p) :
    reservedSlot p s = some i := find_eights (decide_eq_true hi) fun k hk => decide_eq_false (low k hk)

theorem printerDown_serves (h : PrinterServes s) : printerDown s = false := by
  obtain ⟨on, paper, jam⟩ := h
  simp [printerDown, online, on, paper, jam]

/-- The TICKET job of a session (R117, R135). -/
def ticketJob (p : Position) (x : SaleFields) (s : State) : Job :=
  { kind := .ticket, pos := some p, queueNo := s.print.queueNo + 1, time := validTime s.fare.clock, sale := some x,
    seq := none, pending := false, tag := 0, lines := [] }

theorem queueTicket_serves (p : Position) (i : Fin 8) (x : SaleFields) (h : PrinterServes s) :
    queueTicket p i x s = (tryBegin (setSlot i (.waiting (ticketJob p x s)) (bumpQueue s)), []) := by
  have up : printerDown (bumpQueue s) = false := printerDown_serves h
  exact if_neg (by rw [up]; decide)

/-- The session waits for its ticket. -/
def awaitsTicket (p : Position) (s : State) : State := onSess p (fun x => { x with ticket := .queued, stage := .ticket }) s

theorem ticketStep_queued {i : Fin 8} (paper : mediumOf (sess p s) = .paper) (serves : PrinterServes s) (hi : slotOf i s = .reserved p)
    (low : ∀ k : Fin 8, k.val < i.val → slotOf k s ≠ .reserved p) :
    ticketStep p s = tryBegin (setSlot i (.waiting (ticketJob p (ticketFields (sess p (awaitsTicket p s))) s)) (bumpQueue (awaitsTicket p s))) := by
  have slot : reservedSlot p (awaitsTicket p s) = some i := reservedSlot_lowest hi low
  have queued := queueTicket_serves (s := awaitsTicket p s) p i (ticketFields (sess p (awaitsTicket p s))) serves
  unfold ticketStep
  rw [if_neg (by rw [paper]; decide)]
  show (match reservedSlot p (awaitsTicket p s) with
    | some i => handTickets (queueTicket p i (ticketFields (sess p (awaitsTicket p s))) (awaitsTicket p s))
    | none => ticketFailed p (awaitsTicket p s)) = _
  rw [slot]
  exact congrArg handTickets queued

theorem ticketFields_coins {x : Session} (coins : x.payment = some .coins) :
    (ticketFields x).credit = x.credit ∧ (ticketFields x).change = x.change ∧ (ticketFields x).card = none := by
  have paid : payOf x ≠ .storedValue := by rw [payOf, coins]; decide
  simp only [ticketFields, paid, if_false, saleFields]
  split <;> exact ⟨rfl, rfl, trivial⟩

/-- The session enters ISSUING (R113). -/
def issuing (p : Position) (r : ChangeReason) (s : State) : State :=
  enter p .issuing r (onSess p (fun x => { x with inactivity := none }) s)

theorem issuing_sess (p : Position) (r : ChangeReason) (s : State) :
    sess p (issuing p r s) = { sess p s with inactivity := none, state := .issuing } := by
  show sess p (onSess p _ (onSess p _ s)) = _
  rw [sess_onSess_self, sess_onSess_self]

/-- A paper ticket bought with coins has no card write: issuing goes straight to it (R113). -/
theorem enterIssuing_paper {r : ChangeReason} (paper : mediumOf (sess p s) = .paper) (coins : payOf (sess p s) = .coins) :
    enterIssuing p r s = ticketStep p (issuing p r s) := by
  refine if_neg ?_
  show ¬ hasWrite (sess p (issuing p r s)) = true
  rw [issuing_sess, hasWrite]
  have medium : mediumOf { sess p s with inactivity := none, state := .issuing } = .paper := paper
  have pay : payOf { sess p s with inactivity := none, state := .issuing } = .coins := coins
  rw [medium, pay]
  exact Bool.false_ne_true

/-- A session that has got its due, with its change fixed. -/
def fixedChange (p : Position) (v : Nat) (s : State) : State :=
  let n := (sess p s).credit + v - (sess p s).due
  fixChange p n (changed p n (credited p v s))

/-- It is in ISSUING and waits for its ticket. -/
def paidInFull (p : Position) (v : Nat) (s : State) : State := awaitsTicket p (issuing p .paidInFull (fixedChange p v s))

theorem fixedChange_print (p : Position) (v : Nat) (s : State) : (fixedChange p v s).print = s.print := by
  rw [fixedChange, fixChange_eq]
  rfl

theorem fixedChange_link (p : Position) (v : Nat) (s : State) : (fixedChange p v s).link = s.link := by
  rw [fixedChange, fixChange_eq]
  rfl

theorem fixedChange_fare (p : Position) (v : Nat) (s : State) : (fixedChange p v s).fare = s.fare := by
  rw [fixedChange, fixChange_eq]
  rfl

theorem fixedChange_sess (p : Position) (v : Nat) (s : State) : sess p (fixedChange p v s) = { sess p s with
    credit := (sess p s).credit + v, inactivity := some s.sales.timing.inactivity
    change := (sess p s).credit + v - (sess p s).due } := by
  rw [fixedChange, fixChange_eq]
  show sess p (changed p _ (credited p v s)) = _
  rw [changed, sess_onSess_self, credited, sess_onSess_self]

theorem paidInFull_sess (p : Position) (v : Nat) (s : State) : sess p (paidInFull p v s) = { sess p s with
    credit := (sess p s).credit + v, change := (sess p s).credit + v - (sess p s).due, inactivity := none, state := .issuing,
    stage := .ticket, ticket := .queued } := by
  rw [paidInFull, awaitsTicket, sess_onSess_self, issuing_sess, fixedChange_sess]

/-- The coin that brings the credit to the due of a paper sale queues its ticket. -/
theorem creditCoin_ticket {v : Nat} {i : Fin 8} (paid : (sess p s).due ≤ (sess p s).credit + v)
    (paper : mediumOf (sess p s) = .paper) (coins : payOf (sess p s) = .coins) (serves : PrinterServes s)
    (hi : slotOf i s = .reserved p) (low : ∀ k : Fin 8, k.val < i.val → slotOf k s ≠ .reserved p) :
    creditCoin p v s = tryBegin (setSlot i
      (.waiting (ticketJob p (ticketFields (sess p (paidInFull p v s))) s)) (bumpQueue (paidInFull p v s))) := by
  have medium : mediumOf (sess p (fixedChange p v s)) = .paper := by
    rw [fixedChange_sess]
    exact paper
  have pay : payOf (sess p (fixedChange p v s)) = .coins := by
    rw [fixedChange_sess]
    exact coins
  have print : (issuing p .paidInFull (fixedChange p v s)).print = s.print := fixedChange_print p v s
  have link : (issuing p .paidInFull (fixedChange p v s)).link = s.link := fixedChange_link p v s
  have slots (k : Fin 8) : slotOf k (issuing p .paidInFull (fixedChange p v s)) = slotOf k s := by rw [slotOf, print]; rfl
  have queued := ticketStep_queued (s := issuing p .paidInFull (fixedChange p v s)) (p := p) (i := i)
    (by rw [issuing_sess]; exact medium) (by rwa [PrinterServes, periph, link, print])
    (by rw [slots, hi]) (fun k hk => by rw [slots]; exact low k hk)
  have job (x : SaleFields) : ticketJob p x (issuing p .paidInFull (fixedChange p v s)) = ticketJob p x s := by
    rw [ticketJob, ticketJob, print, show (issuing p .paidInFull (fixedChange p v s)).fare = s.fare from fixedChange_fare p v s]
  rw [creditCoin_pays paid]
  refine (enterIssuing_paper medium pay).trans (queued.trans ?_)
  rw [job]
  rfl

end Ticket

/-! ### Cover in its mode (R48, R50) -/

section Cover
variable {p : Position} {t : Fin 6} {e : Outstanding} {s : State}

theorem coverCoin_resv (p : Position) (t : Fin 6) (s : State) :
    let cover := vget (resv p s).cover t + 1
    resv p (coverCoin p t s) = { resv p s with
      cover := vset (resv p s).cover t cover
      reserved := vset (resv p s).reserved t
        (if (resv p s).mode = .provisional then max (vget (resv p s).reserved t) cover else vget (resv p s).reserved t + 1) } := by
  rw [coverCoin, resv_onResv_self]
  cases mode : (resv p s).mode <;> simp [vmodify, mode]

theorem coverLate_resv (p : Position) (t : Fin 6) (s : State) : resv p (coverLate p t s) = { resv p s with
    mode := if (resv p s).mode = .none then .hold else (resv p s).mode
    cover := vset (resv p s).cover t (vget (resv p s).cover t + 1)
    reserved := vset (resv p s).reserved t (vget (resv p s).reserved t + 1) } := by
  rw [coverLate, resv_onResv_self]
  rfl

/-- A coin into a tube gives the session what the cover step gives it, and the other position nothing. -/
theorem coinCounted_resv {cover : Fin 6 → State → State} (hc : CoverStep p cover) (h : e.dest = .tube t)
    (takes : TubeTakes t e.ctype s) :
    resv p (coinCounted p e cover s) = resv p (cover t
      (onTube t (fun x => { x with count := x.count + 1, routedIn := x.routedIn + 1 }) (removeEntry p e.seq s))) ∧
    resv p.other (coinCounted p e cover s) = resv p.other s := by
  rw [coinCounted_tube h takes]
  refine ⟨rfl, ?_⟩
  obtain ⟨f, hf⟩ := hc t (onTube t (fun x => { x with count := x.count + 1, routedIn := x.routedIn + 1 }) (removeEntry p e.seq s))
  rw [hf]
  exact resv_onResv_other p f _

/-- A coin into the box below its limit: one more coin of its value, and nothing else of the change store. -/
theorem coinCounted_boxed {cover : Fin 6 → State → State} (h : e.dest = .box) (limit : s.change.box.count + 1 < s.cash.limit)
    (max : s.change.box.count < 65535) : (coinCounted p e cover s).change = { s.change with box := { s.change.box with
      count := s.change.box.count + 1
      values := vset s.change.box.values e.ctype (vget s.change.box.values e.ctype + BitVec.ofNat 32 e.value) } } := by
  rw [coinCounted_box h, countBox_below (s := removeEntry p e.seq s) limit max]
  rfl

/-- A coin into the box, whatever its count: no tube, no reservation, no job and no printer moves. -/
theorem coinCounted_box_keeps {cover : Fin 6 → State → State} (h : e.dest = .box) :
    (coinCounted p e cover s).change.tubes = s.change.tubes ∧ (coinCounted p e cover s).change.resv = s.change.resv ∧
    (coinCounted p e cover s).cash = s.cash ∧ (coinCounted p e cover s).print = s.print ∧
    periph .printer (coinCounted p e cover s) = periph .printer s := by
  obtain ⟨tubes, resv, cash, -, -, -, print, -⟩ := countBox_keeps e.ctype e.value (removeEntry p e.seq s)
  rw [coinCounted_box h]
  exact ⟨tubes, resv, cash, print, countBox_periph .printer (by decide)⟩

/-- What fixing the change `n` leaves of the reservations that `s` has, in the three cases of R49. -/
def ChangeFixed (p : Position) (n : Nat) (s : State) (r : Reserve) : Prop :=
  let pl := planOrShort (denoms s) (avail s p) n
  (n = 0 → r = Reserve.start) ∧
  (0 < n → (resv p s).mode = .provisional ∧ (resv p s).amount = n → r = { resv p s with
    mode := .hold, short := 0, cover := vfill 6 0
    reserved := vtab (fun t => min (vget (resv p s).reserved t) (planCount (resv p s).plan t)) }) ∧
  (0 < n → ¬ ((resv p s).mode = .provisional ∧ (resv p s).amount = n) → r = { resv p s with
    mode := .hold, plan := pl.1, amount := n - pl.2, short := pl.2, cover := vfill 6 0
    reserved := vtab (planCount pl.1) })

theorem fixChange_fixed (p : Position) (n : Nat) (s : State) : ChangeFixed p n s (resv p (fixChange p n s)) := by
  refine ⟨?_, fixChange_planned, fixChange_held⟩
  rintro rfl
  rw [fixChange_none, resv_onResv_self]

theorem ChangeFixed.of_same {n : Nat} {r : Reserve} {u : State} (h : ChangeFixed p n u r)
    (tubes : u.change.tubes = s.change.tubes) (reserves : u.change.resv = s.change.resv) (cash : u.cash = s.cash) :
    ChangeFixed p n s r := by
  obtain ⟨den, av⟩ := planTables_same (p := p) tubes reserves cash
  have base : resv p u = resv p s := congrArg (fun x => x.get p) reserves
  rwa [ChangeFixed, den, av, base] at h

/-- Issuing moves the session alone, and the change its reservations. -/
theorem paidInFull_blocks (p : Position) (v : Nat) (s : State) : (paidInFull p v s).coins = s.coins ∧
    (paidInFull p v s).journal = s.journal ∧ (paidInFull p v s).change = (fixedChange p v s).change ∧
    (fixedChange p v s).change.tubes = s.change.tubes := by
  have fixed : (fixedChange p v s).coins = s.coins ∧ (fixedChange p v s).journal = s.journal ∧
      (fixedChange p v s).change.tubes = s.change.tubes := by
    rw [fixedChange, fixChange_eq]
    exact ⟨rfl, rfl, rfl⟩
  obtain ⟨coins, journal, tubes⟩ := fixed
  simp only [paidInFull, awaitsTicket, issuing, enter, onSess_coins, notify_coins, onSess_journal, notify_journal, onSess_change,
    notify_change, coins, journal, tubes, and_self]

/-- The state in which the coin that pays waits for its ticket. -/
def coinPaid (p : Position) (e : Outstanding) (s : State) : State := paidInFull p e.value (coinCounted p e (coverCoin p) s)

theorem coinPaid_sess (p : Position) (e : Outstanding) (s : State) : sess p (coinPaid p e s) = { sess p s with
    credit := (sess p s).credit + e.value, change := (sess p s).credit + e.value - (sess p s).due, inactivity := none
    state := .issuing, stage := .ticket, ticket := .queued } := by
  rw [coinPaid, paidInFull_sess, coinCounted_sess (coverCoin_step p)]

theorem coinPaid_list (p : Position) (e : Outstanding) (s : State) :
    (lane p (coinPaid p e s)).list = (lane p s).list.filter fun x => !decide (x.seq = e.seq) := by
  obtain ⟨coins, -⟩ := paidInFull_blocks p e.value (coinCounted p e (coverCoin p) s)
  rw [coinPaid, lane, coins]
  exact coinCounted_list (coverCoin_step p)

theorem coinPaid_journal (p : Position) (e : Outstanding) (s : State) :
    (coinPaid p e s).journal = (addCoinTotals e.ctype e.value s).journal := by
  obtain ⟨-, journal, -⟩ := paidInFull_blocks p e.value (coinCounted p e (coverCoin p) s)
  exact journal.trans (coinCounted_keeps (coverCoin_step p) e s).2.2

theorem coinPaid_tubes (box : e.dest = .box) : (coinPaid p e s).change.tubes = s.change.tubes := by
  obtain ⟨-, -, change, fixed⟩ := paidInFull_blocks p e.value (coinCounted p e (coverCoin p) s)
  obtain ⟨tubes, -⟩ := coinCounted_box_keeps (p := p) (cover := coverCoin p) (s := s) box
  rw [coinPaid, change, fixed, tubes]

theorem coinPaid_changeFixed (box : e.dest = .box) :
    ChangeFixed p ((sess p s).credit + e.value - (sess p s).due) s (resv p (coinPaid p e s)) := by
  obtain ⟨-, -, change, -⟩ := paidInFull_blocks p e.value (coinCounted p e (coverCoin p) s)
  obtain ⟨tubes, reserves, cash, -⟩ := coinCounted_box_keeps (p := p) (cover := coverCoin p) (s := s) box
  have fixed := (fixChange_fixed p ((sess p s).credit + e.value - (sess p s).due) (changed p
    ((sess p s).credit + e.value - (sess p s).due) (credited p e.value (coinCounted p e (coverCoin p) s)))).of_same tubes reserves cash
  rw [coinPaid, resv, change, fixedChange, coinCounted_sess (coverCoin_step p)]
  exact fixed

/-- The coin that brings the credit to the due of a paper sale queues its ticket (R113, R117). -/
theorem coinRouted_paid {seq : Byte} {c : Fin 8} {d : Dest} {q : QuoteReq} {i : Fin 8} (listed : findEntry p seq s = some e)
    (mine : e.session = (sess p s).serial) (state : (sess p s).state = .collecting)
    (paid : (sess p s).due ≤ (sess p s).credit + e.value) (box : e.dest = .box) (req : (sess p s).req = some q)
    (paper : q.medium = .paper) (coins : (sess p s).payment = some .coins) (serves : PrinterServes s)
    (hi : slotOf i s = .reserved p) (low : ∀ k : Fin 8, k.val < i.val → slotOf k s ≠ .reserved p) :
    coinRouted p seq c d s = (tryBegin (setSlot i (.waiting (ticketJob p (ticketFields (sess p (coinPaid p e s)))
      (coinCounted p e (coverCoin p) s))) (bumpQueue (coinPaid p e s))), .credited p, some (creditRise p e.value s)) := by
  obtain ⟨-, -, -, print, printer⟩ := coinCounted_box_keeps (p := p) (cover := coverCoin p) (s := s) box
  have session : sess p (coinCounted p e (coverCoin p) s) = sess p s := coinCounted_sess (coverCoin_step p) p
  have medium : mediumOf (sess p (coinCounted p e (coverCoin p) s)) = .paper := by rw [session, mediumOf, req]; exact paper
  have pay : payOf (sess p (coinCounted p e (coverCoin p) s)) = .coins := by rw [session, payOf, coins]; rfl
  have slots (k : Fin 8) : slotOf k (coinCounted p e (coverCoin p) s) = slotOf k s := by rw [slotOf, print]; rfl
  rw [coinRouted_collecting listed mine state, creditCoin_ticket (by rwa [session]) medium pay
    (by rwa [PrinterServes, printer, print]) (by rw [slots, hi]) fun k hk => by rw [slots]; exact low k hk]
  rfl

end Cover
end Sys2Proof.Machine

namespace Sys2Proof.Proofs
open Sys2Proof Sys2Proof.Machine

/-- Settles O47: a coin returned, a coin on no list, and a coin of the session, by what its session makes of it. -/
theorem coinRouted : Obligations.CoinRouted := by
  intro p seq c d s routed u
  refine ⟨fun r => ?_, fun t unlisted dest active type room journal => ?_, fun e listed mine => ?_⟩
  · intro back counted
    refine ⟨coinReturned_unlisted, fun e listed => ?_⟩
    intro off
    obtain rfl := findEntry_seq listed
    have seen : back = (listMoved p (dropEntry p e (returnCounted p r s)), .matched) := coinReturned_listed listed
    have list : (lane p (returnCounted p r s)).list = (lane p s).list := returnCounted_list p r s
    have coins := returned_coins p e (returnCounted p r s)
    rw [list] at coins
    rw [seen]
    refine ⟨rfl, ?_, ?_, ?_, fun waits => ⟨?_, fun cur => ?_, fun late => ?_⟩⟩
    · rw [lane, coins, Pair.get_set_self]
      rfl
    · rw [lane, coins, Pair.get_set_other]
      exact lane_onLane_other p _ s
    · exact returned_sess_other p e _
    · rw [listMoved_dropEntry (s := returnCounted p r s) (by rwa [list])]
      refine (dropEntry_blocks p e _).trans ?_
      rw [list]
      cases p <;> rfl
    · rw [listMoved_dropEntry (s := returnCounted p r s) (by rwa [list])]
      have reviewed := dropEntry_current (s := returnCounted p r s) cur
      rw [list] at reviewed
      exact reviewed.of_same rfl rfl rfl rfl
    · rw [listMoved_dropEntry (s := returnCounted p r s) (by rwa [list])]
      exact dropEntry_late late
  · subst dest
    have seen := coinRouted_unlisted (c := c) (d := .tube t) unlisted
    rw [countCoin_tube ⟨active, type, room⟩] at seen
    set counted := addCoinTotals c (coinType c s).value
      (onTube t (fun x => { x with count := x.count + 1, routedIn := x.routedIn + 1 }) s)
    obtain ⟨⟨value, coins⟩, records⟩ : CoinTotalled c (coinType c s).value s counted := coinTotalled_of_journal rfl
    have hu : u = append (some p) (.unclaimedCoin c (coinType c s).value (.tube t)) counted := congrArg Prod.fst seen
    have written := append_journal_room (p := some p) (b := .unclaimedCoin c (coinType c s).value (.tube t)) (s := counted)
      (show counted.journal.records.length < Config.journalCapacity by rw [records]; exact journal)
    rw [hu]
    refine ⟨seen, ?_, fun i other => ?_, ?_, ?_, ?_, ?_, ?_⟩
    · rw [tube, append_change]
      exact tube_onTube_self t _ s
    · rw [tube, append_change]
      exact tube_onTube_ne other _ s
    · rw [append_change]
      rfl
    · rw [append_sales]
      rfl
    · rw [written]
      exact coins
    · rw [written]
      exact value
    · rw [written]
      rfl
  · intro credit rise off takes further collected counted
    obtain rfl := findEntry_seq listed
    refine ⟨fun state below => ?_, fun q i state paid box req paper coins serves hi low => ?_, fun idle state waits => ?_⟩
    · have hc := coverCoin_step p
      set v := coinCounted p e (coverCoin p) s with hv
      have sess : sess p v = Machine.sess p s := coinCounted_sess hc p
      have seen : routed = (credited p e.value v, .credited p, some rise) := by
        rw [← creditCoin_below (by rwa [sess])]
        exact coinRouted_collecting listed mine state
      have hu : u = credited p e.value v := congrArg Prod.fst seen
      obtain ⟨totals, records⟩ : CoinTotalled e.ctype e.value s u := by
        rw [hu]
        exact coinCounted_totals hc
      rw [hu] at records ⊢
      refine ⟨seen, coinCounted_list hc, ?_, ?_, totals, records, fun box limit max => ?_, fun t tube room => ?_⟩
      · rw [credited, sess_onSess_self, sess, hv, (coinCounted_keeps hc e s).2.1]
      · rw [credited, sess_onSess_other]
        exact coinCounted_sess hc _
      · have change : (credited p e.value v).change = _ := coinCounted_boxed (p := p) box limit max
        rw [change]
        exact ⟨rfl, rfl, rfl⟩
      · obtain ⟨here, others, box⟩ := coinCounted_tubes hc tube room
        obtain ⟨self, other⟩ := coinCounted_resv hc tube room
        exact ⟨here, others, box, other, self.trans (coverCoin_resv p t _)⟩
    · set v := coinCounted p e (coverCoin p) s
      set job := ticketJob p (ticketFields (sess p (coinPaid p e s))) v with hj
      set w := setSlot i (.waiting job) (bumpQueue (coinPaid p e s)) with hw
      have seen : routed = (tryBegin w, .credited p, some rise) :=
        coinRouted_paid listed mine state paid box req paper coins serves hi low
      have hu : u = tryBegin w := congrArg Prod.fst seen
      obtain ⟨coins', journal, change, sales⟩ := queued_blocks i (.waiting job) (coinPaid p e s)
      rw [← hw, ← hu] at coins' journal change sales
      obtain ⟨totals, -⟩ : CoinTotalled e.ctype e.value s u := coinTotalled_of_journal (journal.trans (coinPaid_journal p e s))
      have list : (lane p u).list = off := by
        rw [lane, coins']
        exact coinPaid_list p e s
      have tubes : u.change.tubes = s.change.tubes := by rw [change, coinPaid_tubes box]
      have session : sess p u = _ := (sess_of_sales p sales).trans (coinPaid_sess p e s)
      obtain ⟨none, planned, held⟩ : ChangeFixed p (credit - (sess p s).due) s (resv p u) := by
        rw [resv, change]
        exact coinPaid_changeFixed box
      obtain ⟨credits, changes, card⟩ := ticketFields_coins (x := sess p (coinPaid p e s)) (by rw [coinPaid_sess]; exact coins)
      obtain ⟨-, -, -, print, -⟩ := coinCounted_box_keeps (p := p) (cover := coverCoin p) (s := s) box
      refine ⟨by rw [hu]; exact seen, list, totals, tubes, session, none, planned, held, job,
        ticketFields (sess p (coinPaid p e s)), ?_, rfl, rfl, ?_, rfl, ?_, ?_, card⟩
      · rw [hu]
        exact tryBegin_waiting (slotOf_setSlot_self i _ _)
      · rw [hj, ticketJob, print]
      · rw [credits, coinPaid_sess]
      · rw [changes, coinPaid_sess]
    · have hc := coverLate_step p
      set v := coinCounted p e (coverLate p) s with hv
      have sess : sess p v = Machine.sess p s := coinCounted_sess hc p
      have list : (lane p v).list = off := coinCounted_list hc
      have seen : routed = (creditedLate p e.value v, .lateCoin p, some rise) := by
        rw [← creditLate_waits (by rw [sess, list]; exact waits.imp_right fun h => ⟨idle, h⟩)]
        exact coinRouted_late listed mine idle state
      have hu : u = creditedLate p e.value v := congrArg Prod.fst seen
      obtain ⟨totals, records⟩ : CoinTotalled e.ctype e.value s u := by
        rw [hu]
        exact coinCounted_totals hc
      rw [hu] at records ⊢
      refine ⟨seen, list, ?_, totals, records, fun t tube room => ?_⟩
      · rw [creditedLate, sess_onSess_self, sess]
      · obtain ⟨here, -, -⟩ := coinCounted_tubes hc tube room
        exact ⟨(congrArg Tube.count here :), (coinCounted_resv hc tube room).1.trans (coverLate_resv p t _)⟩

end Sys2Proof.Proofs

namespace Sys2Proof.Machine

/-! ### A read's command in a poll's place (R77, R171) -/

section StandIn
variable {p q : Position} {age : Nat} {c : CardCmd} {busy : Bool} {s : State}

theorem readRetry_sends (h : ReadSends p c s) : readRetry p s = some c ∧ isReadCmd c = true := by
  obtain ⟨read, rfl⟩ | ⟨x, read, rfl⟩ := h
  · exact ⟨by rw [readRetry, read], rfl⟩
  · exact ⟨by rw [readRetry, read], rfl⟩

/-- What a read sends depends on its phase and its session. -/
theorem ReadSends.of_same {t : State} (h : ReadSends p c s) (cards : t.cards = s.cards) (sales : t.sales = s.sales) :
    ReadSends p c t := by
  rwa [ReadSends, readOf, cards, sess_of_sales p sales]

theorem noReadReady_iff : NoReadReady p s ↔ readCmdReady p s = false := by
  simp only [NoReadReady, readCmdReady, List.any_eq_false, Bool.and_eq_true, decide_eq_true_eq, not_and, Bool.not_eq_true]

theorem cardAddr_injective : Function.Injective cardAddr := by
  rintro (_ | _) (_ | _) h <;> trivial

theorem cardAddr_ne (h : q ≠ p) : cardAddr q ≠ cardAddr p := cardAddr_injective.ne h

/-- What one position's read looks at: its module's poll, its phase, and the card commands of its module. -/
def SameRead (p : Position) (s t : State) : Prop :=
  (periph (cardAddr p) t).pollDue = (periph (cardAddr p) s).pollDue ∧ readRetry p t = readRetry p s ∧
  readCmdReady p t = readCmdReady p s ∧ t.link.line = s.link.line

theorem readCmdOnLine_same {t : State} (h : t.link.line = s.link.line) : readCmdOnLine p t = readCmdOnLine p s := by
  rw [readCmdOnLine, readCmdOnLine, h]

/-- The other position's read stands in without touching this one's. -/
theorem standIn_other (h : q ≠ p) (s : State) : SameRead p s (standIn q s) ∧ ∀ f ∈ s.link.cardReady, f ∈ (standIn q s).link.cardReady := by
  have poll : periph (cardAddr p) (onPeriph (cardAddr q) (fun x => { x with pollDue := none }) s) = periph (cardAddr p) s :=
    periph_onPeriph_ne (cardAddr_ne h).symm _ s
  obtain e | ⟨age, c, -, -, ⟨-, e⟩ | ⟨-, -, e⟩⟩ := standIn_cases q s
  · rw [e]
    exact ⟨⟨rfl, rfl, rfl, rfl⟩, fun _ => id⟩
  · rw [e]
    exact ⟨⟨congrArg Peripheral.pollDue poll, rfl, rfl, rfl⟩, fun _ => id⟩
  · rw [e]
    refine ⟨⟨congrArg Peripheral.pollDue poll, rfl, ?_, rfl⟩, fun _ => List.mem_append_left _⟩
    simp [readCmdReady, h]

/-- What standing in makes of a due poll of p's module: it is forgotten, a command in its place or one ready already; or it waits
while the read's command is in its exchange. -/
def StoodIn (p : Position) (age : Nat) (c : CardCmd) (s t : State) : Prop :=
  (readCmdReady p s = true → (periph (cardAddr p) t).pollDue = none) ∧
  (readCmdReady p s = false → readCmdOnLine p s = false →
    (periph (cardAddr p) t).pollDue = none ∧ ⟨p, age, c⟩ ∈ t.link.cardReady) ∧
  (readCmdReady p s = false → readCmdOnLine p s = true →
    (periph (cardAddr p) t).pollDue = some age ∧ readCmdReady p t = false) ∧
  t.link.line = s.link.line

theorem standIn_stoodIn (due : (periph (cardAddr p) s).pollDue = some age) (retry : readRetry p s = some c) :
    StoodIn p age c s (standIn p s) := by
  unfold standIn
  simp only [due, retry]
  split
  · rename_i ready
    refine ⟨fun _ => by rw [periph_onPeriph_self], fun h => ?_, fun h => ?_, rfl⟩ <;> rw [ready] at h <;> cases h
  · rename_i ready
    split
    · rename_i out
      refine ⟨fun h => absurd h ready, fun _ h => ?_, fun h _ => ⟨due, h⟩, rfl⟩
      rw [out] at h
      cases h
    · rename_i idle
      refine ⟨fun h => absurd h ready, fun _ _ => ⟨?_, List.mem_append_right _ (.head _)⟩, fun _ h => absurd h idle, rfl⟩
      exact congrArg Peripheral.pollDue (periph_onPeriph_self (cardAddr p) (fun x => { x with pollDue := none }) s)

/-- Both reads stand in before the line is handed out. -/
theorem standIns_stoodIn (due : (periph (cardAddr p) s).pollDue = some age) (retry : readRetry p s = some c) :
    StoodIn p age c s (standIn .B (standIn .A s)) := by
  cases p with
  | A =>
    obtain ⟨ready, waits, out, line⟩ := standIn_stoodIn due retry
    obtain ⟨⟨poll, -, cmds, line'⟩, more⟩ := standIn_other (p := .A) (q := .B) (by decide) (standIn .A s)
    refine ⟨fun h => poll.trans (ready h), fun h k => ?_, fun h k => ?_, line'.trans line⟩
    · obtain ⟨none, mem⟩ := waits h k
      exact ⟨poll.trans none, more _ mem⟩
    · obtain ⟨some, no⟩ := out h k
      exact ⟨poll.trans some, cmds.trans no⟩
  | B =>
    obtain ⟨⟨poll, phase, cmds, line⟩, -⟩ := standIn_other (p := .B) (q := .A) (by decide) s
    obtain ⟨ready, waits, out, line'⟩ := standIn_stoodIn (p := .B) (poll.trans due) (phase.trans retry)
    rw [cmds, readCmdOnLine_same line] at waits out
    rw [cmds] at ready
    exact ⟨ready, waits, out, line'.trans line⟩

/-! ### Handing out the line (R174) -/

theorem handOut_busyLine (h : s.link.line ≠ .idle) : handOut busy s = s := by
  unfold handOut
  split
  · exact absurd ‹_› h
  all_goals rfl

/-- A frame that leaves the place where it was ready takes no other card command with it. -/
theorem unready_cardReady {r : ReadyFrame} (h : ⟨p, age, c⟩ ∈ s.link.cardReady) (other : r ≠ ⟨age, .card p c⟩) :
    ⟨p, age, c⟩ ∈ (unready r s).link.cardReady := by
  obtain ⟨age', frame⟩ := r
  cases frame with
  | card q d =>
    refine (List.mem_erase_of_ne fun e => other ?_).2 h
    cases e
    rfl
  | line n t => exact (onProgress_link _ s).symm ▸ h
  | cut n => exact (onProgress_link _ s).symm ▸ h
  | _ => exact h

/-- A card command that is ready stays ready, or goes on the line with its age. -/
theorem handOut_cardWaits (h : ⟨p, age, c⟩ ∈ s.link.cardReady) : CardWaits p age c (handOut busy s) := by
  unfold handOut
  split
  · split
    · exact .inl h
    · split
      · exact .inl h
      · rename_i r chosen
        split
        · refine .inl ?_
          unfold defer
          dsimp only
          split
          · exact h
          · rw [onLink_link, raiseFault_link]
            exact h
        · by_cases mine : r = ⟨age, .card p c⟩
          · subst mine
            exact .inr rfl
          · refine .inl ?_
            show _ ∈ (unready r s).link.cardReady
            exact unready_cardReady h mine
  all_goals exact .inl h

theorem finish_cardWaits (h : CardWaits p age c s) : CardWaits p age c (finish s) := by
  rwa [CardWaits, finish_link]

/-- A read's command comes in its module's due poll's place on an idle line, with the poll's age. -/
theorem settle_standsIn (due : (periph (cardAddr p) s).pollDue = some age) (sends : ReadSends p c s) (none : NoReadReady p s)
    (line : s.link.line = .idle) :
    (periph (cardAddr p) (settle busy s)).pollDue = .none ∧ CardWaits p age c (settle busy s) := by
  have out : readCmdOnLine p s = false := by rw [readCmdOnLine, line]
  obtain ⟨-, waits, -⟩ := standIns_stoodIn due (readRetry_sends sends).1
  obtain ⟨taken, ready⟩ := waits (noReadReady_iff.1 none) out
  exact ⟨(settled_periph busy s (cardAddr p)).2.2.2.2.1 taken, finish_cardWaits (handOut_cardWaits ready)⟩

/-- With a command of its read ready, the poll is forgotten. -/
theorem settle_forgets (due : (periph (cardAddr p) s).pollDue = some age) (sends : ReadSends p c s) (ready : ¬ NoReadReady p s) :
    (periph (cardAddr p) (settle busy s)).pollDue = none := by
  obtain ⟨forgets, -⟩ := standIns_stoodIn due (readRetry_sends sends).1
  rw [noReadReady_iff, Bool.not_eq_false] at ready
  exact (settled_periph busy s (cardAddr p)).2.2.2.2.1 (forgets ready)

/-- While the read's command is in its exchange the poll waits. -/
theorem settle_waits (due : (periph (cardAddr p) s).pollDue = some age) (sends : ReadSends p c s) (none : NoReadReady p s)
    {n : Nat} (line : s.link.line = .window ⟨n, .card p c⟩ ∨ s.link.line = .sending ⟨n, .card p c⟩) :
    (periph (cardAddr p) (settle busy s)).pollDue = some age ∧ NoReadReady p (settle busy s) ∧
      (settle busy s).link.line = s.link.line := by
  obtain ⟨retry, read⟩ := readRetry_sends sends
  have out : readCmdOnLine p s = true := by
    obtain line | line := line <;> simp [readCmdOnLine, line, read]
  obtain ⟨-, -, waits, same⟩ := standIns_stoodIn due retry
  obtain ⟨poll, no⟩ := waits (noReadReady_iff.1 none) out
  have busyLine : (standIn .B (standIn .A s)).link.line ≠ .idle := by
    rw [same]
    obtain line | line := line <;> rw [line] <;> exact fun h => by cases h
  have settled : settle busy s = finish (standIn .B (standIn .A s)) := congrArg finish (handOut_busyLine busyLine)
  rw [settled, noReadReady_iff, periph, readCmdReady, finish_link]
  exact ⟨poll, no, same⟩

end StandIn

/-! ### A poll falls due (R171) -/

section PollDue
variable {a : Addr} {p : Position} {busy : Bool} {s : State}

theorem pollDue_runs (on : s.power = true) : exec (.pollDue a busy) s = .next (settle busy (pollFallsDue a s)) :=
  congrArg Host.Outcome.next (if_pos on)

theorem writeOutAt_iff : writeOutAt a s = true ↔ ∃ p, a = cardAddr p ∧ writeHeld p s = true := by
  constructor
  · intro h
    cases a with
    | cardA => exact ⟨.A, rfl, h⟩
    | cardB => exact ⟨.B, rfl, h⟩
    | _ => cases h
  · rintro ⟨p, rfl, h⟩
    cases p <;> exact h

theorem pollFallsDue_held (h : s.link.lend ≠ none ∨ ∃ p, a = cardAddr p ∧ writeHeld p s = true) : pollFallsDue a s = s := by
  refine if_pos ?_
  rw [Bool.or_eq_true, writeOutAt_iff, lent, Option.isSome_iff_ne_none]
  exact h

theorem pollFallsDue_waits (free : s.link.lend = none) (held : ∀ p, a = cardAddr p → writeHeld p s = false) :
    pollFallsDue a s = onPeriph a (fallDue s.port.moment) s := by
  refine if_neg ?_
  rw [Bool.or_eq_true, writeOutAt_iff, lent, free]
  rintro (h | ⟨p, ha, h⟩)
  · cases h
  · rw [held p ha] at h
    cases h

/-- No event comes up by a poll. -/
theorem eventDue_same {t : State} (change : t.change = s.change)
    (periph : ∀ a, (periph a t).state = (Machine.periph a s).state ∧ (Machine.periph a t).missingDue = (Machine.periph a s).missingDue) :
    eventDue t = eventDue s := by
  simp only [eventDue, online, change, (periph _).1, (periph _).2]

/-- A waiting INHIBIT is level 1's only frame, and the arbiter's choice. -/
theorem choose_waitingInhibit {age : Nat} {m : BitVec 8} (verdicts : s.link.verdicts = []) (waits : s.link.inhibit.get p = some (age, m))
    (other : s.link.inhibit.get p.other = none) : choose s = some ⟨age, .inhibit p m⟩ := by
  have level : level1 s = [⟨age, .inhibit p m⟩] := by
    cases p <;> simp only [Position.other] at other <;> simp [level1, verdicts, waits, other]
  have go : mayGo 1 (.inhibit p m) s = true := by cases p <;> simp [mayGo, writeOutAt, frameAddr, valAddr, cardPos]
  have oldest : oldestReady 1 s (level1 s) = some ⟨age, .inhibit p m⟩ := by rw [level, oldestReady, go, oldestReady]
  rw [choose, oldest]

/-- A poll that falls due touches its peripheral alone, and no event comes up. -/
theorem pollFallsDue_keeps (a : Addr) (s : State) :
    s.link = { (pollFallsDue a s).link with periph := s.link.periph } ∧ eventDue (pollFallsDue a s) = eventDue s := by
  unfold pollFallsDue
  split
  · exact ⟨rfl, rfl⟩
  · refine ⟨rfl, eventDue_same rfl fun b => ?_⟩
    rw [makeDue, onPeriph_periph]
    split
    · subst b
      exact ⟨rfl, rfl⟩
    · exact ⟨rfl, rfl⟩

/-- Standing in touches polls and card commands: no event comes up and no INHIBIT moves. -/
theorem standIns_keep (s : State) : (standIn .B (standIn .A s)).link.verdicts = s.link.verdicts ∧
    (standIn .B (standIn .A s)).link.inhibit = s.link.inhibit ∧ (standIn .B (standIn .A s)).link.inhibitKept = s.link.inhibitKept ∧
    (standIn .B (standIn .A s)).link.line = s.link.line ∧ eventDue (standIn .B (standIn .A s)) = eventDue s := by
  have step (q : Position) (s : State) : (standIn q s).link.verdicts = s.link.verdicts ∧
      (standIn q s).link.inhibit = s.link.inhibit ∧ (standIn q s).link.inhibitKept = s.link.inhibitKept ∧
      (standIn q s).link.line = s.link.line ∧ eventDue (standIn q s) = eventDue s := by
    have polled : eventDue (onPeriph (cardAddr q) (fun x => { x with pollDue := none }) s) = eventDue s := by
      refine eventDue_same rfl fun a => ?_
      rw [onPeriph_periph]
      split
      · subst a
        exact ⟨rfl, rfl⟩
      · exact ⟨rfl, rfl⟩
    obtain e | ⟨age, c, -, -, ⟨-, e⟩ | ⟨-, -, e⟩⟩ := standIn_cases q s <;> rw [e]
    · exact ⟨rfl, rfl, rfl, rfl, rfl⟩
    · exact ⟨rfl, rfl, rfl, rfl, polled⟩
    · exact ⟨rfl, rfl, rfl, rfl, polled⟩
  obtain ⟨v, i, k, l, d⟩ := step .A s
  obtain ⟨v', i', k', l', d'⟩ := step .B (standIn .A s)
  exact ⟨v'.trans v, i'.trans i, k'.trans k, l'.trans l, d'.trans d⟩

/-- A waiting INHIBIT goes on the idle line before every poll (R174). -/
theorem settle_inhibit {age : Nat} {m : BitVec 8} (line : s.link.line = .idle) (quiet : eventDue s = false)
    (verdicts : s.link.verdicts = []) (waits : s.link.inhibit.get p = some (age, m)) (other : s.link.inhibit.get p.other = none) :
    (settle false s).link.line = .sending ⟨age, .inhibit p m⟩ ∧ (settle false s).link.inhibit.get p = none ∧
      (settle false s).link.inhibitKept.get p = some (age, m) := by
  obtain ⟨v, i, k, l, d⟩ := standIns_keep s
  have chosen := choose_waitingInhibit (s := standIn .B (standIn .A s)) (v.trans verdicts) (by rw [i, waits]) (by rw [i, other])
  have handed : handOut false (standIn .B (standIn .A s)) =
      onLink (fun l => { l with line := .sending ⟨age, .inhibit p m⟩ }) (unready ⟨age, .inhibit p m⟩ (standIn .B (standIn .A s))) := by
    simp only [handOut, l, line, d, quiet, chosen, Bool.false_eq_true, if_false]
    rfl
  rw [settle, arbitrate, finish_link, handed]
  exact ⟨rfl, Pair.get_set_self _ _ _, Pair.get_set_self _ _ _⟩

/-! ### A frame has been sent (R90, R166, R173) -/

/-- The frame is counted at its peripheral. -/
def sentCounted (a : Addr) (s : State) : State :=
  onPeriph a (fun x => { x with counters := { x.counters with sent := x.counters.sent + 1 } }) s

theorem deviceFrameSent_runs (on : s.power = true) : exec (.deviceFrameSent busy) s = .next (frameSent busy s) :=
  congrArg Host.Outcome.next (if_pos on)

/-- A frame that is no WRITE opens its answer window. -/
theorem frameSent_window {r : ReadyFrame} (line : s.link.line = .sending r) (own : ∀ p w, r.frame ≠ .card p (.write w))
    (forwarded : ∀ f, r.frame = .pass f → writeTo f = none) :
    frameSent busy s = finish (sentCounted (frameAddr r.frame) { s with link := { s.link with line := .window r } }) := by
  obtain ⟨age, frame⟩ := r
  unfold frameSent
  rw [line]
  cases frame with
  | card p c =>
    cases c with
    | write w => exact absurd rfl (own p w)
    | detect n credit => rfl
    | read n x => rfl
  | pass f =>
    simp only [forwarded f rfl]
    rfl
  | _ => rfl

/-- A WRITE of the controller is outstanding at once (R90). -/
theorem frameSent_write {age : Nat} {w : CardWrite} (line : s.link.line = .sending ⟨age, .card p (.write w)⟩) :
    frameSent busy s = settle busy (sentCounted (cardAddr p) { s with link := { s.link with
      line := .idle, writeOut := s.link.writeOut.set p (some w), lastWrite := s.link.lastWrite.set p (some w.image.id) } }) := by
  unfold frameSent
  rw [line]
  rfl

theorem writeTo_module {f : QueuedPass} (addr : f.addr = cardAddr p) (code : f.code = 7) : writeTo f = some p := by
  cases p <;> simp [writeTo, addr, code, cardAddr, cardPos]

/-- A forwarded WRITE is outstanding at once (R166, R185). -/
theorem frameSent_passWrite {age : Nat} {f : QueuedPass} (line : s.link.line = .sending ⟨age, .pass f⟩) (addr : f.addr = cardAddr p)
    (code : f.code = 7) :
    frameSent busy s = settle busy (sentCounted (cardAddr p) { s with link := { s.link with
      line := .idle, passWrite := s.link.passWrite.set p (some f) } }) := by
  unfold frameSent
  rw [line]
  simp only [writeTo_module addr code, frameAddr, addr]
  rfl

end PollDue

/-! ### An exchange ends unanswered (R169) -/

section Unanswered
variable {r : ReadyFrame} {p : Position} {busy : Bool} {s : State}

/-- The exchange counted as unanswered, and the line free. -/
def unansweredCounted (f : LinkFrame) (s : State) : State := onPeriph (frameAddr f) (fun x => { x with
    streak := min 255 (x.streak + 1)
    counters := { x.counters with unanswered := x.counters.unanswered + 1 }
    missingDue := x.missingDue ||
      (decide (x.state = .online) && decide (s.link.timing.missing ≤ min 255 (x.streak + 1))) })
  { s with link := { s.link with line := .idle } }

theorem unanswered_counted (own : lendFrame r.frame = false) (s : State) :
    unanswered r s = settleUnanswered r (unansweredCounted r.frame s) := by
  rw [unanswered, countUnanswered, own]
  rfl

theorem answerTimeout_runs (on : s.power = true) (line : s.link.line = .window r) :
    exec (.answerTimeout busy) s = .next (served busy (unanswered r s)) := by
  refine congrArg Host.Outcome.next ((if_pos on).trans ?_)
  simp only [timedOut, line]
  rfl

/-- A check error is counted at the peripheral. -/
def checkCounted (a : Addr) (s : State) : State :=
  onPeriph a (fun x => { x with counters := { x.counters with checkErrors := x.counters.checkErrors + 1 } }) s

/-- A frame with a wrong check ends the exchange unanswered (R165). -/
theorem deviceFrameDiscarded_wrong {bs : List Byte} (on : s.power = true) (up : s.resetHeld = false) (line : s.link.line = .window r)
    (wrong : linkFrameTaken bs = false) :
    exec (.deviceFrameDiscarded bs busy) s = .next (served busy (unanswered r (checkCounted (frameAddr r.frame) s))) := by
  have runs : running s = true := by rw [running, on, up]; rfl
  refine congrArg Host.Outcome.next ((if_pos runs).trans ?_)
  simp only [discarded, line, wrong, if_true]
  rfl

/-- A poll is not repeated, and leaves the DISPENSE alone where there is none or another peripheral was polled. -/
theorem settleUnanswered_poll {a : Addr} {c : Option Byte} (frame : r.frame = .poll a c)
    (free : a ≠ .changer ∨ s.change.dispense = none) : settleUnanswered r s = s := by
  unfold settleUnanswered
  rw [frame]
  refine if_neg ?_
  rintro ⟨changer, out⟩
  obtain h | h := free
  · exact h changer
  · rw [h] at out
    cases out

theorem settleUnanswered_inhibit {m : BitVec 8} (frame : r.frame = .inhibit p m) (on : (periph (valAddr p) s).state = .online) :
    settleUnanswered r s = onLink (fun l => { l with
      inhibit := l.inhibit.set p (l.inhibitKept.get p), inhibitKept := l.inhibitKept.set p none }) s := by
  have up : online (valAddr p) s = true := decide_eq_true on
  unfold settleUnanswered
  rw [frame]
  simp only [up, if_true]

theorem settleUnanswered_read {c : CardCmd} (frame : r.frame = .card p c) (read : isReadCmd c = true) : settleUnanswered r s = s := by
  unfold settleUnanswered
  rw [frame]
  cases c with
  | detect n credit =>
    have ordinary : credit = false := by simpa [isReadCmd] using read
    simp [ordinary]
  | read n x => rfl
  | write w => cases read

theorem settleUnanswered_pass {f : QueuedPass} (frame : r.frame = .pass f) : settleUnanswered r s = passReply f none s := by
  unfold settleUnanswered
  rw [frame]

/-! ### A right frame of any kind (R165, R180; log 52) -/

theorem linkFrameBytes_cons (addr kind : Byte) (body : List Byte) : linkFrameBytes addr kind body =
    addr :: kind :: BitVec.ofNat 8 body.length :: (body ++ [crc8 (addr :: kind :: (beBytes 1 body.length ++ body))]) := by
  simp [linkFrameBytes, beBytes]

theorem fieldAt_one (bs : List Byte) (n : Nat) (b : Byte) (h : bs[n]? = some b) : fieldAt bs n 1 = b.toNat := by
  have drop : (bs.drop n).head? = some b := by rw [List.head?_drop, h]
  obtain ⟨rest, e⟩ := List.head?_eq_some_iff.1 drop
  simp [fieldAt, e, beNat]

theorem linkFrameBytes_length (addr kind : Byte) {body : List Byte} (short : body.length ≤ 64) :
    fieldAt (linkFrameBytes addr kind body) 2 1 = body.length := by
  rw [linkFrameBytes_cons, fieldAt_one _ 2 _ rfl, BitVec.toNat_ofNat]
  omega

/-- A frame laid out by section 9.7 is taken (R165). -/
theorem linkFrameTaken_bytes (addr kind : Byte) {body : List Byte} (short : body.length ≤ 64) :
    linkFrameTaken (linkFrameBytes addr kind body) = true := by
  have length : (linkFrameBytes addr kind body).length = body.length + 4 := by simp [linkFrameBytes_cons]
  have check : (linkFrameBytes addr kind body).getLast? =
      some (crc8 ((linkFrameBytes addr kind body).take ((linkFrameBytes addr kind body).length - 1))) := by
    dsimp only [linkFrameBytes]
    rw [List.getLast?_concat, List.length_append, List.length_singleton, Nat.add_sub_cancel, List.take_left' rfl]
  simp only [linkFrameTaken, linkFrameBytes_length addr kind short, check, length, Bool.and_eq_true, decide_eq_true_eq]
  exact ⟨⟨⟨by omega, trivial⟩, short⟩, trivial⟩

theorem fitsBytes_unknown {f : QueuedPass} (kind : Byte) (body : List Byte) (unknown : knowsCode (addrKind f.addr) f.code.toNat = false) :
    fitsBytes (.pass f) (linkFrameBytes (BitVec.ofNat 8 (addrNumber f.addr)) kind body) = true := by
  have addr : fieldAt (linkFrameBytes (BitVec.ofNat 8 (addrNumber f.addr)) kind body) 0 1 = addrNumber f.addr := by
    rw [linkFrameBytes_cons, fieldAt_one _ 0 _ rfl]
    cases f.addr <;> rfl
  rw [fitsBytes, addr, addrOf_addrNumber]
  simp [fits, frameAddr, frameCode, unknown]

/-- A right frame with a body that no command carries answers a forwarded frame of an unknown code (R180). -/
theorem deviceFrameDiscarded_other {f : QueuedPass} {age : Nat} {kind : Byte} {body : List Byte} (on : s.power = true)
    (up : s.resetHeld = false) (line : s.link.line = .window ⟨age, .pass f⟩) (plain : f.unfiltered = false) (addr : f.addr ≠ .printer)
    (unknown : knowsCode (addrKind f.addr) f.code.toNat = false) (short : body.length ≤ 64)
    (other : hasCommand f.addr kind.toNat body = false) :
    exec (.deviceFrameDiscarded (linkFrameBytes (BitVec.ofNat 8 (addrNumber f.addr)) kind body) busy) s =
      .next (served busy (passReply f (some (.other kind body)) (heard f.addr s))) := by
  have runs : running s = true := by rw [running, on, up]; rfl
  have own : lendFrame (.pass f) = false := plain
  have taken := linkFrameTaken_bytes (BitVec.ofNat 8 (addrNumber f.addr)) kind short
  have fit := fitsBytes_unknown kind body unknown
  have length := linkFrameBytes_length (BitVec.ofNat 8 (addrNumber f.addr)) kind short
  refine congrArg Host.Outcome.next ((if_pos runs).trans ?_)
  simp only [discarded, line, taken, fit, Bool.true_eq_false, if_false, if_true]
  rw [linkFrameBytes_cons] at length ⊢
  simp only [otherAnswer, length, List.take_left, frameAddr, other, Bool.false_eq_true, if_false]
  rw [countAnswered_heard own]
  obtain ⟨st, printer, -⟩ | e := passAnswered_cases f (.other kind body) (heard f.addr s)
  · exact absurd printer addr
  · rw [served, ← e]
    rfl

end Unanswered
end Sys2Proof.Machine

namespace Sys2Proof.Proofs
open Sys2Proof Sys2Proof.Machine

/-- Settles O41: what falls due waits or is stood in for, what is sent is counted, and what is left unanswered is counted and settled. -/
theorem pollsSentAndUnanswered : Obligations.PollsSentAndUnanswered := by
  refine ⟨fun a busy s on => ?_, fun r busy s on line => ?_⟩
  · intro waits
    have runs {b : Bool} := pollDue_runs (a := a) (busy := b) on
    refine ⟨fun h => by rw [runs, pollFallsDue_held h], fun free held => by rw [runs, pollFallsDue_waits free held]; rfl,
      fun p c ha free held none sends => ?_, fun p age m line quiet verdicts waiting other => ?_,
      fun r line own forwarded => by rw [deviceFrameSent_runs on, frameSent_window line own forwarded]; rfl,
      fun age p w line => by rw [deviceFrameSent_runs on, frameSent_write line]; rfl,
      fun age p f line addr code => by rw [deviceFrameSent_runs on, frameSent_passWrite line addr code]; rfl⟩
    · subst ha
      have polled : pollFallsDue (cardAddr p) s = onPeriph (cardAddr p) (fallDue s.port.moment) s :=
        pollFallsDue_waits free fun q hq => by
          obtain rfl : p = q := cardAddr_injective hq
          exact held
      have due : (periph (cardAddr p) (onPeriph (cardAddr p) (fallDue s.port.moment) s)).pollDue = some s.port.moment := by
        rw [periph_onPeriph_self, fallDue, none]
        rfl
      rw [polled] at runs
      exact ⟨fun ready => ⟨_, runs, settle_forgets due sends ready⟩, fun ready idle => ⟨_, runs, settle_standsIn due sends ready idle⟩,
        fun age ready out => ⟨_, runs, settle_waits due sends ready out⟩⟩
    · obtain ⟨link, due⟩ := pollFallsDue_keeps a s
      rw [link] at line verdicts waiting other
      exact ⟨_, runs, settle_inhibit line (due.trans quiet) verdicts waiting other⟩
  · intro count checked
    refine ⟨fun a c frame free => ?_, fun p m frame online => ?_, fun p c due frame sends ready poll => ?_, fun f frame plain => ?_⟩
    · have own : lendFrame r.frame = false := by rw [frame]; rfl
      refine ⟨?_, fun bs up wrong => ?_⟩
      · rw [answerTimeout_runs on line, unanswered_counted own, settleUnanswered_poll (s := unansweredCounted _ s) frame free]
        rfl
      · rw [deviceFrameDiscarded_wrong on up line wrong, unanswered_counted own,
          settleUnanswered_poll (s := unansweredCounted _ (checkCounted _ s)) frame free]
        rfl
    · have own : lendFrame r.frame = false := by rw [frame]; rfl
      have up : (periph (valAddr p) (unansweredCounted r.frame s)).state = .online := by
        rw [unansweredCounted, onPeriph_periph]
        split
        · rename_i e
          exact e ▸ online
        · exact online
      refine ⟨_, by rw [answerTimeout_runs on line, unanswered_counted own]; rfl, ?_⟩
      rw [settleUnanswered_inhibit frame up]
      exact ⟨rfl, rfl, rfl, rfl⟩
    · have own : lendFrame r.frame = false := by rw [frame]; rfl
      refine ⟨_, answerTimeout_runs on line, ?_⟩
      rw [unanswered_counted own, settleUnanswered_read frame (readRetry_sends sends).2]
      obtain ⟨⟨i, k, link, -⟩, -⟩ := masks_masksOnly none (unansweredCounted r.frame s)
      refine settle_standsIn ?_ ?_ ?_ ?_
      · rw [masks_periph, unansweredCounted, onPeriph_periph]
        split
        · rename_i e
          exact e ▸ poll
        · exact poll
      · exact sends.of_same (masks_cards _ _) (masks_sales _ _)
      · rw [NoReadReady, link]
        exact ready
      · rw [link]
        rfl
    · obtain ⟨age, frame'⟩ := r
      obtain rfl : frame' = .pass f := frame
      have own : lendFrame (.pass f) = false := plain
      refine ⟨?_, fun kind body up addr unknown short other => ?_⟩
      · rw [answerTimeout_runs on line, unanswered_counted own, settleUnanswered_pass rfl]
        rfl
      · rw [deviceFrameDiscarded_other on up line plain addr unknown short other]
        rfl

end Sys2Proof.Proofs

namespace Sys2Proof.Machine

/-! ### What settling a missing peripheral keeps -/

/-- The parts that no peripheral's loss touches. -/
structure Untouched where
  fare : Fare
  cash : Cash
  tubes : Vector Tube 6
  box : Box
  deny : List CardId
  periph : Vector Peripheral 6
  passQueue : List QueuedPass

def untouched (s : State) : Untouched :=
  ⟨s.fare, s.cash, s.change.tubes, s.change.box, s.cards.deny, s.link.periph, s.link.passQueue⟩

section Untouched
variable {p : Position} {s t : State}

theorem untouched_aside (s : State) : untouched (aside s) = untouched s := rfl

theorem Controlled.untouched (h : Controlled p s t) : untouched t = Machine.untouched s := by
  rw [← untouched_aside, h.aside, untouched_aside]

theorem Controls.untouched (h : Controls s t) : untouched t = Machine.untouched s := by
  rw [← untouched_aside, h.aside, untouched_aside]

/-! ### Payouts without a changer (R57) -/

theorem printDone_change (j : Job) (o : JobOutcome) (s : State) : (printDone j o s).change = s.change := by
  unfold printDone
  dsimp only
  split <;> rfl

theorem noteJob_change (j : Job) (s : State) : (noteJob j s).change = s.change := by
  unfold noteJob
  split
  · exact note_change _ _ s
  · exact note_change _ _ s
  · rfl
  · rfl

theorem giveJob_change (k : JobKind) (p : Position) (x : SaleFields) (n : Option (BitVec 32)) (pending : Bool) (s : State) :
    (giveJob k p x n pending s).change = s.change := by
  unfold giveJob
  dsimp only
  split
  · rw [printDone_change, noteJob_change]
    rfl
  · split
    · rw [jobFailed, printDone_change, noteJob_change]
      rfl
    · rw [tryBegin_eq]
      rfl

theorem closeJobs_change (p : Position) (refund : Bool) (r : EndReason) (n : Option (BitVec 32)) (x : Session) (s : State) :
    (closeJobs p refund r n x s).change = s.change := by
  unfold closeJobs
  extract_lets wants needs given
  have kept : given.change = s.change := by
    show (ite _ _ _ : State).change = _
    split
    · exact giveJob_change ..
    · rfl
  split
  · rw [giveJob_change, kept]
  · exact kept

/-- A close gives up its position's reservations, and nothing else of the change store. -/
theorem closeSession_change (p : Position) (s : State) :
    (closeSession p s).change = { s.change with resv := s.change.resv.set p Reserve.start } := by
  have released (r : EndReason) {u : State} (h : u.change = s.change) :
      (release p r u).change = { s.change with resv := s.change.resv.set p Reserve.start } := by
    rw [← h]
    rfl
  unfold closeSession
  dsimp only
  split
  · exact released _ rfl
  · refine released _ ?_
    rw [closeJobs_change, append_change]
    rfl

/-- No DISPENSE is out or waits, and none can be formed: the changer is not ONLINE. -/
def Stilled (s : State) : Prop :=
  online .changer s = false ∧ s.change.dispense = none ∧ ∀ q, (resv q s).waiting = none

theorem handDispense_stilled (h : Stilled s) : handDispense s = s := by
  obtain ⟨-, out, waiting⟩ := h
  simp only [handDispense, out, waiting]

/-- The change store after a step that leaves p's payout ended: p's reservations are r, with nothing being paid. -/
def Ceased (p : Position) (s t : State) : Prop :=
  ∃ r : Reserve, t.change = { s.change with resv := s.change.resv.set p r } ∧ r.paying = false ∧ r.waiting = none

theorem wantEnd_ceased {u : State} (h : Ceased p s u) : Ceased p s (wantEnd p u) := by
  obtain ⟨r, change, paying, waiting⟩ := h
  unfold wantEnd
  split
  · refine ⟨Reserve.start, ?_, rfl, rfl⟩
    rw [closeSession_change, change, Pair.set_set]
  · exact ⟨r, change, paying, waiting⟩

/-- Off line, a payout is over as soon as it is looked at. -/
theorem advancePayout_offline (off : online .changer s = false) : ∃ owed, advancePayout p s = (closePayout p s, some owed) := by
  by_cases none : unpaid (resv p s).plan = []
  · exact ⟨_, if_pos none⟩
  · exact ⟨_, (if_neg none).trans (if_pos off)⟩

/-- Only p's reservations differ in the change store. -/
def ResvMoved (p : Position) (s t : State) : Prop := ∃ r : Reserve, t.change = { s.change with resv := s.change.resv.set p r }

theorem ResvMoved.refl (p : Position) (s : State) : ResvMoved p s s := ⟨resv p s, by cases p <;> rfl⟩

theorem ResvMoved.onResv (h : ResvMoved p s t) (f : Reserve → Reserve) : ResvMoved p s (onResv p f t) := by
  obtain ⟨r, change⟩ := h
  refine ⟨f r, ?_⟩
  rw [onResv_change, change]
  cases p <;> rfl

theorem Ceased.moved (h : Ceased p s t) : ResvMoved p s t := by
  obtain ⟨r, change, -, -⟩ := h
  exact ⟨r, change⟩

theorem ResvMoved.resv (h : ResvMoved p s t) : t.change = { s.change with resv := s.change.resv.set p (Machine.resv p t) } := by
  obtain ⟨r, change⟩ := h
  rw [Machine.resv, change, Pair.get_set_self]

/-- A payout closed has nothing being paid. -/
theorem closePayout_ceased (h : ResvMoved p s t) : Ceased p s (closePayout p t) := by
  refine ⟨_, (h.onResv _).resv, ?_, ?_⟩ <;> rw [resv_onResv_self]

theorem Ceased.stilled (h : Ceased p s t) (still : Stilled s) (periph : t.link.periph = s.link.periph) : Stilled t := by
  obtain ⟨r, change, -, waiting⟩ := h
  obtain ⟨off, out, waits⟩ := still
  refine ⟨by rw [online_of_periph periph, off], by rw [change, out], fun q => ?_⟩
  rw [resv, change]
  by_cases hq : q = p
  · rw [hq, Pair.get_set_self, waiting]
  · rw [Pair.get_set_ne _ hq]
    exact waits q

theorem payFurther_ceased (h : Ceased p s t) (still : Stilled s) (periph : t.link.periph = s.link.periph) :
    Ceased p s (payFurther p t) := by
  have planned : ResvMoved p s (planFurther p t) :=
    (show ResvMoved p s (onSess p (fun x => { x with further := 0, stage := .paying }) t) from h.moved).onResv _ |>.onResv _
  obtain ⟨owed, paid⟩ := advancePayout_offline (p := p) (s := planFurther p t) ((online_of_periph (show (planFurther p t).link.periph = s.link.periph from periph)).trans still.1)
  have closed : Ceased p s (addOwed p owed (closePayout p (planFurther p t))) := closePayout_ceased planned
  have quiet := closed.stilled still periph
  rw [payFurther, paid]
  show Ceased p s (wantEnd p (handDispense _))
  rw [handDispense_stilled quiet]
  exact wantEnd_ceased closed

theorem payoutEnded_ceased {n : Nat} (h : Ceased p s t) (still : Stilled s) (periph : t.link.periph = s.link.periph) :
    Ceased p s (payoutEnded p n t) := by
  have owed : Ceased p s (addOwed p n t) := h
  unfold payoutEnded
  dsimp only
  split
  · exact payFurther_ceased owed still periph
  · exact wantEnd_ceased owed

/-- A payout in progress ends, and one that is not is left alone: nothing is being paid. -/
theorem cutOne_ceased (still : Stilled s) : Ceased p s (cutOne p s) := by
  unfold cutOne
  split
  · exact payoutEnded_ceased (closePayout_ceased (.refl p s)) still rfl
  · rename_i idle
    exact ⟨resv p s, (ResvMoved.refl p s).resv, Bool.not_eq_true _ ▸ idle, still.2.2 p⟩

theorem cutOne_controlled (p : Position) (s : State) : Controlled p s (cutOne p s) := by
  unfold cutOne
  split
  · exact payoutEnded_controlled ((Controlled.refl p s).andThen (.resv _ s))
  · exact .refl p s

/-- Every DISPENSE is dropped, out or waiting (R57, R60). -/
def dispensesDropped (s : State) : State :=
  onChange (fun c => { c with dispense := none, misses := 0, resv := c.resv.map (fun r => { r with waiting := none }) }) s

theorem dispensesDropped_stilled (off : online .changer s = false) : Stilled (dispensesDropped s) :=
  ⟨off, rfl, fun q => by cases q <;> rfl⟩

theorem cutPayouts_controls (s : State) : Controls (dispensesDropped s) (cutPayouts s) :=
  (cutOne_controlled .A _).controls.trans (cutOne_controlled .B _).controls

/-- Without its changer no payout goes on (R57). -/
theorem cutPayouts_ends (off : online .changer s = false) :
    (cutPayouts s).change.dispense = none ∧ ∀ p, (resv p (cutPayouts s)).paying = false := by
  have still := dispensesDropped_stilled (s := s) off
  have first := cutOne_ceased (p := .A) still
  have still' := first.stilled still (congrArg Untouched.periph (cutOne_controlled .A (dispensesDropped s)).untouched)
  have second := cutOne_ceased (p := .B) still'
  obtain ⟨r, change, paying, -⟩ := first
  obtain ⟨r', change', paying', -⟩ := second
  have whole : (cutPayouts s).change = _ := change'
  rw [change] at whole
  rw [whole]
  refine ⟨rfl, fun p => ?_⟩
  rw [resv, whole]
  cases p
  · exact paying
  · exact paying'

end Untouched

/-! ### A card module's commands settled (R78, R91, R96) -/

section CardMissing
variable {p : Position} {w : CardWrite} {f : WriteFault} {s t : State}

theorem settleEntry_untouched (e : Fin 4) (s : State) : untouched (settleEntry e s) = untouched s := by
  unfold settleEntry
  split <;> rfl

/-- A settled entry is held for its session's next write, or FREE. -/
theorem settleEntry_state (e : Fin 4) (s : State) :
    (entry e (settleEntry e s)).state = .free ∨ (entry e (settleEntry e s)).state = .reserved := by
  unfold settleEntry
  split
  · exact .inr (by rw [entry_onEntry_self]; rfl)
  · exact .inl (by rw [freeUp, entry_onEntry_self]; rfl)

theorem wakeReads_controls (x : CardId) (s : State) : Controls s (wakeReads x s) := by
  have wake (q : Position) (s : State) : Controls s
      (if readOf q s = .awaiting x then pushCard q (.read (sess q s).serial x) (setRead q (.reading x) s) else s) := by
    split
    · exact (((Controlled.refl q s).andThen (.read _ s)).andThen (.push _ _)).controls
    · exact .refl s
  exact (wake .A s).trans (wake .B _)

/-- What a WRITE that failed does first: its entry is settled, freed or torn; the rest is the controllers' work. -/
def writeFailedEntry (w : CardWrite) (s : State) : State :=
  match w.purpose with
  | .sale => settleEntry w.entry s
  | .block => freeUp w.entry s
  | .creditBack => settleEntry w.entry s
  | .completion => tearEntry w.entry s

theorem writeEnded_failed (p : Position) (w : CardWrite) (f : WriteFault) (s : State) :
    Controls (writeFailedEntry w s) (writeEnded p w (.failed f) s) := by
  refine Controls.trans ?_ (wakeReads_controls w.image.id _)
  cases purpose : w.purpose with
  | sale =>
    simp only [writeFailedEntry, purpose, saleWritten]
    split
    · cases ‹WriteResult.failed f = .ok›
    · exact (handedNotDone_controlled (.refl _ _)).controls
    · cases ‹WriteResult.failed f = .torn›
    · cases ‹WriteResult.failed f = .torn›
    · cases ‹WriteResult.failed f = .ok›
    · exact .refl _
  | block =>
    simp only [writeFailedEntry, purpose, blockWritten]
    exact .refl _
  | creditBack =>
    simp only [writeFailedEntry, purpose, creditWritten]
    split
    · cases ‹WriteResult.failed f = .ok›
    · exact (notCredited_controlled (.refl _ _)).controls
    · cases ‹WriteResult.failed f = .torn›
    · cases ‹WriteResult.failed f = .torn›
    · cases ‹WriteResult.failed f = .ok›
    · exact .refl _
  | completion =>
    simp only [writeFailedEntry, purpose, completionWritten]
    split
    · exact ((Controlled.refl p _).andThen (.read _ _)).controls
    · exact .refl _

theorem writeFailedEntry_untouched (w : CardWrite) (s : State) : untouched (writeFailedEntry w s) = untouched s := by
  unfold writeFailedEntry
  split
  · exact settleEntry_untouched _ s
  · rfl
  · exact settleEntry_untouched _ s
  · rfl

/-- The entry of a WRITE that failed: given up, or torn where the WRITE was a completion (R91, R96). -/
theorem writeFailedEntry_state (w : CardWrite) (s : State) :
    (w.purpose ≠ .completion → (entry w.entry (writeFailedEntry w s)).state = .free ∨
      (entry w.entry (writeFailedEntry w s)).state = .reserved) ∧
    (w.purpose = .completion → (entry w.entry (writeFailedEntry w s)).state = .torn) := by
  unfold writeFailedEntry
  split
  next purpose => exact ⟨fun _ => settleEntry_state _ s, fun h => by cases purpose.symm.trans h⟩
  next purpose => exact ⟨fun _ => .inl (by rw [freeUp, entry_onEntry_self]; rfl), fun h => by cases purpose.symm.trans h⟩
  next purpose => exact ⟨fun _ => settleEntry_state _ s, fun h => by cases purpose.symm.trans h⟩
  · exact ⟨fun h => absurd ‹_› h, fun _ => by rw [tearEntry, entry_onEntry_self]⟩

/-- The controllers keep both. -/
theorem Controls.writeFailed (h : Controls s t) {e : Fin 4} {completion : Prop}
    (hs : (¬ completion → (Machine.entry e s).state = .free ∨ (Machine.entry e s).state = .reserved) ∧
      (completion → (Machine.entry e s).state = .torn)) :
    (¬ completion → (Machine.entry e t).state = .free ∨ (Machine.entry e t).state = .reserved) ∧
      (completion → (Machine.entry e t).state = .torn) := by
  obtain same | ⟨was, free⟩ := h.entry e
  · rwa [same]
  · refine ⟨fun _ => .inl free, fun c => ?_⟩
    rw [hs.2 c] at was
    cases was

/-- One command that waited for the module. -/
def cardGone (p : Position) (s : State) (c : CardFrame) : State :=
  match c.cmd with
  | .write w => writeEnded p w (.failed .error) s
  | .detect n credit => if credit = true ∧ (sess p s).serial = n then creditDetected p none s else s
  | .read _ _ => s

/-- The commands of the module are off the link. -/
def cardDropped (p : Position) (s : State) : State :=
  onLink (fun l => { l with cardReady := l.cardReady.filter (fun c => !decide (c.pos = p)) }) s

/-- All commands of the module settled. -/
def cardSettled (p : Position) (s : State) : State :=
  (s.link.cardReady.filter fun c => decide (c.pos = p)).foldl (cardGone p) (cardDropped p s)

theorem cardMissing_eq (p : Position) (s : State) : cardMissing p s =
    if (sess p (cardSettled p s)).state = .reading then endReading p .noCard .noCard (cardSettled p s) else cardSettled p s := rfl

theorem creditDetected_absent_controls (p : Position) (s : State) : Controls s (creditDetected p none s) := by
  unfold creditDetected
  dsimp only
  split
  · exact .refl s
  · split
    · rw [if_pos (.inl nofun)]
      exact (notCredited_controlled (.refl p s)).controls
    · exact (notCredited_controlled (.refl p s)).controls

theorem cardGone_untouched (p : Position) (s : State) (c : CardFrame) : untouched (cardGone p s c) = untouched s := by
  unfold cardGone
  split
  · exact (writeEnded_failed p _ _ s).untouched.trans (writeFailedEntry_untouched _ s)
  · split
    · exact (creditDetected_absent_controls p s).untouched
    · rfl
  · rfl

/-- A command of a read has nothing to settle but its read. -/
theorem cardGone_read {c : CardFrame} (h : isReadCmd c.cmd = true) : cardGone p s c = s := by
  unfold cardGone
  split
  · rename_i cmd
    rw [cmd] at h
    cases h
  · rename_i n credit cmd
    rw [cmd] at h
    have ordinary : credit = false := by simpa [isReadCmd] using h
    simp [ordinary]
  · rfl

theorem foldl_untouched {xs : List CardFrame} : untouched (xs.foldl (cardGone p) s) = untouched s := by
  induction xs generalizing s with
  | nil => rfl
  | cons x xs ih => exact ih.trans (cardGone_untouched p s x)

theorem foldl_reads {xs : List CardFrame} (h : ∀ c ∈ xs, isReadCmd c.cmd = true) : xs.foldl (cardGone p) s = s := by
  induction xs with
  | nil => rfl
  | cons x xs ih =>
    rw [List.foldl_cons, cardGone_read (h x (.head _))]
    exact ih fun c hc => h c (.tail _ hc)

theorem cardSettled_untouched (p : Position) (s : State) : untouched (cardSettled p s) = untouched s := foldl_untouched

theorem cardSettled_reads (h : ∀ c ∈ s.link.cardReady, c.pos = p → isReadCmd c.cmd = true) : cardSettled p s = cardDropped p s :=
  foldl_reads fun c hc => h c (List.mem_filter.1 hc).1 (of_decide_eq_true (List.mem_filter.1 hc).2)

theorem endReading_controls (p : Position) (a : Result) (r : EndReason) (s : State) :
    Controls (answerQuote p a s) (endReading p a r s) := (endReading_controlled (.refl p _)).controls

theorem cardMissing_untouched (p : Position) (s : State) : untouched (cardMissing p s) = untouched s := by
  rw [cardMissing_eq]
  split
  · exact (endReading_controls p _ _ _).untouched.trans (cardSettled_untouched p s)
  · exact cardSettled_untouched p s

/-- A read in progress ends, its QUOTE answered NO_CARD (R78, R105). -/
theorem endReading_ends (p : Position) (a : Result) (r : EndReason) (s : State) :
    (sess p (endReading p a r s)).state = .idle ∧ readOf p (endReading p a r s) = .none ∧
      Answering ⟨0, (sess p s).tag, 1, a, .empty, none⟩ (endReading p a r s) := by
  refine ⟨release_sess p r _, by cases p <;> rfl, ?_⟩
  refine answering_of_port (enqueue_answering ⟨0, (sess p s).tag, 1, a, .empty, none⟩ s) ?_ ?_ ?_
  · exact (congrArg (fun u => u.port.answers) (endReading_controls p a r s).aside :)
  · exact (congrArg (fun u => u.port.overflow) (endReading_controls p a r s).aside :)
  · exact (congrArg (fun u => u.port.tx) (endReading_controls p a r s).aside :)

end CardMissing
end Sys2Proof.Machine

namespace Sys2Proof.Machine

/-! ### A peripheral becomes MISSING (R169) -/

section Missing
variable {a : Addr} {p : Position} {s t : State}

/-- The INHIBITs, the verdicts and the acknowledged set of a validator are dropped (R41). -/
def validatorDropped (p : Position) (s : State) : State :=
  onLink (fun l => { l with verdicts := l.verdicts.filter (fun v => !decide (v.pos = p)), inhibit := l.inhibit.set p none,
                            inhibitKept := l.inhibitKept.set p none, acked := l.acked.set p none }) s

theorem settleMissing_validator (p : Position) (s : State) : settleMissing (valAddr p) s = validatorDropped p s := by cases p <;> rfl

theorem settleMissing_card (p : Position) (s : State) : settleMissing (cardAddr p) s = cardMissing p s := by cases p <;> rfl

theorem settleMissing_untouched (a : Addr) (s : State) : untouched (settleMissing a s) = untouched s := by
  cases a with
  | valA => rfl
  | valB => rfl
  | cardA => exact cardMissing_untouched .A s
  | cardB => exact cardMissing_untouched .B s
  | changer => exact (cutPayouts_controls s).untouched
  | printer => exact ((failAll_controlled (.refl .A s)).controls.trans (handTickets_controls _)).untouched

theorem foldl_enqueue_answering {g : QueuedPass → Answer} {x : Answer} {fs : List QueuedPass} (h : Answering x s ∨ ∃ f ∈ fs, x = g f) :
    Answering x (fs.foldl (fun s f => enqueue (g f) s) s) := by
  induction fs generalizing s with
  | nil => simpa using h
  | cons f fs ih =>
    refine ih ?_
    obtain h | ⟨y, hy, rfl⟩ := h
    · exact .inl (answering_enqueue h)
    · obtain rfl | hy := List.mem_cons.1 hy
      · exact .inl (enqueue_answering _ s)
      · exact .inr ⟨y, hy, rfl⟩

theorem foldl_enqueue_eq {g : QueuedPass → Answer} {fs : List QueuedPass} (s : State) :
    ∃ port, fs.foldl (fun s f => enqueue (g f) s) s = { s with port := port } := by
  induction fs generalizing s with
  | nil => exact ⟨s.port, rfl⟩
  | cons f fs ih =>
    obtain ⟨port, e⟩ := ih (enqueue (g f) s)
    exact ⟨port, e⟩

/-- Frames removed from the pass channel are gone from its queue, and the rest of the state but the port is as it was. -/
theorem removePass_eq (cond : QueuedPass → Bool) (r : Result) (s : State) : ∃ port, removePass cond r s =
    { s with link := { s.link with passQueue := s.link.passQueue.filter fun f => !cond f }, port := port } :=
  foldl_enqueue_eq _

theorem removePass_answering {cond : QueuedPass → Bool} {r : Result} {x : Answer} (h : Answering x s ∨
    ∃ f ∈ s.link.passQueue, cond f = true ∧ x = ⟨2, f.tag, 1, r, .empty, none⟩) : Answering x (removePass cond r s) := by
  refine foldl_enqueue_answering (h.imp_right ?_)
  rintro ⟨f, hf, removed, rfl⟩
  exact ⟨f, List.mem_filter.2 ⟨hf, removed⟩, rfl⟩

/-- The peripheral is MISSING, its fault raised. -/
def markedMissing (a : Addr) (s : State) : State :=
  raiseFault a .missing (onPeriph a (fun x => { x with state := .missing, missingDue := false }) s)

/-- What waited for it is settled. -/
def missedSettled (a : Addr) (s : State) : State := settleMissing a (markedMissing a s)

theorem missingThreshold_idle {busy : Bool} (h : (periph a s).state ≠ .online ∨ (periph a s).missingDue = false) :
    exec (.missingThreshold a busy) s = .next s := by
  have due : (online a s && (periph a s).missingDue) = false := by
    obtain h | h := h
    · rw [online, decide_eq_false h, Bool.false_and]
    · rw [h, Bool.and_false]
  show expiry _ _ _ _ = _
  rw [due, expiry, Bool.and_false]
  rfl

theorem missingThreshold_due {busy : Bool} (on : s.power = true) (online : (periph a s).state = .online)
    (due : (periph a s).missingDue = true) : exec (.missingThreshold a busy) s = .next (served busy (becomeMissing a s)) :=
  expiry_occurs on (by rw [Machine.online, online, due]; rfl)

theorem markedMissing_periph (a : Addr) (s : State) : (periph a (markedMissing a s)).state = .missing ∧
    (periph a (markedMissing a s)).flags.missing = true := by
  rw [markedMissing, raiseFault_periph, if_pos rfl, periph_onPeriph_self]
  exact ⟨rfl, rfl⟩

/-- Of the link, marking a peripheral MISSING changes its entry alone. -/
theorem markedMissing_link (a : Addr) (s : State) :
    (markedMissing a s).link = { s.link with periph := (markedMissing a s).link.periph } := by
  rw [markedMissing, raiseFault_link]
  rfl

theorem markedMissing_blocks (a : Addr) (s : State) : (markedMissing a s).fare = s.fare ∧ (markedMissing a s).cash = s.cash ∧
    (markedMissing a s).change = s.change ∧ (markedMissing a s).cards = s.cards ∧ (markedMissing a s).sales = s.sales ∧
    (markedMissing a s).print = s.print := by
  rw [markedMissing, raiseFault_fare, raiseFault_cash, raiseFault_change, raiseFault_cards, raiseFault_sales, raiseFault_print]
  exact ⟨rfl, rfl, rfl, rfl, rfl, rfl⟩

theorem missedSettled_untouched (a : Addr) (s : State) : untouched (missedSettled a s) = untouched (markedMissing a s) :=
  settleMissing_untouched a _

theorem missedSettled_periph (a : Addr) (s : State) : (periph a (missedSettled a s)).state = .missing ∧
    (periph a (missedSettled a s)).flags.missing = true := by
  have same : periph a (missedSettled a s) = periph a (markedMissing a s) :=
    (congrArg (fun u => vget u.periph (addrIndex a)) (missedSettled_untouched a s) :)
  rw [same]
  exact markedMissing_periph a s

theorem online_markedMissing (a : Addr) (s : State) : online a (markedMissing a s) = false :=
  decide_eq_false (by rw [(markedMissing_periph a s).1]; decide)

/-- After the settling the waiting frames of the peripheral leave the pass channel, answered. -/
theorem becomeMissing_eq (a : Addr) (s : State) : ∃ port, becomeMissing a s = { missedSettled a s with
    link := { (missedSettled a s).link with
      passQueue := (missedSettled a s).link.passQueue.filter fun f => !decide (f.addr = a) }, port := port } :=
  removePass_eq _ _ _

theorem becomeMissing_keeps (a : Addr) (s : State) : (becomeMissing a s).fare = s.fare ∧ (becomeMissing a s).cash = s.cash ∧
    (becomeMissing a s).change.tubes = s.change.tubes ∧ (becomeMissing a s).change.box = s.change.box ∧
    (becomeMissing a s).cards.deny = s.cards.deny := by
  obtain ⟨port, e⟩ := becomeMissing_eq a s
  obtain ⟨fare, cash, change, cards, -, -⟩ := markedMissing_blocks a s
  have same := missedSettled_untouched a s
  rw [e]
  refine ⟨(congrArg Untouched.fare same).trans fare, (congrArg Untouched.cash same).trans cash,
    (congrArg Untouched.tubes same).trans ?_, (congrArg Untouched.box same).trans ?_, (congrArg Untouched.deny same).trans ?_⟩
  · exact congrArg ChangeStore.tubes change
  · exact congrArg ChangeStore.box change
  · exact congrArg Cards.deny cards

theorem becomeMissing_periph (a : Addr) (s : State) : (periph a (becomeMissing a s)).state = .missing ∧
    (periph a (becomeMissing a s)).flags.missing = true := by
  obtain ⟨port, e⟩ := becomeMissing_eq a s
  rw [e]
  exact missedSettled_periph a s

theorem missedSettled_passQueue (a : Addr) (s : State) : (missedSettled a s).link.passQueue = s.link.passQueue := by
  refine (congrArg Untouched.passQueue (missedSettled_untouched a s)).trans ?_
  show (markedMissing a s).link.passQueue = _
  rw [markedMissing_link]

/-- No frame waits for the missing peripheral (R169). -/
theorem becomeMissing_passQueue {f : QueuedPass} (h : f ∈ (becomeMissing a s).link.passQueue) : f.addr ≠ a := by
  obtain ⟨port, e⟩ := becomeMissing_eq a s
  rw [e] at h
  simpa using (List.mem_filter.1 h).2

/-- Each frame that waited for it is answered (R169). -/
theorem becomeMissing_answers {f : QueuedPass} (h : f ∈ s.link.passQueue) (addr : f.addr = a) :
    Answering ⟨2, f.tag, 1, .peripheralMissing, .empty, none⟩ (becomeMissing a s) := by
  rw [← missedSettled_passQueue a s] at h
  exact removePass_answering (.inr ⟨f, h, decide_eq_true addr, rfl⟩)

/-- Nothing waits for a validator that is missing (R41). -/
theorem becomeMissing_validator (p : Position) (s : State) :
    let u := becomeMissing (valAddr p) s
    u.link.inhibit.get p = none ∧ u.link.inhibitKept.get p = none ∧ u.link.acked.get p = none ∧
      (∀ v ∈ u.link.verdicts, v.pos ≠ p) ∧ u.sales = s.sales := by
  obtain ⟨port, e⟩ := becomeMissing_eq (valAddr p) s
  obtain ⟨-, -, -, -, sales, -⟩ := markedMissing_blocks (valAddr p) s
  rw [missedSettled, settleMissing_validator] at e
  dsimp only
  rw [e]
  exact ⟨Pair.get_set_self _ _ _, Pair.get_set_self _ _ _, Pair.get_set_self _ _ _,
    fun v hv => by simpa using (List.mem_filter.1 hv).2, sales⟩

/-- Without its changer no payout goes on. -/
theorem becomeMissing_changer (s : State) : (becomeMissing .changer s).change.dispense = none ∧
    ∀ p, (resv p (becomeMissing .changer s)).paying = false := by
  obtain ⟨port, e⟩ := becomeMissing_eq .changer s
  rw [e]
  exact cutPayouts_ends (online_markedMissing .changer s)

theorem markedMissing_cardReady (a : Addr) (s : State) : (markedMissing a s).link.cardReady = s.link.cardReady := by
  rw [markedMissing_link]

/-- A read at a missing module ends NO_CARD; with no read in progress nothing of the sale changes. -/
theorem becomeMissing_reads (reads : ∀ c ∈ s.link.cardReady, c.pos = p → isReadCmd c.cmd = true) :
    let u := becomeMissing (cardAddr p) s
    ((sess p s).state = .reading → (sess p u).state = .idle ∧ readOf p u = .none ∧
      Answering ⟨0, (sess p s).tag, 1, .noCard, .empty, none⟩ u) ∧
    ((sess p s).state ≠ .reading → u.sales = s.sales ∧ u.cards = s.cards) := by
  obtain ⟨port, e⟩ := becomeMissing_eq (cardAddr p) s
  obtain ⟨-, -, -, cards, sales, -⟩ := markedMissing_blocks (cardAddr p) s
  have session : sess p (cardDropped p (markedMissing (cardAddr p) s)) = sess p s := sess_of_sales p sales
  have settled : missedSettled (cardAddr p) s = if (sess p s).state = .reading
      then endReading p .noCard .noCard (cardDropped p (markedMissing (cardAddr p) s))
      else cardDropped p (markedMissing (cardAddr p) s) := by
    rw [missedSettled, settleMissing_card, cardMissing_eq, cardSettled_reads (by rwa [markedMissing_cardReady]), session]
  dsimp only
  refine ⟨fun reading => ?_, fun idle => ?_⟩
  · rw [if_pos reading] at settled
    obtain ⟨state, read, answer⟩ := endReading_ends p .noCard .noCard (cardDropped p (markedMissing (cardAddr p) s))
    rw [session, ← settled] at answer
    rw [← settled] at state read
    refine ⟨?_, ?_, removePass_answering (.inl answer)⟩
    · rw [e]
      exact state
    · rw [e]
      exact read
  · rw [if_neg idle] at settled
    rw [e, settled]
    exact ⟨sales, cards⟩

/-- A WRITE that waited for a missing module has failed: its entry is given up, or torn where it was a completion (R91, R96). -/
theorem becomeMissing_write {c : CardFrame} {w : CardWrite} (sole : s.link.cardReady.filter (fun x => decide (x.pos = p)) = [c])
    (write : c.cmd = .write w) :
    (w.purpose ≠ .completion → (entry w.entry (becomeMissing (cardAddr p) s)).state = .free ∨
      (entry w.entry (becomeMissing (cardAddr p) s)).state = .reserved) ∧
    (w.purpose = .completion → (entry w.entry (becomeMissing (cardAddr p) s)).state = .torn) := by
  obtain ⟨port, e⟩ := becomeMissing_eq (cardAddr p) s
  have gone : cardSettled p (markedMissing (cardAddr p) s) =
      writeEnded p w (.failed .error) (cardDropped p (markedMissing (cardAddr p) s)) := by
    rw [cardSettled, markedMissing_cardReady, sole]
    show cardGone p _ c = _
    rw [cardGone, write]
  have failed := (writeEnded_failed p w .error (cardDropped p (markedMissing (cardAddr p) s))).writeFailed
    (writeFailedEntry_state w _)
  rw [← gone] at failed
  rw [e]
  show (_ → (entry w.entry (missedSettled (cardAddr p) s)).state = _ ∨ (entry w.entry (missedSettled (cardAddr p) s)).state = _) ∧
    (_ → (entry w.entry (missedSettled (cardAddr p) s)).state = _)
  rw [missedSettled, settleMissing_card, cardMissing_eq]
  split
  · exact (endReading_controls p _ _ _).writeFailed failed
  · exact failed

/-! ### The served step keeps more -/

theorem served_passQueue (busy : Bool) (s : State) : (served busy s).link.passQueue.Sublist s.link.passQueue := by
  obtain ⟨⟨i, k, link, -⟩, -⟩ := masks_masksOnly none s
  have shrinks := (settle_served busy (masks none s)).passQueue
  rwa [link] at shrinks

theorem served_verdicts (busy : Bool) (s : State) : (served busy s).link.verdicts.Sublist s.link.verdicts := by
  obtain ⟨⟨i, k, link, -⟩, -⟩ := masks_masksOnly none s
  have shrinks := (settle_served busy (masks none s)).verdicts
  rwa [link] at shrinks

/-- An absent INHIBIT of a validator that is not ONLINE stays absent. -/
theorem served_inhibits {busy : Bool} (off : online (valAddr p) s = false) (wait : s.link.inhibit.get p = none)
    (kept : s.link.inhibitKept.get p = none) :
    (served busy s).link.inhibit.get p = none ∧ (served busy s).link.inhibitKept.get p = none := by
  obtain ⟨⟨i, k, link, absent⟩, -⟩ := masks_masksOnly none s
  obtain ⟨hi, hk⟩ := absent p off wait kept
  exact (settle_served busy (masks none s)).inhibits (by rw [link]; exact hi) (by rw [link]; exact hk)

theorem served_acked (busy : Bool) (s : State) : (served busy s).link.acked = s.link.acked :=
  (congrArg (fun u => u.link.acked) (served_unserved busy s) :)

theorem served_answering {busy : Bool} {x : Answer} (h : Answering x s) : Answering x (served busy s) :=
  (settle_served busy _).answering ((masks_masksOnly none s).answering h)

theorem served_dispense {busy : Bool} (h : s.change.dispense = none) : (served busy s).change.dispense = none :=
  (settle_served busy _).dispense (by rw [masks_change, h])

theorem served_busy {busy : Bool} {i : Fin 8} (h : (slotOf i (served busy s)).Busy) : (slotOf i s).Busy := by
  have kept := (settle_served busy (masks none s)).busy h
  rwa [slotOf, masks_print] at kept

theorem served_failed (busy : Bool) (s : State) : (served busy s).print.failed = s.print.failed :=
  (congrArg (fun u => u.print.failed) (served_unserved busy s) :)

theorem served_void (busy : Bool) (s : State) : (served busy s).print.void = s.print.void :=
  (congrArg (fun u => u.print.void) (served_unserved busy s) :)

/-! ### Jobs of a missing printer (R140) -/

/-- At most one job is being printed. -/
def OneActive (s : State) : Prop := ∀ i k j g j' g', slotOf i s = .active j g → slotOf k s = .active j' g' → i = k

theorem activeJob_none (h : activeJob s = none) (i : Fin 8) (j : Job) (g : Progress) : slotOf i s ≠ .active j g := by
  intro active
  have none := List.findSome?_eq_none_iff.1 h (i, slotOf i s) (List.mem_map.2 ⟨i, mem_eights i, rfl⟩)
  rw [active] at none
  cases none

theorem waitingJobs_mem {i : Fin 8} {j : Job} (h : slotOf i s = .waiting j) : (i, j) ∈ waitingJobs s := by
  refine List.mem_filterMap.2 ⟨(i, slotOf i s), List.mem_map.2 ⟨i, mem_eights i, rfl⟩, ?_⟩
  rw [h]

theorem printDone_blocks (j : Job) (o : JobOutcome) (s : State) :
    (printDone j o s).print = s.print ∧ (printDone j o s).sales = s.sales := by
  unfold printDone
  dsimp only
  split <;> exact ⟨rfl, rfl⟩

/-- A job's note is made in the journal, or is counted as lost. -/
theorem noteJob_blocks (j : Job) (s : State) :
    (∃ n, (noteJob j s).print = { s.print with notesLost := n }) ∧ (noteJob j s).sales = s.sales := by
  have noted (slip : Bool) : (∃ n, (note slip j.seq s).print = { s.print with notesLost := n }) ∧ (note slip j.seq s).sales = s.sales := by
    unfold note
    split
    · exact ⟨⟨_, rfl⟩, rfl⟩
    · split
      · exact ⟨⟨_, rfl⟩, rfl⟩
      · exact ⟨⟨_, rfl⟩, rfl⟩
  unfold noteJob
  split
  · exact noted false
  · exact noted true
  · exact ⟨⟨_, rfl⟩, rfl⟩
  · exact ⟨⟨_, rfl⟩, rfl⟩

/-- A job that fails is counted under its kind. -/
theorem jobFailed_blocks (j : Job) (s : State) : (∃ n, (jobFailed j s).print = { s.print with
    failed := vmodify s.print.failed (kindIndex j.kind) bump16, notesLost := n }) ∧ (jobFailed j s).sales = s.sales := by
  obtain ⟨⟨n, print⟩, sales⟩ := noteJob_blocks j (countFailed j.kind s)
  obtain ⟨print', sales'⟩ := printDone_blocks j .failed (noteJob j (countFailed j.kind s))
  exact ⟨⟨n, print'.trans print⟩, sales'.trans sales⟩

theorem jobFailed_slot (j : Job) (s : State) (k : Fin 8) : slotOf k (jobFailed j s) = slotOf k s := by
  obtain ⟨⟨n, print⟩, -⟩ := jobFailed_blocks j s
  rw [slotOf, print]
  rfl

/-- The job in progress off its slot, and its void stub due where a line of it was taken (R140, R141). -/
def activeDropped (i : Fin 8) (j : Job) (g : Progress) (s : State) : State :=
  if 0 < g.taken then markVoid j (setSlot i .free s) else setSlot i .free s

theorem failActive_some {i : Fin 8} {j : Job} {g : Progress} (h : activeJob s = some (i, j, g)) :
    failActive false s = (jobFailed j (activeDropped i j g s), ticketEnd j false) := by
  simp only [failActive, h, activeDropped, Bool.false_eq_true, false_or]

theorem activeDropped_slot (i : Fin 8) (j : Job) (g : Progress) (s : State) (k : Fin 8) :
    slotOf k (activeDropped i j g s) = if k = i then .free else slotOf k s := by
  have freed : slotOf k (setSlot i .free s) = if k = i then .free else slotOf k s := by
    split
    · subst k
      exact slotOf_setSlot_self i _ s
    · exact slotOf_setSlot_ne ‹_› _ s
  rw [← freed]
  unfold activeDropped
  split <;> rfl

/-- With one job in progress at most, none is in progress once it has failed. -/
theorem failActive_idle (one : OneActive s) (k : Fin 8) (j : Job) (g : Progress) : slotOf k (failActive false s).1 ≠ .active j g := by
  cases h : activeJob s with
  | none =>
    rw [failActive, h]
    exact activeJob_none h k j g
  | some x =>
    obtain ⟨i, j', g'⟩ := x
    rw [failActive_some h, jobFailed_slot, activeDropped_slot]
    split
    · exact nofun
    · rename_i other
      exact fun active => other (one k i j g j' g' active (activeJob_slot h))

theorem failWaitingList_slot (xs : List (Fin 8 × Job)) (s : State) (k : Fin 8) :
    slotOf k (failWaitingList xs s).1 = if k ∈ xs.map Prod.fst then .free else slotOf k s := by
  induction xs generalizing s with
  | nil => simp [failWaitingList]
  | cons x xs ih =>
    obtain ⟨i, j⟩ := x
    rw [failWaitingList]
    dsimp only
    rw [ih, jobFailed_slot]
    by_cases hk : k = i
    · subst hk
      simp
    · rw [slotOf_setSlot_ne hk]
      exact if_congr (by simp [hk]) rfl rfl

/-- Nothing is left to print (R140). -/
theorem failAll_idle (one : OneActive s) (k : Fin 8) : ¬ (slotOf k (failAll s).1).Busy := by
  have active := failActive_idle one k
  rw [failAll]
  dsimp only
  rw [failWaiting, failWaitingList_slot]
  split
  · exact not_busy_free
  · rename_i listed
    rintro (⟨j, waiting⟩ | ⟨j, g, printing⟩)
    · exact listed (List.mem_map.2 ⟨(k, j), waitingJobs_mem waiting, rfl⟩)
    · exact active j g printing

/-- A sole job in progress that is no ticket fails alone: nothing is handed to a session. -/
theorem failAll_sole {i : Fin 8} {j : Job} {g : Progress} (active : activeJob s = some (i, j, g)) (kind : j.kind ≠ .ticket)
    (quiet : ∀ k j', slotOf k s ≠ .waiting j') : failAll s = (failStub (jobFailed j (activeDropped i j g s)), []) := by
  have none : waitingJobs (failStub (jobFailed j (activeDropped i j g s))) = [] := by
    refine List.eq_nil_iff_forall_not_mem.2 fun ⟨k, j'⟩ mem => ?_
    have waiting : slotOf k (jobFailed j (activeDropped i j g s)) = .waiting j' := mem_waitingJobs mem
    rw [jobFailed_slot, activeDropped_slot] at waiting
    split at waiting
    · cases waiting
    · exact quiet k j' waiting
  have ends : ticketEnd j false = [] := by
    unfold ticketEnd
    split
    · exact absurd ‹_› kind
    · rfl
  simp only [failAll, failActive_some active, failWaiting, none, failWaitingList, ends, List.append_nil]

/-- What the job in progress leaves when it is dropped: a void stub that is due where a line of it was taken. -/
theorem activeDropped_blocks (i : Fin 8) (j : Job) (g : Progress) (s : State) : (activeDropped i j g s).print.failed = s.print.failed ∧
    (activeDropped i j g s).sales = s.sales ∧ (0 < g.taken → (activeDropped i j g s).print.void ≠ none) := by
  unfold activeDropped
  split
  · refine ⟨rfl, rfl, fun _ => ?_⟩
    show (match s.print.void with | some k => some k | none => some j) ≠ none
    split <;> exact nofun
  · exact ⟨rfl, rfl, fun taken => absurd taken ‹_›⟩

theorem markedMissing_slot (a : Addr) (s : State) (k : Fin 8) : slotOf k (markedMissing a s) = slotOf k s := by
  obtain ⟨-, -, -, -, -, print⟩ := markedMissing_blocks a s
  rw [slotOf, print]
  rfl

/-- Nothing is left to a missing printer. -/
theorem becomeMissing_printer_idle (one : OneActive s) (k : Fin 8) : ¬ (slotOf k (becomeMissing .printer s)).Busy := by
  obtain ⟨port, e⟩ := becomeMissing_eq .printer s
  have failed : OneActive (markedMissing .printer s) := by
    intro i k j g j' g' hi hk
    rw [markedMissing_slot] at hi hk
    exact one i k j g j' g' hi hk
  have off : online .printer (failAll (markedMissing .printer s)).1 = false := by
    rw [(failAll_controlled (Controlled.refl .A _)).controls.online, online_markedMissing]
  rw [e]
  exact fun hb => failAll_idle failed k ((handTickets_controls _).busy off hb)

/-- A sole job in progress, no ticket, fails with its printer, and its void stub is due where a line of it was taken. -/
theorem becomeMissing_printer_sole {i : Fin 8} {j : Job} {g : Progress} (active : activeJob s = some (i, j, g))
    (kind : j.kind ≠ .ticket) (quiet : ∀ k j', slotOf k s ≠ .waiting j') :
    vget (becomeMissing .printer s).print.failed (kindIndex j.kind) = vget s.print.failed (kindIndex j.kind) + 1 ∧
      (becomeMissing .printer s).sales = s.sales ∧ (0 < g.taken → (becomeMissing .printer s).print.void ≠ none) := by
  obtain ⟨port, e⟩ := becomeMissing_eq .printer s
  obtain ⟨-, -, -, -, sales, print⟩ := markedMissing_blocks .printer s
  have jobs : activeJob (markedMissing .printer s) = some (i, j, g) := by
    rw [← active]
    simp only [activeJob, eightSlots, markedMissing_slot]
  have alone := failAll_sole jobs kind fun k j' => by rw [markedMissing_slot]; exact quiet k j'
  have settled : missedSettled .printer s = failStub (jobFailed j (activeDropped i j g (markedMissing .printer s))) := by
    rw [missedSettled]
    show handTickets (failAll _) = _
    rw [alone]
    rfl
  obtain ⟨⟨n, printed⟩, same⟩ := jobFailed_blocks j (activeDropped i j g (markedMissing .printer s))
  rw [e]
  show vget (missedSettled .printer s).print.failed _ = _ ∧ (missedSettled .printer s).sales = _ ∧
    (_ → (missedSettled .printer s).print.void ≠ none)
  rw [settled]
  show vget (jobFailed j _).print.failed _ = _ ∧ (jobFailed j _).sales = _ ∧ (_ → (jobFailed j _).print.void ≠ none)
  rw [printed, same]
  obtain ⟨counted, sales', void⟩ := activeDropped_blocks i j g (markedMissing .printer s)
  refine ⟨?_, sales'.trans sales, void⟩
  rw [counted, print]
  exact vget_vset_self _ _ _

/-! ### The missing peripheral after the whole step -/

theorem served_missing (a : Addr) (busy : Bool) (s : State) : (periph a (served busy (becomeMissing a s))).state = .missing ∧
    (periph a (served busy (becomeMissing a s))).flags.missing = true := by
  obtain ⟨state, missing⟩ := becomeMissing_periph a s
  have kept := served_periph busy (becomeMissing a s) a
  exact ⟨kept.1.trans state, kept.flag (f := Flags.missing) missing fun _ => .inr rfl⟩

theorem served_missing_validator (p : Position) (busy : Bool) (s : State) :
    let u := served busy (becomeMissing (valAddr p) s)
    u.link.inhibit.get p = none ∧ u.link.inhibitKept.get p = none ∧ u.link.acked.get p = none ∧
      (∀ v ∈ u.link.verdicts, v.pos ≠ p) ∧ u.sales = s.sales := by
  obtain ⟨wait, kept, acked, verdicts, sales⟩ := becomeMissing_validator p s
  have off : online (valAddr p) (becomeMissing (valAddr p) s) = false :=
    decide_eq_false (by rw [(becomeMissing_periph _ s).1]; decide)
  obtain ⟨wait', kept'⟩ := served_inhibits (busy := busy) off wait kept
  refine ⟨wait', kept', ?_, fun v hv => verdicts v ((served_verdicts busy _).subset hv), (served_sales busy _).trans sales⟩
  rw [served_acked]
  exact acked

theorem served_missing_changer (busy : Bool) (s : State) : (served busy (becomeMissing .changer s)).change.dispense = none ∧
    ∀ p, (resv p (served busy (becomeMissing .changer s))).paying = false := by
  obtain ⟨dispense, paying⟩ := becomeMissing_changer s
  exact ⟨served_dispense dispense, fun p => (congrArg Reserve.paying (served_resv busy _ p)).trans (paying p)⟩

theorem served_missing_reads (busy : Bool) (reads : ∀ c ∈ s.link.cardReady, c.pos = p → isReadCmd c.cmd = true) :
    let u := served busy (becomeMissing (cardAddr p) s)
    ((sess p s).state = .reading → (sess p u).state = .idle ∧ readOf p u = .none ∧
      Answering ⟨0, (sess p s).tag, 1, .noCard, .empty, none⟩ u) ∧
    ((sess p s).state ≠ .reading → u.sales = s.sales ∧ u.cards = s.cards) := by
  obtain ⟨reading, idle⟩ := becomeMissing_reads reads
  refine ⟨fun h => ?_, fun h => ?_⟩
  · obtain ⟨state, read, answer⟩ := reading h
    refine ⟨?_, ?_, served_answering answer⟩
    · rw [sess_of_sales p (served_sales busy _)]
      exact state
    · rw [readOf, served_cards]
      exact read
  · obtain ⟨sales, cards⟩ := idle h
    exact ⟨(served_sales busy _).trans sales, (served_cards busy _).trans cards⟩

theorem served_missing_write {c : CardFrame} {w : CardWrite} (busy : Bool)
    (sole : s.link.cardReady.filter (fun x => decide (x.pos = p)) = [c]) (write : c.cmd = .write w) :
    let u := served busy (becomeMissing (cardAddr p) s)
    (w.purpose ≠ .completion → (entry w.entry u).state = .free ∨ (entry w.entry u).state = .reserved) ∧
    (w.purpose = .completion → (entry w.entry u).state = .torn) := by
  dsimp only
  rw [entry, served_cards]
  exact becomeMissing_write sole write

theorem served_missing_printer_idle (busy : Bool) (one : OneActive s) :
    (∀ i j, slotOf i (served busy (becomeMissing .printer s)) ≠ .waiting j) ∧
      ∀ i j g, slotOf i (served busy (becomeMissing .printer s)) ≠ .active j g := by
  have idle (i : Fin 8) := fun hb => becomeMissing_printer_idle one i (served_busy (busy := busy) hb)
  exact ⟨fun i j h => idle i (.inl ⟨j, h⟩), fun i j g h => idle i (.inr ⟨j, g, h⟩)⟩

theorem served_missing_printer_sole {i : Fin 8} {j : Job} {g : Progress} (busy : Bool) (active : activeJob s = some (i, j, g))
    (kind : j.kind ≠ .ticket) (quiet : ∀ k j', slotOf k s ≠ .waiting j') :
    let u := served busy (becomeMissing .printer s)
    vget u.print.failed (kindIndex j.kind) = vget s.print.failed (kindIndex j.kind) + 1 ∧ u.sales = s.sales ∧
      (0 < g.taken → u.print.void ≠ none) := by
  dsimp only
  rw [served_failed, served_sales, served_void]
  exact becomeMissing_printer_sole active kind quiet

end Missing

/-! ### Three polls without an answer (R60) -/

section PollLimit
variable {d : Dispense} {s : State}

theorem dispensePollLimit_idle {busy : Bool} (few : s.change.misses < 3) : exec (.dispensePollLimit busy) s = .next s := by
  have none : pollLimitReached s = none := by
    unfold pollLimitReached
    split
    · exact if_neg fun h => absurd h.2.1 (Nat.not_le.2 few)
    · rfl
  show expiry _ _ _ _ = _
  rw [none, expiry]
  simp

/-- The polls are counted anew. -/
def missesCleared (s : State) : State := onChange (fun c => { c with misses := 0 }) s

theorem dispensePollLimit_reached {busy : Bool} (on : s.power = true) (out : s.change.dispense = some d) (sent : d.sent = true)
    (online : (periph .changer s).state = .online) (due : (periph .changer s).missingDue = false) (reached : 3 ≤ s.change.misses) :
    exec (.dispensePollLimit busy) s = .next (served busy (dispenseJam d (missesCleared s))) := by
  have some : pollLimitReached s = some d := by
    simp only [pollLimitReached, out]
    exact if_pos ⟨sent, reached, decide_eq_true online, due⟩
  have occurs := expiry_occurs (f := pollLimit) (busy := busy) (b := (pollLimitReached s).isSome) on (by rw [some]; rfl)
  refine occurs.trans ?_
  rw [pollLimit, some]
  rfl

/-- The tube of the DISPENSE sticks with no coin paid (R59, R60). -/
def stuck (d : Dispense) (s : State) : State :=
  raiseFault .changer .jam (onTube d.tube (fun x => { x with state := .jammed, doubt := 0, clear := 0 }) (payCoins d.pos d.tube 0 s))

theorem payoutOn_controlled {p : Position} {t : State} (h : Controlled p s t) : Controlled p s (payoutOn p t) :=
  (continuePayout_controlled h).andThen (.hand _)

/-- After a jam the payout goes on as its controller sees fit. -/
theorem dispenseJam_controls (d : Dispense) (s : State) : Controls (stuck d s) (dispenseJam d s) := by
  have replanned : Controlled d.pos (stuck d s) (replan d.pos (stuck d s)) := (Controlled.refl _ _).andThen (.resv _ _)
  exact (payoutOn_controlled replanned).controls

/-- A jam with nothing paid leaves the tube's coins and its account, and the other tubes. -/
theorem stuck_tubes (d : Dispense) (s : State) :
    tube d.tube (stuck d s) = { tube d.tube s with state := .jammed, doubt := 0, clear := 0 } ∧
    (∀ i, i ≠ d.tube → tube i (stuck d s) = tube i s) ∧ (stuck d s).fare = s.fare ∧ (stuck d s).cash = s.cash ∧
    (stuck d s).change.box = s.change.box := by
  have paid (i : Fin 6) : tube i (payCoins d.pos d.tube 0 s) = tube i s := by
    show tube i (onTube d.tube (fun x => { x with count := x.count - 0, paidOut := add32 x.paidOut 0 }) s) = _
    by_cases hi : i = d.tube
    · subst hi
      rw [tube_onTube_self]
      simp [add32]
    · rw [tube_onTube_ne hi]
  have raised (i : Fin 6) : tube i (stuck d s) =
      tube i (onTube d.tube (fun x => { x with state := .jammed, doubt := 0, clear := 0 }) (payCoins d.pos d.tube 0 s)) := by
    rw [stuck, tube, raiseFault_change]
    rfl
  refine ⟨?_, fun i hi => ?_, ?_, ?_, ?_⟩
  · rw [raised, tube_onTube_self, paid]
  · rw [raised, tube_onTube_ne hi, paid]
  · rw [stuck, raiseFault_fare]
    rfl
  · rw [stuck, raiseFault_cash]
    rfl
  · rw [stuck, raiseFault_change]
    rfl

theorem stuck_flag (d : Dispense) (s : State) : (periph .changer (stuck d s)).flags.jam = true := by
  rw [stuck, raiseFault_periph, if_pos rfl]
  rfl

/-- The figures of the peripheral that R60 and R169 name, after the whole step. -/
theorem dispenseJam_untouched (d : Dispense) (s : State) : untouched (dispenseJam d s) = untouched (stuck d s) :=
  (dispenseJam_controls d s).untouched

end PollLimit
end Sys2Proof.Machine

namespace Sys2Proof.Proofs
open Sys2Proof Sys2Proof.Machine

/-- Settles O42: what every lost peripheral has in common, then each kind's own; and the DISPENSE that three polls leave unanswered. -/
theorem missingPeripheral : Obligations.MissingPeripheral := by
  refine ⟨fun a busy s on => ⟨missingThreshold_idle, fun online due => ?_⟩, fun d busy s on out sent online due => ⟨dispensePollLimit_idle, fun reached => ?_⟩⟩
  · obtain ⟨state, flag⟩ := served_missing a busy s
    obtain ⟨fare, cash, tubes, box, deny⟩ := becomeMissing_keeps a s
    refine ⟨_, missingThreshold_due on online due, state, flag,
      fun f hf => becomeMissing_passQueue ((served_passQueue busy _).subset hf),
      fun f hf addr => served_answering (becomeMissing_answers hf addr), (served_fare busy _).trans fare, (served_cash busy _).trans cash,
      (served_tubes busy _).trans tubes, (served_box busy _).trans box, (congrArg Cards.deny (served_cards busy _)).trans deny, ?_, ?_, ?_, ?_, ?_, ?_⟩
    · rintro p rfl
      exact served_missing_validator p busy s
    · rintro rfl
      exact served_missing_changer busy s
    · rintro p rfl reads
      exact served_missing_reads busy reads
    · rintro p c w rfl sole write
      exact served_missing_write busy sole write
    · rintro rfl one
      exact served_missing_printer_idle busy one
    · rintro i j g rfl active kind quiet
      exact served_missing_printer_sole busy active kind quiet
  · have same := dispenseJam_untouched d (missesCleared s)
    have tubes (i : Fin 6) : tube i (served busy (dispenseJam d (missesCleared s))) = tube i (stuck d (missesCleared s)) := by
      rw [tube, served_tubes]
      exact (congrArg (fun u => vget u.tubes i) same :)
    obtain ⟨here, others, fare, cash, box⟩ := stuck_tubes d (missesCleared s)
    refine ⟨_, dispensePollLimit_reached on out sent online due reached, ?_, ?_, ?_, ?_, ?_, fun i hi => ?_, ?_, ?_, ?_, ?_⟩
    · rw [tubes, here]
    · rw [tubes, here]
      rfl
    · rw [tubes, here]
      rfl
    · rw [tubes, here]
    · rw [tubes, here]
    · rw [tubes, others i hi]
      rfl
    · refine (served_periph busy _ .changer).flag (f := Flags.jam) ?_ fun _ => .inr rfl
      rw [(dispenseJam_controls d _).periph, stuck_flag]
    · exact (served_fare busy _).trans ((congrArg Untouched.fare same).trans fare)
    · exact (served_cash busy _).trans ((congrArg Untouched.cash same).trans cash)
    · exact (served_box busy _).trans ((congrArg Untouched.box same).trans box)

end Sys2Proof.Proofs

namespace Sys2Proof.Machine

/-! ### The planner (R52–R55) -/

section Denominations
variable {den av : Vector Nat 6}

theorem mem_sixes (t : Fin 6) : t ∈ sixes := by revert t; decide

theorem nodup_sixes : sixes.Nodup := by decide

theorem mem_insertDesc {d x : Nat} {ds : List Nat} : x ∈ insertDesc d ds ↔ x = d ∨ x ∈ ds := by
  induction ds with
  | nil => simp [insertDesc]
  | cons y ys ih =>
    unfold insertDesc
    split
    · simp
    · split
      · rename_i same
        simp [same]
      · simp only [List.mem_cons, ih]
        tauto

theorem insertDesc_descends (d : Nat) {ds : List Nat} (h : ds.Pairwise (fun a b => b < a)) :
    (insertDesc d ds).Pairwise (fun a b => b < a) := by
  induction ds with
  | nil => simp [insertDesc]
  | cons y ys ih =>
    obtain ⟨above, rest⟩ := List.pairwise_cons.1 h
    unfold insertDesc
    split
    · rename_i lower
      exact List.pairwise_cons.2 ⟨List.forall_mem_cons.2 ⟨lower, fun z hz => (above z hz).trans lower⟩, h⟩
    · split
      · exact h
      · refine List.pairwise_cons.2 ⟨fun z hz => ?_, ih rest⟩
        obtain rfl | hz := mem_insertDesc.1 hz
        · omega
        · exact above z hz

/-- The denominations held come largest first, each once (R52). -/
theorem distinctDenoms_spec (den : Vector Nat 6) : (distinctDenoms den).Pairwise (fun a b => b < a) ∧
    ∀ d, d ∈ distinctDenoms den ↔ d ≠ 0 ∧ ∃ t, vget den t = d := by
  have folded (ts : List (Fin 6)) : ∀ ds : List Nat, ds.Pairwise (fun a b => b < a) →
      (ts.foldl (fun ds t => if vget den t = 0 then ds else insertDesc (vget den t) ds) ds).Pairwise (fun a b => b < a) ∧
      ∀ d, d ∈ ts.foldl (fun ds t => if vget den t = 0 then ds else insertDesc (vget den t) ds) ds ↔
        d ∈ ds ∨ d ≠ 0 ∧ ∃ t ∈ ts, vget den t = d := by
    induction ts with
    | nil => exact fun ds h => ⟨h, fun d => by simp⟩
    | cons t ts ih =>
      intro ds h
      by_cases empty : vget den t = 0
      · obtain ⟨sorted, mem⟩ := ih ds h
        simp only [List.foldl_cons, empty, if_true]
        refine ⟨sorted, fun d => (mem d).trans ?_⟩
        simp only [List.mem_cons, exists_eq_or_imp, empty]
        have : ¬ (d ≠ 0 ∧ 0 = d) := fun h => h.1 h.2.symm
        tauto
      · obtain ⟨sorted, mem⟩ := ih _ (insertDesc_descends (vget den t) h)
        simp only [List.foldl_cons, empty, if_false]
        refine ⟨sorted, fun d => (mem d).trans ?_⟩
        simp only [List.mem_cons, exists_eq_or_imp, mem_insertDesc]
        have : vget den t = d → d ≠ 0 := fun e => e ▸ empty
        have := @eq_comm _ d (vget den t)
        tauto
  obtain ⟨sorted, mem⟩ := folded sixes [] .nil
  exact ⟨sorted, fun d => (mem d).trans (by simp [mem_sixes])⟩

end Denominations

/-! #### The greedy selection (R52, R53) -/

section Greedy
variable {den av : Vector Nat 6} {limit : Option (Nat × Nat)} {has : Nat → Nat} {c left : Nat} {sel : List (Nat × Nat)}

/-- The value of a selection. -/
def selValue (sel : List (Nat × Nat)) : Nat := (sel.map (fun e => e.2 * e.1)).sum

theorem selValue_cons (d k : Nat) (sel : List (Nat × Nat)) : selValue ((d, k) :: sel) = k * d + selValue sel := by
  simp [selValue]

/-- Each denomination takes what there is and what the amount still takes. -/
def TakesGreedily (has : Nat → Nat) (c : Nat) (sel : List (Nat × Nat)) : Prop :=
  ∀ xs d k ys, sel = xs ++ (d, k) :: ys → k = min (has d) ((c - selValue xs) / d)

theorem takesGreedily_cons {d k : Nat} :
    TakesGreedily has c ((d, k) :: sel) ↔ k = min (has d) (c / d) ∧ TakesGreedily has (c - k * d) sel := by
  constructor
  · refine fun h => ⟨h [] d k sel rfl, fun xs e n ys split => ?_⟩
    have := h ((d, k) :: xs) e n ys (by rw [split]; rfl)
    rwa [selValue_cons, ← Nat.sub_sub] at this
  · rintro ⟨first, rest⟩ (_ | ⟨x, xs⟩) e n ys split
    · cases split
      exact first
    · obtain ⟨rfl, tail⟩ := List.cons.inj split
      rw [selValue_cons, ← Nat.sub_sub]
      exact rest xs e n ys tail

theorem greedySelection_iff : GreedySelection den has c sel left ↔ sel.map Prod.fst = distinctDenoms den ∧
    TakesGreedily has c sel ∧ selValue sel + left = c := by
  obtain ⟨sorted, mem⟩ := distinctDenoms_spec den
  constructor
  · rintro ⟨sorted', mem', takes, value⟩
    refine ⟨List.Pairwise.eq_of_mem_iff sorted' sorted fun {d} => (mem' d).trans (mem d).symm, takes, value⟩
  · rintro ⟨dens, takes, value⟩
    exact ⟨by rwa [dens], fun d => by rw [dens, mem], takes, value⟩

theorem greedy_denoms (den av : Vector Nat 6) (limit : Option (Nat × Nat)) (ds : List Nat) (c : Nat) :
    (greedy den av limit ds c).1.map Prod.fst = ds := by
  induction ds generalizing c with
  | nil => rfl
  | cons d ds ih => exact congrArg (d :: ·) (ih _)

theorem greedy_takes (den av : Vector Nat 6) (limit : Option (Nat × Nat)) (ds : List Nat) (c : Nat) :
    TakesGreedily (allowed den av limit) c (greedy den av limit ds c).1 := by
  induction ds generalizing c with
  | nil => exact fun xs d k ys split => by simp [greedy] at split
  | cons d ds ih => exact takesGreedily_cons.2 ⟨rfl, ih _⟩

/-- What is selected and what remains make the amount. -/
theorem greedy_value (den av : Vector Nat 6) (limit : Option (Nat × Nat)) (ds : List Nat) (c : Nat) :
    selValue (greedy den av limit ds c).1 + (greedy den av limit ds c).2 = c := by
  induction ds generalizing c with
  | nil => exact Nat.zero_add c
  | cons d ds ih =>
    have within : min (allowed den av limit d) (c / d) * d ≤ c :=
      (Nat.mul_le_mul_right d (Nat.min_le_right _ _)).trans (Nat.div_mul_le_self c d)
    have rest := ih (c - min (allowed den av limit d) (c / d) * d)
    simp only [greedy, selValue_cons]
    omega

theorem greedy_selects (den av : Vector Nat 6) (limit : Option (Nat × Nat)) (c : Nat) :
    GreedySelection den (allowed den av limit) c (greedy den av limit (distinctDenoms den) c).1
      (greedy den av limit (distinctDenoms den) c).2 :=
  greedySelection_iff.2 ⟨greedy_denoms .., greedy_takes den av limit _ c, greedy_value ..⟩

/-- The denominations and the coins there are fix a selection. -/
theorem TakesGreedily.unique {sel' : List (Nat × Nat)} (h : TakesGreedily has c sel) (h' : TakesGreedily has c sel')
    (dens : sel.map Prod.fst = sel'.map Prod.fst) : sel = sel' := by
  induction sel generalizing c sel' with
  | nil => exact (List.map_eq_nil_iff.1 dens.symm).symm
  | cons x xs ih =>
    obtain ⟨d, k⟩ := x
    obtain _ | ⟨⟨e, n⟩, ys⟩ := sel'
    · cases dens
    · obtain ⟨rfl, same⟩ := List.cons.inj dens
      obtain ⟨rfl, rest⟩ := takesGreedily_cons.1 h
      obtain ⟨rfl, rest'⟩ := takesGreedily_cons.1 h'
      rw [ih rest rest' same]

/-- A selection that leaves nothing is the one the greedy pass makes. -/
theorem GreedySelection.left_eq (h : GreedySelection den (allowed den av limit) c sel left) :
    left = (greedy den av limit (distinctDenoms den) c).2 := by
  obtain ⟨dens, takes, value⟩ := greedySelection_iff.1 h
  obtain rfl := takes.unique (greedy_takes den av limit (distinctDenoms den) c) (dens.trans (greedy_denoms ..).symm)
  have := greedy_value den av limit (distinctDenoms den) c
  omega

theorem allowed_limited (den av : Vector Nat 6) (x n : Nat) : allowed den av (some (x, n)) = limitedTo den av x n := by
  funext d
  simp only [allowed, limitedTo, eq_comm]

theorem allowed_le (den av : Vector Nat 6) (limit : Option (Nat × Nat)) (d : Nat) : allowed den av limit d ≤ summed den av d := by
  unfold allowed
  split
  · split
    · exact Nat.min_le_right _ _
    · exact Nat.le_refl _
  · exact Nat.le_refl _

/-- A selection takes no more coins of a denomination than there are. -/
theorem greedy_le (den av : Vector Nat 6) (limit : Option (Nat × Nat)) (c : Nat) {d k : Nat}
    (h : (d, k) ∈ (greedy den av limit (distinctDenoms den) c).1) : k ≤ summed den av d := by
  obtain ⟨xs, ys, split⟩ := List.append_of_mem h
  rw [greedy_takes _ _ _ _ _ xs d k ys split]
  exact (Nat.min_le_left _ _).trans (allowed_le ..)

end Greedy

/-! #### Coins given in turn (R54) -/

section Give
variable {den av : Vector Nat 6} {d n : Nat} {t u : Fin 6}

theorem planCount_cons (e : Fin 6 × Nat) (pl : Plan) (t : Fin 6) :
    planCount (e :: pl) t = (if e.1 = t then e.2 else 0) + planCount pl t := by
  by_cases h : e.1 = t <;> simp [planCount, h]

theorem planCount_append (a b : Plan) (t : Fin 6) : planCount (a ++ b) t = planCount a t + planCount b t := by
  simp [planCount]

theorem give_absent {ts : List (Fin 6)} (h : t ∉ ts) (n : Nat) : planCount (give av ts n) t = 0 := by
  induction ts generalizing n with
  | nil => rfl
  | cons x xs ih =>
    obtain ⟨ne, rest⟩ := not_or.1 (List.mem_cons.not.1 h)
    simp [give, planCount_cons, Ne.symm ne, ih rest]

theorem give_first {xs : List (Fin 6)} {x : Fin 6} (new : x ∉ xs) (n : Nat) :
    planCount (give av (x :: xs) n) x = min (vget av x) n := by
  simp [give, planCount_cons, give_absent new]

theorem give_later {xs : List (Fin 6)} {x : Fin 6} (ne : x ≠ t) (n : Nat) :
    planCount (give av (x :: xs) n) t = planCount (give av xs (n - min (vget av x) n)) t := by
  simp [give, planCount_cons, ne]

theorem give_le {ts : List (Fin 6)} (distinct : ts.Nodup) (n : Nat) (t : Fin 6) :
    planCount (give av ts n) t ≤ vget av t ∧ planCount (give av ts n) t ≤ n := by
  induction ts generalizing n with
  | nil => exact ⟨Nat.zero_le _, Nat.zero_le _⟩
  | cons x xs ih =>
    obtain ⟨new, distinct⟩ := List.nodup_cons.1 distinct
    by_cases h : x = t
    · subst h
      rw [give_first new]
      omega
    · have := ih distinct (n - min (vget av x) n)
      rw [give_later h]
      omega

/-- All are given that there are, up to the number. -/
theorem give_sum {ts : List (Fin 6)} (distinct : ts.Nodup) (n : Nat) :
    (ts.map (planCount (give av ts n))).sum = min n (ts.map (vget av)).sum := by
  induction ts generalizing n with
  | nil => simp
  | cons x xs ih =>
    obtain ⟨new, distinct⟩ := List.nodup_cons.1 distinct
    have later : xs.map (planCount (give av (x :: xs) n)) = xs.map (planCount (give av xs (n - min (vget av x) n))) :=
      List.map_congr_left fun t ht => give_later (ne_of_mem_of_not_mem ht new).symm n
    rw [List.map_cons, List.sum_cons, later, ih distinct, give_first new, List.map_cons, List.sum_cons]
    omega

/-- A tube gives nothing before those in front of it have given all. -/
theorem give_pairwise {ts : List (Fin 6)} (distinct : ts.Nodup) (n : Nat) :
    ts.Pairwise (fun t u => 0 < planCount (give av ts n) u → planCount (give av ts n) t = vget av t) := by
  induction ts generalizing n with
  | nil => exact .nil
  | cons x xs ih =>
    obtain ⟨new, distinct⟩ := List.nodup_cons.1 distinct
    refine List.pairwise_cons.2 ⟨fun u hu given => ?_, (ih distinct (n - min (vget av x) n)).imp_of_mem fun {t u} ht hu h => ?_⟩
    · have := (give_le (av := av) distinct (n - min (vget av x) n) u).2
      rw [give_later (ne_of_mem_of_not_mem hu new).symm] at given
      rw [give_first new]
      omega
    · rwa [give_later (ne_of_mem_of_not_mem ht new).symm, give_later (ne_of_mem_of_not_mem hu new).symm]

/-! #### The order of giving -/

theorem givesBefore_iff : givesBefore av t u = true ↔ vget av u < vget av t ∨ (vget av t = vget av u ∧ t.val < u.val) := by
  simp [givesBefore]

theorem insertTube_perm (av : Vector Nat 6) (t : Fin 6) (l : List (Fin 6)) : (insertTube av t l).Perm (t :: l) := by
  induction l with
  | nil => exact .refl _
  | cons u us ih =>
    unfold insertTube
    split
    · exact .refl _
    · exact (ih.cons u).trans (.swap t u us)

theorem insertTube_ordered {l : List (Fin 6)} (t : Fin 6) (h : l.Pairwise (fun t u => ¬ givesBefore av u t = true)) :
    (insertTube av t l).Pairwise (fun t u => ¬ givesBefore av u t = true) := by
  induction l with
  | nil => exact List.pairwise_singleton _ _
  | cons u us ih =>
    obtain ⟨first, rest⟩ := List.pairwise_cons.1 h
    unfold insertTube
    split
    · rename_i before
      refine List.pairwise_cons.2 ⟨List.forall_mem_cons.2 ⟨?_, fun w hw => ?_⟩, h⟩
      · rw [givesBefore_iff] at before ⊢
        omega
      · have := first w hw
        rw [givesBefore_iff] at before this ⊢
        omega
    · rename_i after
      refine List.pairwise_cons.2 ⟨fun w hw => ?_, ih rest⟩
      obtain rfl | hw := List.mem_cons.1 ((insertTube_perm av t us).mem_iff.1 hw)
      · exact after
      · exact first w hw

/-- The givers are the tubes of the denomination, in the order of giving (R54). -/
theorem givers_spec (den av : Vector Nat 6) (d : Nat) : (givers den av d).Perm (sixes.filter (fun t => decide (vget den t = d))) ∧
    (givers den av d).Pairwise (fun t u => ¬ givesBefore av u t = true) := by
  have folded (ts : List (Fin 6)) : ∀ l : List (Fin 6), l.Pairwise (fun t u => ¬ givesBefore av u t = true) →
      (ts.foldl (fun l t => if vget den t = d then insertTube av t l else l) l).Perm
        (l ++ ts.filter (fun t => decide (vget den t = d))) ∧
      (ts.foldl (fun l t => if vget den t = d then insertTube av t l else l) l).Pairwise
        (fun t u => ¬ givesBefore av u t = true) := by
    induction ts with
    | nil => exact fun l h => ⟨by simp, h⟩
    | cons t ts ih =>
      intro l h
      by_cases same : vget den t = d
      · obtain ⟨perm, ordered⟩ := ih _ (insertTube_ordered t h)
        simp only [List.foldl_cons, same, if_true, decide_true, List.filter_cons_of_pos]
        exact ⟨perm.trans (((insertTube_perm av t l).append_right _).trans List.perm_middle.symm), ordered⟩
      · simpa only [List.foldl_cons, same, if_false, decide_false, Bool.false_eq_true, not_false_eq_true,
          List.filter_cons_of_neg] using ih l h
  exact folded sixes [] .nil

theorem nodup_givers (den av : Vector Nat 6) (d : Nat) : (givers den av d).Nodup :=
  (givers_spec den av d).1.nodup_iff.2 (nodup_sixes.filter _)

theorem mem_givers : t ∈ givers den av d ↔ vget den t = d := by
  rw [(givers_spec den av d).1.mem_iff, List.mem_filter, decide_eq_true_eq, and_iff_right (mem_sixes t)]

/-- A sum over the givers is one over all tubes of their denomination. -/
theorem sum_givers (f : Fin 6 → Nat) :
    ((givers den av d).map f).sum = (sixes.map (fun t => if vget den t = d then f t else 0)).sum := by
  rw [((givers_spec den av d).1.map f).sum_eq]
  induction sixes with
  | nil => rfl
  | cons t ts ih =>
    by_cases same : vget den t = d <;> simp [same, ih]

/-- The coins a denomination's n coins take from tube t. -/
def share (den av : Vector Nat 6) (d n : Nat) (t : Fin 6) : Nat := planCount (give av (givers den av d) n) t

theorem share_le : share den av d n t ≤ vget av t := (give_le (nodup_givers den av d) n t).1

/-- All n coins are found where there are as many. -/
theorem sum_share (enough : n ≤ summed den av d) :
    (sixes.map (fun t => if vget den t = d then share den av d n t else 0)).sum = n := by
  have given := give_sum (av := av) (nodup_givers den av d) n
  have all : ((givers den av d).map (vget av)).sum = summed den av d := sum_givers (vget av)
  rw [all, Nat.min_eq_left enough] at given
  rw [← sum_givers]
  exact given

/-- A tube that gives before another has given all when that one gives any (R54). -/
theorem share_before (same : vget den t = vget den u) (before : givesBefore av t u = true) (given : 0 < share den av (vget den u) n u) :
    share den av (vget den u) n t = vget av t := by
  obtain ⟨xs, ys, split⟩ := List.append_of_mem (mem_givers (den := den) (av := av) (t := u).2 rfl)
  have after : t ∉ ys := fun ht => by
    have ordered := (givers_spec den av (vget den u)).2
    rw [split, List.pairwise_append, List.pairwise_cons] at ordered
    exact ordered.2.1.1 t ht before
  have other : t ≠ u := fun e => by
    rw [e, givesBefore_iff] at before
    omega
  have front : t ∈ xs := by
    have ht := mem_givers (av := av).2 same
    rw [split, List.mem_append, List.mem_cons] at ht
    tauto
  have gives : (givers den av (vget den u)).Pairwise (fun t w => 0 < share den av (vget den u) n w →
      share den av (vget den u) n t = vget av t) := give_pairwise (nodup_givers den av (vget den u)) n
  rw [split] at gives
  exact (List.pairwise_append.1 gives).2.2 t front u (.head _) given

end Give

/-! #### The plan of a selection (R54) -/

section Allocate
variable {den av : Vector Nat 6} {d k : Nat} {counts : Plan} {sel : List (Nat × Nat)} {t u : Fin 6}

theorem mem_entriesFor {e : Fin 6 × Nat} :
    e ∈ entriesFor den d counts ↔ 0 < e.2 ∧ vget den e.1 = d ∧ e.2 = planCount counts e.1 := by
  obtain ⟨t, n⟩ := e
  simp only [entriesFor, List.mem_filter, List.mem_map, decide_eq_true_eq, Prod.mk.injEq]
  constructor
  · rintro ⟨⟨_, -, rfl, rfl⟩, some⟩
    split at some
    · rename_i same
      exact ⟨by rwa [if_pos same], same, if_pos same⟩
    · cases some
  · rintro ⟨some, same, rfl⟩
    exact ⟨⟨t, mem_sixes t, rfl, if_pos same⟩, some⟩

/-- A plan's counts and its value do not hang on entries of no coin. -/
theorem planCount_filter (pl : Plan) (t : Fin 6) : planCount (pl.filter (fun e => decide (0 < e.2))) t = planCount pl t := by
  induction pl with
  | nil => rfl
  | cons e pl ih =>
    by_cases some : 0 < e.2
    · rw [List.filter_cons_of_pos (by simpa using some), planCount_cons, planCount_cons, ih]
    · rw [List.filter_cons_of_neg (by simpa using some), planCount_cons, ih, Nat.eq_zero_of_not_pos some, ite_self, Nat.zero_add]

theorem planCount_tabled (f : Fin 6 → Nat) {ts : List (Fin 6)} (distinct : ts.Nodup) (t : Fin 6) :
    planCount (ts.map (fun t => (t, f t))) t = if t ∈ ts then f t else 0 := by
  induction ts with
  | nil => rfl
  | cons x xs ih =>
    obtain ⟨new, distinct⟩ := List.nodup_cons.1 distinct
    rw [List.map_cons, planCount_cons, ih distinct]
    by_cases h : x = t
    · subst h
      simp [new]
    · simp [h, Ne.symm h]

theorem planCount_entriesFor (den : Vector Nat 6) (d : Nat) (counts : Plan) (t : Fin 6) :
    planCount (entriesFor den d counts) t = if vget den t = d then planCount counts t else 0 := by
  rw [entriesFor, planCount_filter, planCount_tabled (fun t => if vget den t = d then planCount counts t else 0) nodup_sixes,
    if_pos (mem_sixes t)]

theorem planValue_append (den : Vector Nat 6) (a b : Plan) : planValue den (a ++ b) = planValue den a + planValue den b := by
  simp [planValue]

theorem planValue_filter (den : Vector Nat 6) (pl : Plan) :
    planValue den (pl.filter (fun e => decide (0 < e.2))) = planValue den pl := by
  induction pl with
  | nil => rfl
  | cons e pl ih =>
    have cons (a : Plan) : planValue den (e :: a) = e.2 * vget den e.1 + planValue den a := by simp [planValue]
    by_cases some : 0 < e.2
    · rw [List.filter_cons_of_pos (by simpa using some), cons, cons, ih]
    · rw [List.filter_cons_of_neg (by simpa using some), cons, ih, Nat.eq_zero_of_not_pos some, Nat.zero_mul, Nat.zero_add]

theorem planValue_entriesFor (den : Vector Nat 6) (d : Nat) (counts : Plan) : planValue den (entriesFor den d counts) =
    (sixes.map (fun t => if vget den t = d then planCount counts t else 0)).sum * d := by
  rw [entriesFor, planValue_filter]
  induction sixes with
  | nil => simp [planValue]
  | cons t ts ih =>
    have value : planValue den ((t :: ts).map (fun t => (t, if vget den t = d then planCount counts t else 0))) =
        (if vget den t = d then planCount counts t else 0) * vget den t +
          planValue den (ts.map (fun t => (t, if vget den t = d then planCount counts t else 0))) := by simp [planValue]
    rw [value, ih, List.map_cons, List.sum_cons, Nat.add_mul]
    split
    · rename_i same
      rw [same]
    · rw [Nat.zero_mul, Nat.zero_mul]

theorem allocate_cons (den av : Vector Nat 6) (d k : Nat) (sel : List (Nat × Nat)) :
    allocate den av ((d, k) :: sel) = entriesFor den d (give av (givers den av d) k) ++ allocate den av sel := rfl

theorem mem_allocate {e : Fin 6 × Nat} : e ∈ allocate den av sel ↔
    ∃ d k, (d, k) ∈ sel ∧ 0 < e.2 ∧ vget den e.1 = d ∧ e.2 = share den av d k e.1 := by
  simp only [allocate, List.mem_flatten, List.mem_map, Prod.exists]
  constructor
  · rintro ⟨_, ⟨d, k, mem, rfl⟩, he⟩
    exact ⟨d, k, mem, mem_entriesFor.1 he⟩
  · rintro ⟨d, k, mem, he⟩
    exact ⟨_, ⟨d, k, mem, rfl⟩, mem_entriesFor.2 he⟩

/-- A tube of no denomination selected gives nothing. -/
theorem planCount_allocate_other (h : vget den t ∉ sel.map Prod.fst) : planCount (allocate den av sel) t = 0 := by
  induction sel with
  | nil => rfl
  | cons x sel ih =>
    obtain ⟨d, k⟩ := x
    obtain ⟨ne, rest⟩ := not_or.1 (List.mem_cons.not.1 h)
    rw [allocate_cons, planCount_append, planCount_entriesFor, if_neg ne, ih rest]

/-- A tube gives its share of its denomination's coins. -/
theorem planCount_allocate (distinct : (sel.map Prod.fst).Nodup) (h : (vget den t, k) ∈ sel) :
    planCount (allocate den av sel) t = share den av (vget den t) k t := by
  induction sel with
  | nil => cases h
  | cons x sel ih =>
    obtain ⟨d, n⟩ := x
    obtain ⟨new, distinct⟩ := List.nodup_cons.1 distinct
    rw [allocate_cons, planCount_append, planCount_entriesFor]
    obtain here | later := List.mem_cons.1 h
    · obtain ⟨same, rfl⟩ := Prod.mk.inj here
      rw [if_pos same, planCount_allocate_other (by rwa [same]), same]
      rfl
    · have ne : vget den t ≠ d := ne_of_mem_of_not_mem (List.mem_map_of_mem (f := Prod.fst) later) new
      rw [if_neg ne, Nat.zero_add, ih distinct later]

/-- A plan is worth its selection, where the coins are there. -/
theorem planValue_allocate (enough : ∀ d k, (d, k) ∈ sel → k ≤ summed den av d) :
    planValue den (allocate den av sel) = selValue sel := by
  induction sel with
  | nil => rfl
  | cons x sel ih =>
    obtain ⟨d, k⟩ := x
    have found : (sixes.map (fun t => if vget den t = d then planCount (give av (givers den av d) k) t else 0)).sum = k :=
      sum_share (enough d k (.head _))
    rw [allocate_cons, planValue_append, planValue_entriesFor, found, ih fun d k h => enough d k (.tail _ h), selValue_cons]

theorem entriesFor_ordered (den : Vector Nat 6) (d : Nat) (counts : Plan) :
    (entriesFor den d counts).Pairwise (fun e f => e.1.val < f.1.val) := by
  refine List.Pairwise.filter _ (List.pairwise_map.2 ?_)
  show sixes.Pairwise (fun t u => t.val < u.val)
  decide

/-- The plan is in the order of payout (R54). -/
theorem allocate_ordered (sorted : (sel.map Prod.fst).Pairwise (fun a b => b < a)) : (allocate den av sel).Pairwise
    (fun e f => vget den f.1 < vget den e.1 ∨ (vget den f.1 = vget den e.1 ∧ e.1.val < f.1.val)) := by
  induction sel with
  | nil => exact .nil
  | cons x sel ih =>
    obtain ⟨d, k⟩ := x
    obtain ⟨below, sorted⟩ := List.pairwise_cons.1 sorted
    rw [allocate_cons]
    refine List.pairwise_append.2 ⟨(entriesFor_ordered den d _).imp_of_mem fun {e f} he hf h => .inr ⟨?_, h⟩, ih sorted,
      fun e he f hf => .inl ?_⟩
    · rw [(mem_entriesFor.1 he).2.1, (mem_entriesFor.1 hf).2.1]
    · obtain ⟨b, n, mem, -, same, -⟩ := mem_allocate.1 hf
      rw [(mem_entriesFor.1 he).2.1, same]
      exact below b (List.mem_map_of_mem mem)

/-- What a greedy pass selects is allocated as R54 says, and worth what it took. -/
theorem allocate_greedy (den av : Vector Nat 6) (limit : Option (Nat × Nat)) (c : Nat) :
    AllocatedPlan den av (greedy den av limit (distinctDenoms den) c).1
      (allocate den av (greedy den av limit (distinctDenoms den) c).1) ∧
    planValue den (allocate den av (greedy den av limit (distinctDenoms den) c).1) +
      (greedy den av limit (distinctDenoms den) c).2 = c := by
  obtain ⟨sorted, mem, -, value⟩ := greedy_selects den av limit c
  have enough (d k : Nat) := greedy_le den av limit c (d := d) (k := k)
  generalize (greedy den av limit (distinctDenoms den) c).1 = sel at sorted mem value enough ⊢
  have distinct : (sel.map Prod.fst).Nodup := sorted.imp fun h => h.ne'
  have shares (t : Fin 6) : planCount (allocate den av sel) t = 0 ∨
      ∃ k, (vget den t, k) ∈ sel ∧ planCount (allocate den av sel) t = share den av (vget den t) k t := by
    by_cases h : vget den t ∈ sel.map Prod.fst
    · obtain ⟨⟨d, k⟩, hk, same⟩ := List.mem_map.1 h
      obtain rfl : d = vget den t := same
      exact .inr ⟨k, hk, planCount_allocate distinct hk⟩
    · exact .inl (planCount_allocate_other h)
  have ordered := allocate_ordered (den := den) (av := av) sorted
  refine ⟨⟨fun d k hk => ?_, fun t u same before given => ?_, fun e he => ?_, fun t => ?_, ?_, ordered⟩, ?_⟩
  · refine (congrArg List.sum (List.map_congr_left fun t _ => ?_)).trans (sum_share (enough d k hk))
    refine if_ctx_congr Iff.rfl (fun same => ?_) fun _ => rfl
    subst same
    exact planCount_allocate distinct hk
  · obtain none | ⟨k, hk, eq⟩ := shares u
    · omega
    · rw [eq] at given
      rw [planCount_allocate distinct (by rwa [same]), same]
      exact share_before same (givesBefore_iff.2 before) given
  · obtain ⟨d, k, hk, some, same, -⟩ := mem_allocate.1 he
    exact ⟨some, same ▸ ((mem d).1 (List.mem_map_of_mem hk)).1⟩
  · obtain none | ⟨k, -, eq⟩ := shares t
    · omega
    · exact eq ▸ share_le
  · refine List.pairwise_map.2 (ordered.imp fun {e f} h same => ?_)
    rw [same] at h
    omega
  · rw [planValue_allocate enough]
    exact value

end Allocate

/-! #### The passes (R52, R53, R55) -/

section Passes
variable {den av : Vector Nat 6} {c : Nat}

/-- The limited run of pass 2 for a denomination of which pass 1 took k leaves something, or is not made (R53). -/
def RunFails (den av : Vector Nat 6) (c d k : Nat) : Prop :=
  0 < k → (greedy den av (some (d, k - 1)) (distinctDenoms den) c).2 ≠ 0

theorem runFails_iff {d k : Nat} : RunFails den av c d k ↔
    (0 < k → ∀ sx, ¬ GreedySelection den (limitedTo den av d (k - 1)) c sx 0) := by
  simp only [RunFails, ← allowed_limited]
  refine forall_congr' fun _ => ⟨fun h sx selects => h selects.left_eq.symm, fun h leaves => ?_⟩
  have selects := greedy_selects den av (some (d, k - 1)) c
  rw [leaves] at selects
  exact h _ selects

/-- The plan of pass 2 is that of the first run that leaves nothing (R53). -/
theorem pass2_cases (den av : Vector Nat 6) (c : Nat) (sel : List (Nat × Nat)) :
    (pass2 den av c sel = none ∧ ∀ d k, (d, k) ∈ sel → RunFails den av c d k) ∨
    ∃ xs d k ys, sel = xs ++ (d, k) :: ys ∧ (∀ x j, (x, j) ∈ xs → RunFails den av c x j) ∧ 0 < k ∧
      (greedy den av (some (d, k - 1)) (distinctDenoms den) c).2 = 0 ∧
      pass2 den av c sel = some (allocate den av (greedy den av (some (d, k - 1)) (distinctDenoms den) c).1) := by
  induction sel with
  | nil => exact .inl ⟨rfl, fun d k h => by cases h⟩
  | cons x sel ih =>
    obtain ⟨d, k⟩ := x
    by_cases runs : 0 < k ∧ (greedy den av (some (d, k - 1)) (distinctDenoms den) c).2 = 0
    · obtain ⟨some, leaves⟩ := runs
      refine .inr ⟨[], d, k, sel, rfl, fun x j h => (by cases h), some, leaves, ?_⟩
      exact (if_neg some.ne').trans (if_pos leaves)
    · have failed : RunFails den av c d k := fun some leaves => runs ⟨some, leaves⟩
      have next : pass2 den av c ((d, k) :: sel) = pass2 den av c sel := by
        by_cases none : k = 0
        · exact if_pos none
        · exact (if_neg none).trans (if_neg (failed (Nat.pos_of_ne_zero none)))
      rw [next]
      have all {xs : List (Nat × Nat)} (h : ∀ x j, (x, j) ∈ xs → RunFails den av c x j) :
          ∀ x j, (x, j) ∈ (d, k) :: xs → RunFails den av c x j := by
        rintro x j (_ | ⟨_, mem⟩)
        · exact failed
        · exact h x j mem
      obtain ⟨none, fails⟩ | ⟨xs, e, n, ys, rfl, fails, rest⟩ := ih
      · exact .inl ⟨none, all fails⟩
      · exact .inr ⟨(d, k) :: xs, e, n, ys, rfl, all fails, rest⟩

/-- No amount takes no coin. -/
theorem shortPlan_zero (den av : Vector Nat 6) : shortPlan den av 0 = ([], 0) := by
  have whole : (greedy den av none (distinctDenoms den) 0).2 = 0 := by
    have := greedy_value den av none (distinctDenoms den) 0
    omega
  obtain ⟨⟨-, -, entries, -⟩, value⟩ := allocate_greedy den av none 0
  refine Prod.ext (List.eq_nil_iff_forall_not_mem.2 fun e he => ?_) whole
  obtain ⟨some, held⟩ := entries e he
  have le : e.2 * vget den e.1 ≤ planValue den (shortPlan den av 0).1 := List.le_sum_of_mem (List.mem_map_of_mem he)
  have pos : 0 < e.2 * vget den e.1 := Nat.mul_pos some (Nat.pos_of_ne_zero held)
  have zero : planValue den (shortPlan den av 0).1 = 0 := (Nat.add_eq_zero_iff.1 value).1
  omega

/-- The greedy selection is the plan where it leaves nothing (R52). -/
theorem planFor_greedy (h : (shortPlan den av c).2 = 0) : planFor den av c = some (shortPlan den av c).1 := by
  unfold planFor
  split
  · rename_i none
    rw [none, shortPlan_zero]
  · exact if_pos h

/-- Where it leaves a remainder, pass 2 decides (R53). -/
theorem planFor_pass2 (h : (shortPlan den av c).2 ≠ 0) :
    planFor den av c = pass2 den av c (greedy den av none (distinctDenoms den) c).1 := by
  have some : c ≠ 0 := by
    rintro rfl
    exact h (by rw [shortPlan_zero])
  exact (if_neg some).trans (if_neg h)

/-- A plan makes its amount. -/
theorem planFor_value {pl : Plan} (h : planFor den av c = some pl) : planValue den pl = c := by
  by_cases whole : (shortPlan den av c).2 = 0
  · rw [planFor_greedy whole] at h
    cases h
    have value := (allocate_greedy den av none c).2
    rwa [show (greedy den av none (distinctDenoms den) c).2 = 0 from whole] at value
  · rw [planFor_pass2 whole] at h
    obtain ⟨none, -⟩ | ⟨xs, d, k, ys, -, -, -, leaves, plan⟩ := pass2_cases den av c (greedy den av none (distinctDenoms den) c).1
    · cases none.symm.trans h
    · cases plan.symm.trans h
      have value := (allocate_greedy den av (some (d, k - 1)) c).2
      rwa [leaves] at value

theorem planOrShort_some {pl : Plan} (h : planFor den av c = some pl) : planOrShort den av c = (pl, 0) := by
  simp only [planOrShort, h]

theorem planOrShort_none (h : planFor den av c = none) : planOrShort den av c = shortPlan den av c := by
  simp only [planOrShort, h]

end Passes
end Sys2Proof.Machine

namespace Sys2Proof.Proofs
open Sys2Proof Sys2Proof.Machine

/-- Settles O55: the greedy pass selects, the limited runs are tried in its order, and what they select is allocated. -/
theorem plannerMakesTheAmount : Obligations.PlannerMakesTheAmount := by
  intro den av c
  obtain ⟨allocated, value⟩ := allocate_greedy den av none c
  refine ⟨_, _, greedy_selects den av none c, rfl, allocated, value, planFor_greedy, fun rest => ?_,
    fun pl h => ⟨planFor_value h, planOrShort_some h⟩, planOrShort_none⟩
  have decided := planFor_pass2 (den := den) (av := av) (c := c) rest.ne'
  rw [decided]
  obtain ⟨none, fails⟩ | ⟨xs, d, k, ys, split, fails, some, leaves, plan⟩ :=
    pass2_cases den av c (greedy den av none (distinctDenoms den) c).1
  · exact ⟨fun pl h => (by cases none.symm.trans h), fun _ x j h => runFails_iff.1 (fails x j h)⟩
  · refine ⟨fun pl h => ?_, fun h => (by cases h.symm.trans plan)⟩
    cases plan.symm.trans h
    have selects := greedy_selects den av (.some (d, k - 1)) c
    rw [leaves, allowed_limited] at selects
    exact ⟨xs, d, k, ys, _, split, fun x j h => runFails_iff.1 (fails x j h), some, selects,
      (allocate_greedy den av (.some (d, k - 1)) c).1⟩

end Sys2Proof.Proofs

namespace Sys2Proof.Machine

/-! ### Gauges (R62–R65) -/

section Gauge
variable {t : Fin 6} {g : BitVec 6} {parity : Bool} {s : State}

/-- The Gray reading as exclusive ors of its shifts (R63). -/
theorem grayLevel_eq : ∀ g : BitVec 6, grayLevel g =
    (g ^^^ (g >>> 1) ^^^ (g >>> 2) ^^^ (g >>> 3) ^^^ (g >>> 4) ^^^ (g >>> 5)).toNat := by decide

theorem grayLevel_eq_zero : ∀ g : BitVec 6, grayLevel g = 0 ↔ g = 0 := by decide

/-- The estimate of a reading is taken (R63). -/
def estimated (t : Fin 6) (g : BitVec 6) (s : State) : State :=
  onTube t (fun x => { x with estimate := some (grayLevel g * (tube t s).perStep) }) s

theorem gauge_disabled (h : (tube t s).state = .disabled) : gauge t g parity s = (s, .discarded) := if_pos h

theorem gauge_badParity (used : (tube t s).state ≠ .disabled) (odd : parityEven g parity = false) :
    gauge t g parity s =
      (raiseFault .changer .gaugeParity (onChange (fun c => { c with parityErrors := c.parityErrors + 1 }) s), .discarded) := by
  rw [gauge, if_neg used, if_pos odd]

section Good
variable (used : (tube t s).state ≠ .disabled) (even : parityEven g parity = true)
include used even

theorem gauge_paying (empty : g = 0) (pays : matchDispense t s ≠ none) : gauge t g parity s = (s, .discarded) := by
  rw [gauge, if_neg used, if_neg (by rw [even]; decide),
    if_pos ⟨(grayLevel_eq_zero g).2 empty, Option.isSome_iff_ne_none.2 pays⟩]

/-- A reading of level 0 writes the tube's count off (R64). -/
theorem gauge_empty (empty : g = 0) (quiet : matchDispense t s = none) :
    (gauge t g parity s).1 = onTube t (streakStep true) (writeOff t (estimated t g s)) := by
  have level := (grayLevel_eq_zero g).2 empty
  rw [gauge, if_neg used, if_neg (by rw [even]; decide), if_neg (by rw [quiet]; rintro ⟨-, h⟩; cases h)]
  simp only [level, if_true, estimated]

/-- A reading above level 0 is compared with the count (R65). -/
theorem gauge_level (some : g ≠ 0) : (gauge t g parity s).1 = onTube t (fun x =>
    streakStep (!outside x.tolerance x.count (grayLevel g * (tube t s).perStep)) x) (estimated t g s) := by
  have level := (grayLevel_eq_zero g).not.2 some
  rw [gauge, if_neg used, if_neg (by rw [even]; decide), if_neg (fun h => level h.1)]
  simp only [level, if_false, estimated]

end Good

/-- A streak step keeps the figures of its tube. -/
theorem streakStep_keeps (within : Bool) (x : Tube) : (streakStep within x).estimate = x.estimate ∧
    (streakStep within x).count = x.count ∧ (streakStep within x).writtenOff = x.writtenOff := by
  have inside : ∀ b : Bool, (if b then withinStep x else outsideStep x).estimate = x.estimate ∧
      (if b then withinStep x else outsideStep x).count = x.count ∧
      (if b then withinStep x else outsideStep x).writtenOff = x.writtenOff := by rintro (_ | _) <;> exact ⟨rfl, rfl, rfl⟩
  unfold streakStep
  split
  · exact inside within
  · exact inside within
  · exact ⟨rfl, rfl, rfl⟩
  · exact ⟨rfl, rfl, rfl⟩

/-- What a reading means for the streaks and the state of a tube in use (R65). -/
theorem streakStep_cases (off : Prop) (within : Bool) (h : within = false ↔ off) (x : Tube) (used : x.state ≠ .disabled) :
    (x.state = .jammed → (streakStep within x).state = .jammed ∧ (streakStep within x).doubt = 0 ∧
      (streakStep within x).clear = 0) ∧
    (x.state ≠ .jammed → off → (streakStep within x).doubt = min 3 (x.doubt + 1) ∧ (streakStep within x).clear = 0 ∧
      (streakStep within x).state = (if x.state = .active ∧ 2 ≤ x.doubt then .doubt else x.state)) ∧
    (x.state ≠ .jammed → ¬ off → (streakStep within x).clear = min 3 (x.clear + 1) ∧ (streakStep within x).doubt = 0 ∧
      (streakStep within x).state = (if x.state = .doubt ∧ 2 ≤ x.clear then .active else x.state)) := by
  have third (n : Nat) : min 3 (n + 1) = 3 ↔ 2 ≤ n := by omega
  have outside (live : x.state ≠ .jammed) (hw : within = false) : streakStep within x = outsideStep x := by
    subst hw
    unfold streakStep
    split
    · rfl
    · rfl
    · exact absurd ‹_› live
    · exact absurd ‹_› used
  have inside (live : x.state ≠ .jammed) (hw : within = true) : streakStep within x = withinStep x := by
    subst hw
    unfold streakStep
    split
    · rfl
    · rfl
    · exact absurd ‹_› live
    · exact absurd ‹_› used
  refine ⟨fun stuck => ?_, fun live hoff => ?_, fun live hon => ?_⟩
  · simp only [streakStep, stuck, and_self]
  · rw [outside live (h.2 hoff)]
    simp only [outsideStep, third, and_self]
  · rw [inside live (Bool.not_eq_false _ ▸ h.not.2 hon)]
    simp only [withinStep, third, and_self]

/-- A level-0 reading writes the whole count off, and what both positions hold on the tube (R64). -/
theorem writeOff_tube (t : Fin 6) (s : State) : (tube t (writeOff t s)).estimate = (tube t s).estimate ∧
    (tube t (writeOff t s)).count = 0 ∧
    (tube t (writeOff t s)).writtenOff = (tube t s).writtenOff + BitVec.ofNat 32 (tube t s).count ∧
    ∀ i, i ≠ t → tube i (writeOff t s) = tube i s := by
  unfold writeOff
  extract_lets n clear
  split
  · rename_i none
    exact ⟨rfl, none, by rw [show (tube t s).count = 0 from none]; simp, fun _ _ => rfl⟩
  · have emptied (i : Fin 6) : tube i (onResv .A clear (onResv .B clear
        (onTube t (fun x => { x with count := 0, writtenOff := add32 x.writtenOff n }) s))) =
        tube i (onTube t (fun x => { x with count := 0, writtenOff := add32 x.writtenOff n }) s) := rfl
    rw [emptied, tube_onTube_self]
    exact ⟨rfl, rfl, rfl, fun i hi => by rw [emptied, tube_onTube_ne hi]⟩

theorem writeOff_resv (some : 0 < (tube t s).count) (p : Position) :
    vget (resv p (writeOff t s)).reserved t = 0 ∧ vget (resv p (writeOff t s)).cover t = 0 := by
  unfold writeOff
  rw [if_neg some.ne']
  cases p <;> exact ⟨vget_vset_self _ _ _, vget_vset_self _ _ _⟩

/-- A GAUGE report touches its own tube alone. -/
theorem gauge_others (t : Fin 6) (g : BitVec 6) (parity : Bool) (s : State) {i : Fin 6} (hi : i ≠ t) :
    tube i (gauge t g parity s).1 = tube i s := by
  by_cases used : (tube t s).state = .disabled
  · rw [gauge_disabled used]
  cases even : parityEven g parity with
  | false =>
    rw [gauge_badParity used even, tube, raiseFault_change]
    rfl
  | true =>
    by_cases empty : g = 0
    · by_cases pays : matchDispense t s = none
      · rw [gauge_empty used even empty pays, tube_onTube_ne hi, (writeOff_tube t _).2.2.2 i hi, estimated, tube_onTube_ne hi]
      · rw [gauge_paying used even empty pays]
    · rw [gauge_level used even empty, tube_onTube_ne hi, estimated, tube_onTube_ne hi]

end Gauge
end Sys2Proof.Machine

namespace Sys2Proof.Proofs
open Sys2Proof Sys2Proof.Machine

/-- Settles O49: the three discarded readings, the reading of level 0 and the ones above it. -/
theorem gaugeReports : Obligations.GaugeReports := by
  intro t g parity s u x est good
  have read : est = grayLevel g * x.perStep := by rw [grayLevel_eq]
  refine ⟨gauge_disabled, fun used odd => ?_, fun ⟨used, even⟩ => gauge_paying used even, fun ⟨used, even⟩ empty quiet => ?_,
    fun ⟨used, even⟩ filled => ?_, fun i hi => gauge_others t g parity s hi⟩
  · simp only [u, gauge_badParity used odd, raiseFault_change, true_and]
    exact ⟨rfl, rfl, by rw [raiseFault_periph, if_pos rfl]; rfl⟩
  · obtain ⟨estimate, count, off, -⟩ := writeOff_tube t (estimated t g s)
    obtain ⟨estimate', count', off'⟩ := streakStep_keeps true (tube t (writeOff t (estimated t g s)))
    have before : tube t (estimated t g s) = { x with estimate := some (grayLevel g * x.perStep) } := tube_onTube_self t _ s
    have level : grayLevel g = 0 := (grayLevel_eq_zero g).2 empty
    rw [show u = _ from gauge_empty used even empty quiet, tube_onTube_self, estimate', estimate, count', count, off', off, before,
      level, Nat.zero_mul]
    exact ⟨rfl, rfl, rfl, fun held => writeOff_resv (s := estimated t g s) (by rw [before]; exact held)⟩
  · have before : tube t (estimated t g s) = { x with estimate := some est } := by
      rw [estimated, tube_onTube_self, read]
    rw [show u = _ from gauge_level used even filled, tube_onTube_self, before, ← read]
    obtain ⟨estimate, count, -⟩ := streakStep_keeps (!outside x.tolerance x.count est) { x with estimate := some est }
    have off : (!outside x.tolerance x.count est) = false ↔ x.tolerance < x.count - est ∨ x.tolerance < est - x.count := by
      simp only [outside, Bool.not_eq_false', Bool.or_eq_true, decide_eq_true_eq]
    exact ⟨estimate, count, streakStep_cases _ _ off { x with estimate := some est } used⟩

end Sys2Proof.Proofs

namespace Sys2Proof.Machine

/-! ### Payouts reported (R57–R59) -/

section Payout
variable {p : Position} {t : Fin 6} {n k : Nat} {d : Dispense} {s u v : State}

/-- In u, k coins have left tube t of s and been counted as paid out, and the rest of the money is where it was (R58). -/
def CoinsLeft (t : Fin 6) (k : Nat) (s u : State) : Prop :=
  (tube t u).count = (tube t s).count - k ∧ (tube t u).paidOut = (tube t s).paidOut + BitVec.ofNat 32 k ∧
  (∀ i, i ≠ t → tube i u = tube i s) ∧ u.change.box = s.change.box ∧ u.fare = s.fare ∧ u.cash = s.cash

theorem tube_of_untouched (h : untouched u = untouched v) (i : Fin 6) : tube i u = tube i v :=
  (congrArg (fun x => vget x.tubes i) h :)

theorem CoinsLeft.of_untouched (left : CoinsLeft t k s v) (h : untouched u = untouched v) : CoinsLeft t k s u := by
  simp only [CoinsLeft, tube_of_untouched h] at left ⊢
  obtain ⟨count, paid, others, box, fare, cash⟩ := left
  exact ⟨count, paid, others, (congrArg Untouched.box h).trans box, (congrArg Untouched.fare h).trans fare,
    (congrArg Untouched.cash h).trans cash⟩

theorem tube_raiseFault (i : Fin 6) (a : Addr) (f : Flag) (s : State) : tube i (raiseFault a f s) = tube i s := by
  rw [tube, raiseFault_change]
  rfl

theorem CoinsLeft.raiseFault (left : CoinsLeft t k s v) (a : Addr) (f : Flag) : CoinsLeft t k s (raiseFault a f v) := by
  simpa only [CoinsLeft, tube_raiseFault, raiseFault_change, raiseFault_fare, raiseFault_cash] using left

/-- Of what a payout's report touches, the coins paid move the tube alone; the rest is the position's own. -/
theorem payCoins_untouched (p : Position) (t : Fin 6) (k : Nat) (s : State) : untouched (payCoins p t k s) =
    untouched (onTube t (fun x => { x with count := x.count - k, paidOut := add32 x.paidOut k }) s) := by
  unfold payCoins
  dsimp only
  split <;> rfl

theorem payCoins_left (p : Position) (t : Fin 6) (k : Nat) (s : State) : CoinsLeft t k s (payCoins p t k s) := by
  refine CoinsLeft.of_untouched ?_ (payCoins_untouched p t k s)
  refine ⟨?_, ?_, fun i hi => tube_onTube_ne hi _ s, rfl, rfl, rfl⟩ <;> rw [tube_onTube_self]
  rfl

theorem payCoins_state (p : Position) (t : Fin 6) (k : Nat) (s : State) : (tube t (payCoins p t k s)).state = (tube t s).state := by
  rw [tube_of_untouched (payCoins_untouched p t k s), tube_onTube_self]

/-- The tube sticks after k coins, before the remainder is planned again (R59). -/
def jammed (p : Position) (t : Fin 6) (k : Nat) (s : State) : State :=
  raiseFault .changer .jam (onTube t (fun x => { x with state := .jammed, doubt := 0, clear := 0 }) (payCoins p t k s))

theorem jam_eq (p : Position) (t : Fin 6) (k : Nat) (s : State) : jam p t k s = replan p (jammed p t k s) := rfl

theorem jammed_left (p : Position) (t : Fin 6) (k : Nat) (s : State) : CoinsLeft t k s (jammed p t k s) := by
  refine CoinsLeft.raiseFault ?_ _ _
  obtain ⟨count, paid, others, rest⟩ := payCoins_left p t k s
  exact ⟨by rw [tube_onTube_self, count], by rw [tube_onTube_self, paid],
    fun i hi => (tube_onTube_ne hi _ _).trans (others i hi), rest⟩

theorem jammed_state (p : Position) (t : Fin 6) (k : Nat) (s : State) : (tube t (jammed p t k s)).state = .jammed := by
  rw [jammed, tube_raiseFault, tube_onTube_self]

theorem jammed_flag (p : Position) (t : Fin 6) (k : Nat) (s : State) : (periph .changer (jammed p t k s)).flags.jam = true := by
  rw [jammed, raiseFault_periph, if_pos rfl]
  rfl

theorem payoutOn_untouched (p : Position) (s : State) : untouched (payoutOn p s) = untouched s :=
  (payoutOn_controlled (.refl p s)).untouched

/-- A payout that goes on after a jam leaves the tube stuck, with its coins counted and JAM raised. -/
theorem jam_goesOn (p : Position) (t : Fin 6) (k : Nat) (s : State) : CoinsLeft t k s (payoutOn p (jam p t k s)) ∧
    (tube t (payoutOn p (jam p t k s))).state = .jammed ∧ (periph .changer (payoutOn p (jam p t k s))).flags.jam = true := by
  have same : untouched (payoutOn p (jam p t k s)) = untouched (jammed p t k s) := payoutOn_untouched p (jam p t k s)
  refine ⟨(jammed_left p t k s).of_untouched same, ?_, ?_⟩
  · rw [tube_of_untouched same, jammed_state]
  · rw [show periph .changer (payoutOn p (jam p t k s)) = periph .changer (jammed p t k s) from
      (congrArg (fun x => vget x.periph (addrIndex .changer)) same :), jammed_flag]

/-! #### The remainder planned again (R57, R59) -/

theorem payCoins_resv (p : Position) (t : Fin 6) (k : Nat) (s : State) :
    (resv p (payCoins p t k s)).amount = (resv p s).amount - k * denomOf s t ∧
    (resv p (payCoins p t k s)).short = (resv p s).short ∧ resv p.other (payCoins p t k s) = resv p.other s := by
  unfold payCoins
  dsimp only
  split <;> cases p <;> exact ⟨rfl, rfl, rfl⟩

theorem jammed_resv (p q : Position) (t : Fin 6) (k : Nat) (s : State) : resv q (jammed p t k s) = resv q (payCoins p t k s) := by
  rw [jammed, resv, raiseFault_change]
  rfl

/-- What is not planned is no more than the amount. -/
theorem planOrShort_rest_le (den av : Vector Nat 6) (c : Nat) : (planOrShort den av c).2 ≤ c := by
  unfold planOrShort
  split
  · exact Nat.zero_le c
  · have value : _ + (shortPlan den av c).2 = c := (allocate_greedy den av none c).2
    omega

/-- A remainder planned again is planned or carried as owed (R59). -/
theorem replan_resv (p : Position) (s : State) :
    (resv p (replan p s)).amount + (resv p (replan p s)).short = (resv p s).amount + (resv p s).short ∧
    resv p.other (replan p s) = resv p.other s := by
  refine ⟨?_, resv_onResv_other p _ s⟩
  have := planOrShort_rest_le (denoms s) (avail s p) (resv p s).amount
  rw [replan, resv_onResv_self]
  show (resv p s).amount - _ + ((resv p s).short + _) = _
  omega

theorem jam_resv (p : Position) (t : Fin 6) (k : Nat) (s : State) :
    (resv p (jam p t k s)).amount + (resv p (jam p t k s)).short =
      (resv p s).amount - k * denomOf s t + (resv p s).short ∧
    resv p.other (jam p t k s) = resv p.other s := by
  obtain ⟨amount, short, other⟩ := payCoins_resv p t k s
  obtain ⟨planned, other'⟩ := replan_resv p (jammed p t k s)
  rw [jammed_resv] at planned other'
  exact ⟨by rw [jam_eq, planned, amount, short], other'.trans other⟩

/-! #### The reports (R58, R59) -/

section Matched
variable (out : s.change.dispense = some d) (sent : d.sent = true) (here : d.tube = t)
include out sent here

theorem matchDispense_some : matchDispense t s = some d := by
  rw [matchDispense, out]
  exact if_pos ⟨sent, here⟩

theorem payoutDone_short (short : n < d.count) :
    payoutDone t n s = (payoutOn d.pos (jam d.pos t n s), .paid d.pos n) := by
  rw [payoutDone, matchDispense_some out sent here]
  exact if_pos short

/-- A whole payout is counted; a number above it raises MODULE_ERROR (R58). -/
theorem payoutDone_whole (whole : d.count ≤ n) : payoutDone t n s =
    (payoutOn d.pos (if d.count < n then raiseFault .changer .moduleError (payCoins d.pos t d.count s)
      else payCoins d.pos t d.count s), .paid d.pos d.count) := by
  rw [payoutDone, matchDispense_some out sent here]
  exact if_neg (Nat.not_lt.2 whole)

theorem payoutDone_counts (whole : d.count ≤ n) : CoinsLeft t d.count s (payoutDone t n s).1 ∧
    (tube t (payoutDone t n s).1).state = (tube t s).state := by
  have paid := payCoins_left d.pos t d.count s
  have state := payCoins_state d.pos t d.count s
  rw [payoutDone_whole out sent here whole]
  split
  · refine ⟨(paid.raiseFault _ _).of_untouched (payoutOn_untouched _ _), ?_⟩
    rw [tube_of_untouched (payoutOn_untouched _ _), tube_raiseFault, state]
  · exact ⟨paid.of_untouched (payoutOn_untouched _ _), by rw [tube_of_untouched (payoutOn_untouched _ _), state]⟩

theorem payoutJam_below (below : n < d.count) :
    payoutJam t n s = (payoutOn d.pos (jam d.pos t n s), .paid d.pos n) := by
  rw [payoutJam, matchDispense_some out sent here]
  exact if_neg (Nat.not_le.2 below)

/-- A number at or above the commanded count matches nothing (log 21). -/
theorem payoutJam_above (above : d.count ≤ n) : payoutJam t n s = (raiseFault .changer .moduleError s, .unmatched) := by
  rw [payoutJam, matchDispense_some out sent here]
  exact if_pos above

end Matched
end Payout
end Sys2Proof.Machine

namespace Sys2Proof.Proofs
open Sys2Proof Sys2Proof.Machine

/-- Settles O48: a whole payout, a short one and a jam are counted alike; a jam's remainder is planned again or owed. -/
theorem payoutIsCounted : Obligations.PayoutIsCounted := by
  intro t n d s out sent here
  refine ⟨?_, fun below => ?_, payoutJam_above out sent here, fun k => jam_resv d.pos t k s⟩
  · obtain short | whole := Nat.lt_or_ge n d.count
    · obtain ⟨left, stuck, flag⟩ := jam_goesOn d.pos t n s
      rw [payoutDone_short out sent here short, Nat.min_eq_left short.le]
      exact ⟨left, rfl, fun whole => absurd short (Nat.not_lt.2 whole), fun _ => ⟨stuck, flag⟩⟩
    · obtain ⟨left, state⟩ := payoutDone_counts out sent here whole
      rw [Nat.min_eq_right whole]
      exact ⟨left, by rw [payoutDone_whole out sent here whole], fun _ => state, fun short => absurd short (Nat.not_lt.2 whole)⟩
  · obtain ⟨left, stuck, flag⟩ := jam_goesOn d.pos t n s
    rw [payoutJam_below out sent here below]
    exact ⟨left, rfl, stuck, flag⟩

end Sys2Proof.Proofs

namespace Sys2Proof.Machine

/-! ### The cash tables and the tubes (R68–R70, R207) -/

section CashConfig
variable {tag : Byte} {body : List Byte} {busy : Bool} {s : State}

theorem execCashConfig_badLength (h : takes (.cashConfig tag body busy) s = true) (length : body.length ≠ 163) :
    exec (.cashConfig tag body busy) s = .next (answeredOnly 1 tag 7 .badLength .empty (takeFrame s)) := by
  show execCashConfig _ _ _ _ = _
  rw [execCashConfig, request_taken h, if_pos length]
  rfl

theorem execCashConfig_refused {r : Result} (h : takes (.cashConfig tag body busy) s = true) (length : body.length = 163)
    (refused : cashRefusal body s = some r) :
    exec (.cashConfig tag body busy) s = .next (answeredOnly 1 tag 7 r .empty (takeFrame s)) := by
  show execCashConfig _ _ _ _ = _
  rw [execCashConfig, request_taken h, if_neg (not_not.2 length), show cashRefusal body (takeFrame s) = some r from refused]
  rfl

theorem execCashConfig_taken (h : takes (.cashConfig tag body busy) s = true) (length : body.length = 163)
    (passes : cashRefusal body s = none) :
    exec (.cashConfig tag body busy) s =
      .next (served busy (mgmt tag 7 .ok .empty (applyCash (cashOf body) (takeFrame s)))) := by
  show execCashConfig _ _ _ _ = _
  rw [execCashConfig, request_taken h, if_neg (not_not.2 length), show cashRefusal body (takeFrame s) = none from passes]
  rfl

/-- U divides the top-up step of the live bank, and of the staged one while an activation is pending (R207). -/
def UnitFits (u : Nat) (s : State) : Prop :=
  s.fare.live.params.topStep % u = 0 ∧ (s.fare.act ≠ none → s.fare.staged.params.topStep % u = 0)

theorem not_unitFits {u : Nat} : ¬ UnitFits u s ↔ s.fare.live.params.topStep % u ≠ 0 ∨
    (s.fare.act.isSome = true ∧ s.fare.staged.params.topStep % u ≠ 0) := by
  rw [UnitFits, not_and_or, Classical.not_imp, Option.isSome_iff_ne_none]

/-- A tube that holds coins keeps its type, and the value of its type (R207). -/
def TubeKept (types : Vector CoinType 8) (g : TubeConfig) (x : Tube) (s : State) : Prop :=
  x.count = 0 ∨ (g.ctype = x.ctype ∧ ∀ c, x.ctype = some c → (vget types c).value = (coinType c s).value)

theorem tubeKeeps_iff {types : Vector CoinType 8} {g : TubeConfig} {x : Tube} : tubeKeeps types g x s = true ↔ TubeKept types g x s := by
  simp only [tubeKeeps, TubeKept, Bool.or_eq_true, Bool.and_eq_true, decide_eq_true_eq]
  refine or_congr_right (and_congr_right fun _ => ?_)
  cases x.ctype with
  | none => simp
  | some c => simp

theorem sixes_all {f : Fin 6 → Bool} : sixes.all f = true ↔ ∀ i, f i = true := by
  rw [List.all_eq_true]
  exact ⟨fun h i => h i (mem_sixes i), fun h i _ => h i⟩

theorem sixes_any {f : Fin 6 → Bool} : sixes.any f = true ↔ ∃ i, f i = true := by
  rw [List.any_eq_true]
  exact ⟨fun ⟨i, _, h⟩ => ⟨i, h⟩, fun ⟨i, h⟩ => ⟨i, mem_sixes i, h⟩⟩

theorem cashRefusal_closed (closed : s.port.mode ≠ .serviceOpen) : cashRefusal body s = some .protectedReq := if_pos closed

section Open
variable (opened : s.port.mode = .serviceOpen)
include opened

theorem cashRefusal_range (out : cashInRange body = false) : cashRefusal body s = some .range := by
  rw [cashRefusal, if_neg (not_not.2 opened), if_pos out]

section InRange
variable (range : cashInRange body = true)
include range

theorem cashRefusal_conflict (unfit : ¬ UnitFits (cashOf body).unit s) : cashRefusal body s = some .tableConflict := by
  rw [cashRefusal, if_neg (not_not.2 opened), if_neg (by rw [range]; decide), if_pos (not_unitFits.1 unfit)]

section Fits
variable (fits : UnitFits (cashOf body).unit s)
include fits

theorem cashRefusal_state (moved : ∃ i, ¬ TubeKept (cashOf body).types (vget (cashOf body).tubes i) (tube i s) s) :
    cashRefusal body s = some .state := by
  have some : sixes.all (fun i => tubeKeeps (cashOf body).types (vget (cashOf body).tubes i) (tube i s) s) = false := by
    rw [← Bool.not_eq_true, sixes_all]
    simp only [tubeKeeps_iff]
    exact not_forall.2 moved
  rw [cashRefusal, if_neg (not_not.2 opened), if_neg (by rw [range]; decide), if_neg (fun h => not_unitFits.2 h fits), if_pos some]

section Kept
variable (kept : ∀ i, TubeKept (cashOf body).types (vget (cashOf body).tubes i) (tube i s) s)
include kept

theorem cashRefusal_kept : cashRefusal body s =
    if sixes.any (fun i => decide ((vget (cashOf body).tubes i).capacity < (tube i s).count)) then some .range else none := by
  have all : sixes.all (fun i => tubeKeeps (cashOf body).types (vget (cashOf body).tubes i) (tube i s) s) = true :=
    sixes_all.2 fun i => tubeKeeps_iff.2 (kept i)
  rw [cashRefusal, if_neg (not_not.2 opened), if_neg (by rw [range]; decide), if_neg (fun h => not_unitFits.2 h fits),
    if_neg (by rw [all]; decide)]

theorem cashRefusal_capacity (above : ∃ i, (vget (cashOf body).tubes i).capacity < (tube i s).count) :
    cashRefusal body s = some .range := by
  rw [cashRefusal_kept opened range fits kept, if_pos (sixes_any.2 (by simpa using above))]

theorem cashRefusal_none (room : ∀ i, (tube i s).count ≤ (vget (cashOf body).tubes i).capacity) : cashRefusal body s = none := by
  rw [cashRefusal_kept opened range fits kept, if_neg (by rw [sixes_any]; simpa using room)]

end Kept
end Fits
end InRange
end Open

/-- A tube is configured for a coin type that has a value (R70). -/
def TubeUsed (types : Vector CoinType 8) (g : TubeConfig) : Prop := ∃ c, g.ctype = some c ∧ 0 < (vget types c).value

theorem configTube_state (types : Vector CoinType 8) (g : TubeConfig) (x : Tube) :
    (¬ TubeUsed types g → (configTube types g x).state = .disabled) ∧
    (TubeUsed types g → x.state = .disabled → (configTube types g x).state = .active) ∧
    (TubeUsed types g → x.state ≠ .disabled → (configTube types g x).state = x.state) := by
  have used : (match g.ctype with
      | some c => decide (0 < (vget types c).value)
      | none => false) = true ↔ TubeUsed types g := by
    cases h : g.ctype <;> simp [TubeUsed, h]
  refine ⟨fun h => if_neg (used.not.2 h), fun h off => ?_, fun h on => ?_⟩
  · exact (if_pos (used.2 h)).trans (if_pos off)
  · exact (if_pos (used.2 h)).trans (if_neg on)

/-- The streaks go with the configuration they were counted under (R70). -/
theorem configTube_streaks (types : Vector CoinType 8) (g : TubeConfig) (x : Tube) :
    (x.ctype = g.ctype → x.perStep = g.perStep → x.tolerance = g.tolerance →
      (configTube types g x).doubt = x.doubt ∧ (configTube types g x).clear = x.clear) ∧
    (x.ctype ≠ g.ctype ∨ x.perStep ≠ g.perStep ∨ x.tolerance ≠ g.tolerance →
      (configTube types g x).doubt = 0 ∧ (configTube types g x).clear = 0) := by
  have zero : (decide (g.ctype ≠ x.ctype) || decide (g.perStep ≠ x.perStep) || decide (g.tolerance ≠ x.tolerance)) = true ↔
      x.ctype ≠ g.ctype ∨ x.perStep ≠ g.perStep ∨ x.tolerance ≠ g.tolerance := by
    simp only [Bool.or_eq_true, decide_eq_true_eq, or_assoc, ne_comm]
  refine ⟨fun ctype step tol => ?_, fun h => ⟨if_pos (zero.2 h), if_pos (zero.2 h)⟩⟩
  have same := zero.not.2 (by simp [ctype, step, tol])
  exact ⟨if_neg same, if_neg same⟩

theorem served_tube (busy : Bool) (s : State) (i : Fin 6) : tube i (served busy s) = tube i s := by
  rw [tube, served_tubes]
  rfl

theorem tube_applyCash (t : CashTables) (i : Fin 6) (s : State) :
    tube i (applyCash t s) = configTube t.types (vget t.tubes i) (tube i s) := vget_vtab _ _

end CashConfig

section Tubes
variable {tag : Byte} {k : Nat} {i : Fin 6} {n : Int} {busy : Bool} {s : State} {r : Result}

theorem onTube_congr {f g : Tube → Tube} (h : f (tube i s) = g (tube i s)) : onTube i f s = onTube i g s := by
  simp only [onTube, onChange, vmodify, tube] at h ⊢
  rw [h]

theorem toFin?_none {n k : Nat} (h : n ≤ k) : toFin? n k = none := dif_neg (Nat.not_lt.2 h)

theorem execTubeAdjust_refused (h : takes (.tubeAdjust tag k n busy) s = true) (refused : adjustRefusal (toFin? 6 k) n s = .error r) :
    exec (.tubeAdjust tag k n busy) s = .next (answeredOnly 1 tag 8 r .empty (takeFrame s)) := by
  show execTubeAdjust _ _ _ _ _ = _
  rw [execTubeAdjust, request_taken h, show adjustRefusal (toFin? 6 k) n (takeFrame s) = .error r from refused]
  rfl

/-- A tube adjusted to a count (R68). -/
def tubeAdjusted (n : Int) (count : Nat) (x : Tube) : Tube :=
  { x with
    count := count, doubt := 0, clear := 0,
    added := x.added + BitVec.ofNat 32 n.toNat,
    removed := x.removed + BitVec.ofNat 32 (-n).toNat }

theorem adjustTube_eq (n : Int) (x : Tube) : adjustTube n x = tubeAdjusted n (x.count + n).toNat x := by
  have added : (if 0 < n then add32 x.added n.toNat else x.added) = x.added + BitVec.ofNat 32 n.toNat := by
    split
    · rfl
    · rw [show n.toNat = 0 by omega]
      simp
  have removed : (if n < 0 then add32 x.removed (-n).toNat else x.removed) = x.removed + BitVec.ofNat 32 (-n).toNat := by
    split
    · rfl
    · rw [show (-n).toNat = 0 by omega]
      simp
  rw [adjustTube, added, removed]
  rfl

theorem execTubeAdjust_taken (h : takes (.tubeAdjust tag i.val n busy) s = true) (passes : adjustRefusal (some i) n s = .ok i) :
    exec (.tubeAdjust tag i.val n busy) s = .next (settle busy (masks none
      (enqueue ⟨1, tag, 8, .ok, .count ((tube i s).count + n).toNat, none⟩
        (append none (.tubeAdjust i n ((tube i s).count + n).toNat)
          (onTube i (tubeAdjusted n ((tube i s).count + n).toNat) (takeFrame s)))))) := by
  have adjusted : onTube i (adjustTube n) (takeFrame s) = onTube i (tubeAdjusted n ((tube i s).count + n).toNat) (takeFrame s) :=
    onTube_congr (adjustTube_eq n _)
  show execTubeAdjust _ _ _ _ _ = _
  rw [execTubeAdjust, request_taken h, toFin?_val, show adjustRefusal (some i) n (takeFrame s) = .ok i from passes]
  simp only [adjusted, tube_onTube_self]
  rfl

theorem adjustRefusal_closed {t : Option (Fin 6)} (closed : s.port.mode ≠ .serviceOpen) :
    adjustRefusal t n s = .error .protectedReq := if_pos closed

section Adjust
variable (opened : s.port.mode = .serviceOpen)
include opened

theorem adjustRefusal_none : adjustRefusal none n s = .error .range := if_neg (not_not.2 opened)

theorem adjustRefusal_number (out : ¬ (-250 ≤ n ∧ n ≤ 250 ∧ n ≠ 0)) : adjustRefusal (some i) n s = .error .range := by
  rw [adjustRefusal, if_neg (not_not.2 opened)]
  exact if_pos (by omega)

variable (range : -250 ≤ n ∧ n ≤ 250 ∧ n ≠ 0)
include range

theorem adjustRefusal_disabled (off : (tube i s).state = .disabled) : adjustRefusal (some i) n s = .error .state := by
  rw [adjustRefusal, if_neg (not_not.2 opened)]
  exact (if_neg (by omega)).trans (if_pos off)

variable (used : (tube i s).state ≠ .disabled)
include used

theorem adjustRefusal_room (full : ¬ (0 ≤ (tube i s).count + n ∧ (tube i s).count + n ≤ (tube i s).capacity)) :
    adjustRefusal (some i) n s = .error .range := by
  rw [adjustRefusal, if_neg (not_not.2 opened)]
  exact (if_neg (by omega)).trans ((if_neg used).trans (if_pos (by omega)))

variable (room : 0 ≤ (tube i s).count + n ∧ (tube i s).count + n ≤ (tube i s).capacity)
include room

theorem adjustRefusal_held (less : n < 0)
    (held : (tube i s).count + n < ((vget (resv .A s).reserved i : Nat) : Int) + (vget (resv .B s).reserved i : Nat)) :
    adjustRefusal (some i) n s = .error .busy := by
  rw [adjustRefusal, if_neg (not_not.2 opened)]
  exact (if_neg (by omega)).trans ((if_neg used).trans ((if_neg (by omega)).trans (if_pos (by omega))))

theorem adjustRefusal_ok
    (free : n < 0 → ((vget (resv .A s).reserved i : Nat) : Int) + (vget (resv .B s).reserved i : Nat) ≤ (tube i s).count + n) :
    adjustRefusal (some i) n s = .ok i := by
  rw [adjustRefusal, if_neg (not_not.2 opened)]
  exact (if_neg (by omega)).trans ((if_neg used).trans ((if_neg (by omega)).trans (if_neg (by omega))))

end Adjust

theorem execTubeClear_closed (closed : s.port.mode ≠ .serviceOpen) (h : takes (.tubeClear tag k busy) s = true) :
    exec (.tubeClear tag k busy) s = .next (answeredOnly 1 tag 9 .protectedReq .empty (takeFrame s)) := by
  show execTubeClear _ _ _ _ = _
  rw [execTubeClear, request_taken h, if_pos (show (takeFrame s).port.mode ≠ _ from closed)]
  rfl

section Clear
variable (opened : s.port.mode = .serviceOpen)
include opened

theorem execTubeClear_range (out : 6 ≤ k) (h : takes (.tubeClear tag k busy) s = true) :
    exec (.tubeClear tag k busy) s = .next (answeredOnly 1 tag 9 .range .empty (takeFrame s)) := by
  show execTubeClear _ _ _ _ = _
  rw [execTubeClear, request_taken h, if_neg (not_not.2 (show (takeFrame s).port.mode = _ from opened)), toFin?_none out]
  rfl

theorem execTubeClear_state (live : (tube i s).state ≠ .jammed) (h : takes (.tubeClear tag i.val busy) s = true) :
    exec (.tubeClear tag i.val busy) s = .next (answeredOnly 1 tag 9 .state .empty (takeFrame s)) := by
  show execTubeClear _ _ _ _ = _
  rw [execTubeClear, request_taken h, if_neg (not_not.2 (show (takeFrame s).port.mode = _ from opened)), toFin?_val]
  dsimp only
  rw [if_pos (show (tube i (takeFrame s)).state ≠ _ from live)]
  rfl

theorem execTubeClear_taken (stuck : (tube i s).state = .jammed) (h : takes (.tubeClear tag i.val busy) s = true) :
    exec (.tubeClear tag i.val busy) s = .next (settle busy (masks none (enqueue ⟨1, tag, 9, .ok, .empty, none⟩
      (onTube i (fun x => { x with state := .active, doubt := 0, clear := 0 }) (takeFrame s))))) := by
  show execTubeClear _ _ _ _ = _
  rw [execTubeClear, request_taken h, if_neg (not_not.2 (show (takeFrame s).port.mode = _ from opened)), toFin?_val]
  dsimp only
  rw [if_neg (not_not.2 (show (tube i (takeFrame s)).state = _ from stuck))]
  rfl

end Clear
end Tubes
end Sys2Proof.Machine

namespace Sys2Proof.Proofs
open Sys2Proof Sys2Proof.Machine

/-- Settles O27: the checks in order, then what the tables that replace the old ones make of each tube. -/
theorem cashConfigReplacesTables : Obligations.CashConfigReplacesTables := by
  intro tag body busy s h refused g used steps keeps
  refine ⟨execCashConfig_badLength h, fun length closed => execCashConfig_refused h length (cashRefusal_closed closed),
    fun length opened => ⟨fun out => execCashConfig_refused h length (cashRefusal_range opened out),
      fun range => ⟨?_, ?_, ?_, ?_⟩⟩⟩
  · exact fun unfit => execCashConfig_refused h length (cashRefusal_conflict opened range unfit)
  · exact fun fits moved => execCashConfig_refused h length (cashRefusal_state opened range fits moved)
  · exact fun fits kept above => execCashConfig_refused h length (cashRefusal_capacity opened range fits kept above)
  · intro fits kept room
    have configured (i : Fin 6) : tube i (served busy (mgmt tag 7 .ok .empty (applyCash (cashOf body) (takeFrame s)))) =
        configTube (cashOf body).types (g i) (tube i s) := (served_tube busy _ i).trans (tube_applyCash _ i _)
    refine ⟨_, execCashConfig_taken h length (cashRefusal_none opened range fits kept room), served_cash busy _, fun i => ?_,
      served_box busy _, ?_, served_fare busy _, served_sales busy _, served_cards busy _, served_journal busy _⟩
    · obtain ⟨off, on, same⟩ := configTube_state (cashOf body).types (g i) (tube i s)
      obtain ⟨streaks, zero⟩ := configTube_streaks (cashOf body).types (g i) (tube i s)
      rw [configured i]
      exact ⟨rfl, rfl, rfl, rfl, rfl, rfl, rfl, rfl, rfl, rfl, rfl, off, on, same, streaks, zero⟩
    · exact (congrArg (fun u => u.change.resv) (served_unserved busy _) :)

/-- Settles O28: the checks of both requests in order, and the tube that a request which passes them changes. -/
theorem tubeAdjustAndClear : Obligations.TubeAdjustAndClear := by
  refine ⟨fun tag k i n busy s => ?_, fun tag k i busy s => ?_⟩
  · intro refused sum held inRange room
    have named {r : Result} (no : adjustRefusal (some i) n s = .error r) : refused i.val r :=
      fun h => execTubeAdjust_refused h (by rw [toFin?_val]; exact no)
    exact ⟨fun closed h => execTubeAdjust_refused h (adjustRefusal_closed closed), fun opened =>
      ⟨fun out h => execTubeAdjust_refused h (by rw [toFin?_none out]; exact adjustRefusal_none opened),
        fun out => named (adjustRefusal_number opened out),
        fun range off => named (adjustRefusal_disabled opened range off),
        fun range used full => named (adjustRefusal_room opened range used full),
        fun range used room less short => named (adjustRefusal_held opened range used room less short),
        fun range used room free h => execTubeAdjust_taken h (adjustRefusal_ok opened range used room free)⟩⟩
  · exact ⟨execTubeClear_closed, fun opened =>
      ⟨execTubeClear_range opened, execTubeClear_state opened, execTubeClear_taken opened⟩⟩

end Sys2Proof.Proofs

namespace Sys2Proof.Machine

/-! ### PAY in coins (R48, R107, R108, R135) -/

section Pay
variable {tag : Byte} {p : Position} {pay : Payment} {q : QuoteReq} {r : QuoteResult} {busy : Bool} {s : State}

theorem execPay_range (h : takes (.pay tag none pay busy) s = true) :
    exec (.pay tag none pay busy) s = .next (answeredOnly 0 tag 2 .range .empty (takeFrame s)) := by
  show execPay _ _ _ _ _ = _
  rw [execPay, request_taken h]
  rfl

theorem execPay_refused {c : Result} (h : takes (.pay tag (some p) pay busy) s = true) (refused : payRefusal p pay s = some c) :
    exec (.pay tag (some p) pay busy) s = .next (answeredOnly 0 tag 2 c .empty (takeFrame s)) := by
  show execPay _ _ _ _ _ = _
  rw [execPay, request_taken h]
  dsimp only
  rw [show payRefusal p pay (takeFrame s) = some c from refused]
  rfl

theorem execPay_taken (h : takes (.pay tag (some p) pay busy) s = true) (passes : payRefusal p pay s = none) :
    exec (.pay tag (some p) pay busy) s =
      .next (settle busy (masks none (payTaken p pay (enqueue ⟨0, tag, 2, .ok, .empty, none⟩ (takeFrame s))))) := by
  show execPay _ _ _ _ _ = _
  rw [execPay, request_taken h]
  dsimp only
  rw [show payRefusal p pay (takeFrame s) = none from passes]
  rfl

/-! #### The checks in order (R107) -/

theorem printerDown_iff : printerDown s = true ↔ ¬ PrinterServes s := by
  simp only [printerDown, PrinterServes, online, Bool.or_eq_true, Bool.not_eq_true', decide_eq_true_eq, decide_eq_false_iff_not]
  tauto

theorem freeSlots_none : freeSlots s = [] ↔ ∀ i, slotOf i s ≠ .free := by
  simp only [freeSlots, List.filter_eq_nil_iff, decide_eq_true_eq]
  exact ⟨fun h i => h i (mem_eights i), fun h i _ => h i⟩

theorem payRefusal_state (h : (sess p s).state ≠ .quoted) : payRefusal p pay s = some .state := if_pos h

theorem payRefusal_mode (quoted : (sess p s).state = .quoted) (h : s.port.mode ≠ .inService) :
    payRefusal p pay s = some .outOfService := (if_neg (not_not.2 quoted)).trans (if_pos h)

/-- A quote that can be paid (R107). -/
structure Quoted (p : Position) (q : QuoteReq) (r : QuoteResult) (s : State) : Prop where
  state : (sess p s).state = .quoted
  mode : s.port.mode = .inService
  req : (sess p s).req = some q
  result : (sess p s).result = some r

theorem Quoted.priceOf (h : Quoted p q r s) : priceOf (sess p s) = r.price := by simp only [Machine.priceOf, h.result]

theorem Quoted.mediumOf (h : Quoted p q r s) : mediumOf (sess p s) = q.medium := by simp only [Machine.mediumOf, h.req]

theorem Quoted.payRefusal (h : Quoted p q r s) (pay : Payment) : payRefusal p pay s =
    if pay = .storedValue ∧ q.payment = .coins then some .state
    else if pay = .coins ∧ 0 < r.price ∧ online (valAddr p) s = false then some .noCoins
    else if q.medium = .paper ∧ (printerDown s = true ∨ freeSlots s = []) then some .printerUnavailable
    else none := by
  rw [Machine.payRefusal, if_neg (not_not.2 h.state), if_neg (not_not.2 h.mode), h.priceOf, h.mediumOf, h.req]

theorem payRefusal_payment (h : Quoted p q r s) (stored : pay = .storedValue) (coins : q.payment = .coins) :
    payRefusal p pay s = some .state := by
  rw [h.payRefusal, if_pos ⟨stored, coins⟩]

section Named
variable (h : Quoted p q r s) (named : pay = .storedValue → q.payment = .storedValue)
include h named

theorem payRefusal_named : payRefusal p pay s =
    if pay = .coins ∧ 0 < r.price ∧ online (valAddr p) s = false then some .noCoins
    else if q.medium = .paper ∧ (printerDown s = true ∨ freeSlots s = []) then some .printerUnavailable
    else none := by
  rw [h.payRefusal, if_neg]
  rintro ⟨stored, coins⟩
  cases (named stored).symm.trans coins

theorem payRefusal_noCoins (coins : pay = .coins) (price : 0 < r.price) (off : (periph (valAddr p) s).state ≠ .online) :
    payRefusal p pay s = some .noCoins := by
  rw [payRefusal_named h named, if_pos ⟨coins, price, decide_eq_false off⟩]

variable (coinsOn : pay = .coins → 0 < r.price → (periph (valAddr p) s).state = .online)
include coinsOn

theorem payRefusal_checked : payRefusal p pay s =
    if q.medium = .paper ∧ (printerDown s = true ∨ freeSlots s = []) then some .printerUnavailable else none := by
  rw [payRefusal_named h named, if_neg]
  rintro ⟨coins, price, off⟩
  exact of_decide_eq_false off (coinsOn coins price)

theorem payRefusal_printer (paper : q.medium = .paper) (down : ¬ PrinterServes s ∨ ∀ i, slotOf i s ≠ .free) :
    payRefusal p pay s = some .printerUnavailable := by
  rw [← printerDown_iff, ← freeSlots_none] at down
  rw [payRefusal_checked h named coinsOn, if_pos ⟨paper, down⟩]

theorem payRefusal_none (serves : q.medium = .paper → PrinterServes s ∧ ∃ i, slotOf i s = .free) : payRefusal p pay s = none := by
  rw [payRefusal_checked h named coinsOn, if_neg]
  rintro ⟨paper, down⟩
  obtain ⟨up, i, free⟩ := serves paper
  rw [printerDown_iff, freeSlots_none] at down
  exact down.elim (fun h => h up) (fun h => h i free)

end Named

/-! #### The session that collects (R48, R108) -/

theorem onSess_congr {f g : Session → Session} (h : f (sess p s) = g (sess p s)) : onSess p f s = onSess p g s := by
  cases p <;> simp only [onSess, onSales, Pair.modify, sess] at h ⊢ <;> rw [h]

theorem onSess_onSess (p : Position) (f g : Session → Session) (s : State) :
    onSess p f (onSess p g s) = onSess p (fun x => f (g x)) s := by
  cases p <;> rfl

/-- The record of a session that begins to collect the price r (R108). -/
def collects (r : QuoteResult) (inactivity : Nat) (x : Session) : Session :=
  { x with state := .collecting, due := r.cash, credit := 0, inactivity := some inactivity }

/-- A PAY in coins is noted, and its sale's slot reserved (R108, R135). -/
def coinsPay (p : Position) (s : State) : State :=
  reserveSlot p (onSess p (fun x => { x with quoteLife := none, payment := some .coins, due := 0 }) s)

/-- COLLECTING is entered with nothing covered (R48, R108). -/
theorem payTaken_coins (result : (sess p (coinsPay p s)).result = some r) (priced : r.free = false) :
    payTaken p .coins s = notify 0 (.session p .collecting .pay)
      (startCover p (onSess p (collects r s.sales.timing.inactivity) (coinsPay p s))) := by
  have entered {f : Session → Session} (t : State) : enter p .collecting .pay (startCover p (onSess p f t)) =
      notify 0 (.session p .collecting .pay) (startCover p (onSess p (fun x => { f x with state := .collecting }) t)) := by
    cases p <;> rfl
  have begun : isFree (sess p (coinsPay p s)) = false := by simp only [isFree, result, priced]
  unfold payTaken
  dsimp only
  rw [show reserveSlot p _ = coinsPay p s from rfl, if_neg (by rw [begun]; decide), entered]
  refine congrArg (fun t => notify 0 _ (startCover p t)) (onSess_congr ?_)
  simp only [collects, cashDue, result]

/-- The record of a session whose PAY in coins is noted. -/
def coinsNoted (x : Session) : Session := { x with quoteLife := none, payment := some .coins, due := 0 }

theorem coinsPay_card (card : mediumOf (sess p s) = .card) : coinsPay p s = onSess p coinsNoted s :=
  if_pos (by rw [sess_onSess_self]; exact card)

/-- A PAPER sale has the lowest FREE slot reserved (R135). -/
theorem coinsPay_paper {i : Fin 8} (paper : mediumOf (sess p s) = .paper) (free : slotOf i s = .free)
    (low : ∀ k : Fin 8, k.val < i.val → slotOf k s ≠ .free) :
    coinsPay p s = onSess p (fun x => { coinsNoted x with slot := some i }) (setSlot i (.reserved p) s) := by
  obtain ⟨rest, lowest⟩ := freeSlots_cons (s := onSess p coinsNoted s) free low
  have noted : mediumOf (sess p (onSess p coinsNoted s)) = .paper := by rw [sess_onSess_self]; exact paper
  show reserveSlot p (onSess p coinsNoted s) = _
  rw [reserveSlot, if_neg (by rw [noted]; decide), lowest]
  exact onSess_onSess p _ coinsNoted (setSlot i (.reserved p) s)

theorem coinsPay_result (p : Position) (s : State) : (sess p (coinsPay p s)).result = (sess p s).result := by
  unfold coinsPay reserveSlot
  split
  · rw [sess_onSess_self]
  · split
    · rw [sess_onSess_self]
    · cases p <;> rfl

/-- A PAY in coins that passes its checks (R108). -/
theorem execPay_coins (h : takes (.pay tag (some p) .coins busy) s = true) (passes : payRefusal p .coins s = none)
    (result : (sess p s).result = some r) (priced : r.free = false) :
    exec (.pay tag (some p) .coins busy) s = .next (settle busy (masks none (notify 0 (.session p .collecting .pay)
      (startCover p (onSess p (collects r s.sales.timing.inactivity)
        (coinsPay p (enqueue ⟨0, tag, 2, .ok, .empty, none⟩ (takeFrame s)))))))) := by
  rw [execPay_taken h passes, payTaken_coins (r := r) _ priced]
  · rfl
  · rw [coinsPay_result]
    exact result

end Pay
end Sys2Proof.Machine

namespace Sys2Proof.Proofs
open Sys2Proof Sys2Proof.Machine

/-- Settles O17: the session that a PAY in coins leaves for each medium, and the checks of a PAY in order. -/
theorem payEntersCollecting : Obligations.PayEntersCollecting := by
  refine ⟨fun tag p q r busy s h quoted mode req result free on => ?_, fun tag p pay q r busy s => ⟨execPay_range, fun h => ?_⟩⟩
  · intro paid resv
    have quote : Quoted p q r s := ⟨quoted, mode, req, result⟩
    have passes := payRefusal_none (pay := .coins) quote (fun h => by cases h) fun _ _ => on
    refine ⟨fun card => ?_, fun i paper serves slot low => ?_⟩
    · rw [execPay_coins h (passes fun paper => by cases card.symm.trans paper) result free,
        coinsPay_card (s := enqueue _ (takeFrame s)) (quote.mediumOf.trans card), onSess_onSess]
      cases p <;> rfl
    · rw [execPay_coins h (passes fun _ => ⟨serves, i, slot⟩) result free,
        coinsPay_paper (s := enqueue _ (takeFrame s)) (quote.mediumOf.trans paper) slot low, onSess_onSess]
      cases p <;> rfl
  · intro refused serves named
    have quote (h : serves) : Quoted p q r s := ⟨h.1, h.2.1, h.2.2.1, h.2.2.2⟩
    exact ⟨fun other => execPay_refused h (payRefusal_state other),
      fun quoted closed => execPay_refused h (payRefusal_mode quoted closed),
      fun on stored coins => execPay_refused h (payRefusal_payment (quote on) stored coins),
      fun on coins price off => execPay_refused h (payRefusal_noCoins (quote on.1) on.2 coins price off),
      fun on coinsOn paper down => execPay_refused h (payRefusal_printer (quote on.1) on.2 coinsOn paper down)⟩

end Sys2Proof.Proofs

namespace Sys2Proof.Machine

/-! ### CANCEL and the end of a session (R51, R78, R88, R110, R121, R124) -/

section Cancel
variable {tag : Byte} {p : Position} {r : EndReason} {busy : Bool} {s t : State}

theorem endRead_eq (p : Position) (s : State) : endRead p s = { s with
    cards := { s.cards with reads := s.cards.reads.set p .none }
    link := { s.link with cardReady := s.link.cardReady.filter (fun f =>
      !(decide (f.pos = p) && isReadCmd f.cmd)) } } := rfl

theorem releaseResv_eq (p : Position) (s : State) : releaseResv p s =
    { s with change := { s.change with resv := s.change.resv.set p Reserve.start } } := by
  cases p <;> rfl

theorem releaseSlot_eq (p : Position) (s : State) : releaseSlot p s = { s with
    print := { s.print with slots := vmap (fun x => if x = .reserved p then .free else x) s.print.slots } } := rfl

theorem disownAll_eq (o : Position × Nat) (s : State) : disownAll o s = { s with
    cards := { s.cards with
      entries := vmap (fun x =>
        if x.owner = some o then
          (if x.state = .reserved then PendingEntry.free else { x with owner := none })
        else x) s.cards.entries } } := rfl

theorem onSess_idle (p : Position) (s : State) : onSess p (fun y => Session.idle y.serial) s =
    { s with sales := { s.sales with sess := s.sales.sess.set p (Session.idle (sess p s).serial) } } := by
  cases p <;> rfl

/-- What the end of a session releases (R51, R78, R88, R124). -/
theorem release_eq (p : Position) (r : EndReason) (s : State) : release p r s = notify 0 (.session p .idle (.ended r))
    { s with
      sales := { s.sales with sess := s.sales.sess.set p (Session.idle (sess p s).serial) }
      change := { s.change with resv := s.change.resv.set p Reserve.start }
      print := { s.print with slots := vmap (fun x => if x = .reserved p then .free else x) s.print.slots }
      cards := { s.cards with
        entries := vmap (fun x =>
          if x.owner = some (p, (sess p s).serial) then
            (if x.state = .reserved then PendingEntry.free else { x with owner := none })
          else x) s.cards.entries
        reads := s.cards.reads.set p .none }
      link := { s.link with cardReady := s.link.cardReady.filter (fun f =>
        !(decide (f.pos = p) && isReadCmd f.cmd)) } } := by
  unfold release
  simp only
  rw [onSess_idle, disownAll_eq, releaseSlot_eq, releaseResv_eq, endRead_eq]
  rfl

/-- A session that collects is refunded once its list has moved (R121). -/
theorem enterRefund_collecting (collecting : (sess p s).state = .collecting) :
    enterRefund p r s = listMoved p (refundWaits p r s) := by
  unfold enterRefund
  rw [if_pos collecting]
  refine congrArg (listMoved p) ?_
  cases p <;> rfl

theorem currentList_refundWaits (collecting : (sess p s).state = .collecting) :
    currentList p (refundWaits p r s) = currentList p s := by
  have session : sess p (refundWaits p r s) = { sess p s with
      state := .refunding, stage := .refundWait, endReason := some r, refunded := true,
      inactivity := none, tearWindow := none } := by cases p <;> rfl
  refine List.filter_congr fun e _ => ?_
  rw [current, current, session, collecting]
  rfl

theorem cancelCollecting_empty (credit : (sess p s).credit = 0) (none : pledged p s = 0) :
    cancelCollecting p r s = release p r s := if_pos ⟨credit, none⟩

theorem cancelCollecting_refunds (collecting : (sess p s).state = .collecting) (some : 0 < pledged p s) :
    cancelCollecting p r s = listMoved p (refundWaits p r s) :=
  (if_neg fun h => some.ne' h.2).trans (enterRefund_collecting collecting)

/-- While a coin is outstanding its refund waits (R121). -/
theorem cancelCollecting_waits (collecting : (sess p s).state = .collecting) (out : currentList p s ≠ [])
    (some : 0 < pledged p s) : cancelCollecting p r s = refundWaits p r s := by
  rw [cancelCollecting_refunds collecting some, listMoved_waits (by rwa [currentList_refundWaits collecting])]

theorem execCancel_range (h : takes (.cancel tag none busy) s = true) :
    exec (.cancel tag none busy) s = .next (answeredOnly 0 tag 3 .range .empty (takeFrame s)) := by
  show execCancel _ _ _ _ = _
  rw [execCancel, request_taken h]
  rfl

section Taken
variable (h : takes (.cancel tag (some p) busy) s = true)
include h

theorem execCancel_taken : exec (.cancel tag (some p) busy) s = .next (finish (cancelTaken p tag busy (takeFrame s))) := by
  show execCancel _ _ _ _ = _
  rw [execCancel, request_taken h]

theorem execCancel_idle (idle : (sess p s).state = .idle) :
    exec (.cancel tag (some p) busy) s = .next (answeredOnly 0 tag 3 .state .empty (takeFrame s)) := by
  rw [execCancel_taken h, cancelTaken, show (sess p (takeFrame s)).state = .idle from idle]
  rfl

theorem execCancel_late (late : (sess p s).state = .issuing ∨ (sess p s).state = .payingOut ∨ (sess p s).state = .refunding) :
    exec (.cancel tag (some p) busy) s = .next (answeredOnly 0 tag 3 .tooLate .empty (takeFrame s)) := by
  have same : sess p (takeFrame s) = sess p s := rfl
  rw [execCancel_taken h, cancelTaken, same]
  obtain state | state | state := late <;> rw [state] <;> rfl

theorem execCancel_reading (reading : (sess p s).state = .reading) : exec (.cancel tag (some p) busy) s =
    .next (settle busy (masks none (release p .cancelled (enqueue ⟨0, (sess p s).tag, 1, .state, .empty, none⟩
      (enqueue ⟨0, tag, 3, .ok, .empty, none⟩ (takeFrame s)))))) := by
  rw [execCancel_taken h, cancelTaken, show (sess p (takeFrame s)).state = .reading from reading]
  rfl

theorem execCancel_quoted (quoted : (sess p s).state = .quoted) : exec (.cancel tag (some p) busy) s =
    .next (settle busy (masks none (release p .cancelled (enqueue ⟨0, tag, 3, .ok, .empty, none⟩ (takeFrame s))))) := by
  rw [execCancel_taken h, cancelTaken, show (sess p (takeFrame s)).state = .quoted from quoted]
  rfl

theorem execCancel_collecting (collecting : (sess p s).state = .collecting) : exec (.cancel tag (some p) busy) s =
    .next (served busy (cancelCollecting p .cancelled (enqueue ⟨0, tag, 3, .ok, .empty, none⟩ (takeFrame s)))) := by
  rw [execCancel_taken h, cancelTaken, show (sess p (takeFrame s)).state = .collecting from collecting]
  rfl

end Taken
end Cancel
end Sys2Proof.Machine

namespace Sys2Proof.Proofs
open Sys2Proof Sys2Proof.Machine

/-- Settles O20: the release in one equation, then a CANCEL in each state of its session. -/
theorem cancelByState : Obligations.CancelByState := by
  refine ⟨release_eq, fun tag p busy s => ⟨execCancel_range, fun h => ?_⟩⟩
  intro ok now ended
  refine ⟨execCancel_idle h, execCancel_late h, execCancel_reading h, execCancel_quoted h, fun collecting credit none => ?_,
    fun collecting out some => ?_⟩
  · rw [show ended ok = .next (served busy (release p .cancelled ok)) from rfl,
      ← cancelCollecting_empty (p := p) (s := ok) credit none]
    exact execCancel_collecting h collecting
  · rw [show now = _ from execCancel_collecting h collecting, cancelCollecting_waits (s := ok) collecting out some]
    rfl

end Sys2Proof.Proofs

namespace Sys2Proof.Machine

/-! ### A DISPENSE on its way (R57, R174) -/

section Dispensing
variable {s : State} {r : ReadyFrame}

theorem level1_frame (h : r ∈ level1 s) : (∃ p q v, r.frame = .verdict p q v) ∨ ∃ p m, r.frame = .inhibit p m := by
  obtain h | h := List.mem_append.1 h
  · obtain ⟨v, -, rfl⟩ := List.mem_map.1 h
    exact .inl ⟨_, _, _, rfl⟩
  · simp only [List.mem_filterMap, Option.map_eq_some_iff] at h
    obtain ⟨q, -, x, -, rfl⟩ := h
    exact .inr ⟨_, _, rfl⟩

/-- A DISPENSE that is chosen is the one handed over, not sent before (R57). -/
theorem choose_dispense {p : Position} {t : Fin 6} {n : Nat} (h : choose s = some r) (frame : r.frame = .dispense p t n) :
    ∃ d, s.change.dispense = some d ∧ d.sent = false := by
  obtain h | h | h | h | h | h := choose_level h
  · obtain ⟨_, _, _, e⟩ | ⟨_, _, e⟩ := level1_frame h <;> rw [e] at frame <;> cases frame
  · unfold level2 at h
    split at h
    · rename_i d out
      split at h
      · cases h
      · exact ⟨d, out, Bool.not_eq_true _ ▸ ‹¬ d.sent = true›⟩
    · cases h
  · obtain ⟨c, -, rfl⟩ := List.mem_map.1 h
    cases frame
  · obtain ⟨_, _, e⟩ | ⟨_, e⟩ := level4_frame h <;> rw [e] at frame <;> cases frame
  · obtain ⟨_, _, e⟩ | ⟨_, e⟩ := level5_frame h <;> rw [e] at frame <;> cases frame
  · simp only [level6, Option.map_eq_some_iff] at h
    obtain ⟨f, -, rfl⟩ := h
    cases frame

/-- The DISPENSE is as it was, or has gone on the line for the first time. -/
def DispenseSent (x y : Option Dispense) : Prop :=
  y = x ∨ ∃ d, x = some d ∧ d.sent = false ∧ y = some { d with sent := true, acked := false }

theorem unready_dispense (chosen : choose s = some r) : DispenseSent s.change.dispense (unready r s).change.dispense := by
  unfold unready
  split
  case h_5 frame =>
    obtain ⟨d, out, unsent⟩ := choose_dispense chosen frame
    exact .inr ⟨d, out, unsent, congrArg (Option.map _) out⟩
  all_goals exact .inl (by simp only [onPeriph_change, onLink_change, onProgress_change])

theorem handOut_dispense (busy : Bool) (s : State) : DispenseSent s.change.dispense (handOut busy s).change.dispense := by
  unfold handOut
  split
  · split
    · exact .inl rfl
    · split
      · exact .inl rfl
      · split
        · exact .inl (congrArg _ (defer_change _ s))
        · exact unready_dispense ‹_›
  all_goals exact .inl rfl

/-- Serving sends the DISPENSE, or leaves it as it is. -/
theorem served_dispenseSent (busy : Bool) (s : State) : DispenseSent s.change.dispense (served busy s).change.dispense := by
  have sent := handOut_dispense busy (standIn .B (standIn .A (masks none s)))
  rw [standIn_change, standIn_change, masks_change] at sent
  rwa [served, settle, finish_change]

/-- A DISPENSE that is on the line stays as it is. -/
theorem served_dispense_out {busy : Bool} {d : Dispense} (out : s.change.dispense = some d) (sent : d.sent = true) :
    (served busy s).change.dispense = some d := by
  obtain same | ⟨e, out', unsent, -⟩ := served_dispenseSent busy s
  · rw [same, out]
  · cases out.symm.trans out'
    cases sent.symm.trans unsent

theorem DispenseSent.of_some {y : Option Dispense} {d : Dispense} (h : DispenseSent (some d) y) :
    ∃ e, y = some e ∧ e = { d with sent := e.sent, acked := e.acked } := by
  obtain rfl | ⟨e, same, -, rfl⟩ := h
  · exact ⟨d, rfl, rfl⟩
  · cases same
    exact ⟨_, rfl, rfl⟩

theorem DispenseSent.some_of {x : Option Dispense} {d : Dispense} (h : DispenseSent x (some d)) :
    ∃ e, x = some e ∧ d = { e with sent := d.sent, acked := d.acked } := by
  obtain same | ⟨e, out, -, same⟩ := h
  · exact ⟨d, same.symm, rfl⟩
  · cases same
    exact ⟨e, out, rfl⟩

end Dispensing
end Sys2Proof.Machine

namespace Sys2Proof.Machine

/-! ### The record of a close (R125, R143, R156) -/

section Closing
variable {p : Position} {s t : State}

/-- A journal without its print notes. -/
def Journal.unnoted (j : Journal) : Journal :=
  { j with records := j.records.map (fun r => { r with receiptNote := false, slipNote := false }) }

theorem note_unnoted (slip : Bool) (q : Option (BitVec 32)) (s : State) : (note slip q s).journal.unnoted = s.journal.unnoted := by
  unfold note
  split
  · rfl
  · split
    · rw [onJournal_journal, Journal.unnoted, Journal.unnoted, List.map_map]
      congr 2
      funext x
      dsimp only [Function.comp]
      split
      · cases slip <;> rfl
      · rfl
    · rfl

theorem noteJob_unnoted (j : Job) (s : State) : (noteJob j s).journal.unnoted = s.journal.unnoted := by
  unfold noteJob
  split
  · exact note_unnoted _ _ s
  · exact note_unnoted _ _ s
  · rfl
  · rfl

theorem printDone_journal (j : Job) (o : JobOutcome) (s : State) : (printDone j o s).journal = s.journal := by
  unfold printDone
  dsimp only
  split <;> rfl

theorem giveJob_unnoted (k : JobKind) (p : Position) (x : SaleFields) (q : Option (BitVec 32)) (pending : Bool) (s : State) :
    (giveJob k p x q pending s).journal.unnoted = s.journal.unnoted := by
  unfold giveJob
  dsimp only
  split
  · rw [printDone_journal, noteJob_unnoted]
    rfl
  · split
    · rw [jobFailed, printDone_journal, noteJob_unnoted]
      rfl
    · rw [tryBegin_eq]
      rfl

/-- The jobs given at a close may set notes, and leave the records' contents and the totals. -/
theorem closeJobs_unnoted (p : Position) (refund : Bool) (r : EndReason) (q : Option (BitVec 32)) (x : Session) (s : State) :
    (closeJobs p refund r q x s).journal.unnoted = s.journal.unnoted := by
  unfold closeJobs
  extract_lets wants needs given
  have kept : given.journal.unnoted = s.journal.unnoted := by
    show (ite _ _ _ : State).journal.unnoted = _
    split
    · exact giveJob_unnoted ..
    · rfl
  split
  · rw [giveJob_unnoted, kept]
  · exact kept

/-- In t a record of position p has been appended, and the totals have risen by r (R125, R156). -/
def Recorded (p : Position) (body : RecordBody) (r : TotalRise) (s t : State) : Prop :=
  t.journal.records.map Record.body = s.journal.records.map Record.body ++ [body] ∧
  t.journal.records.getLast?.map (fun y => (y.pos, y.seq)) = some (some p, s.journal.next) ∧
  t.journal.running = addRise r s.journal.running

theorem Recorded.of_unnoted {body : RecordBody} {r : TotalRise} {u : State} (h : Recorded p body r s t)
    (same : u.journal.unnoted = t.journal.unnoted) : Recorded p body r s u := by
  obtain ⟨bodies, last, running⟩ := h
  have bodies' (j : Journal) : j.unnoted.records.map Record.body = j.records.map Record.body := by
    rw [Journal.unnoted, List.map_map]
    rfl
  have last' (j : Journal) : j.unnoted.records.getLast?.map (fun y => (y.pos, y.seq)) =
      j.records.getLast?.map (fun y => (y.pos, y.seq)) := by
    rw [Journal.unnoted, List.getLast?_map, Option.map_map]
    rfl
  refine ⟨?_, ?_, ?_⟩
  · rw [← bodies', same, bodies', bodies]
  · rw [← last', same, last', last]
  · rw [← running]
    exact (congrArg Journal.running same :)

theorem append_recorded (body : RecordBody) (r : TotalRise) (room : s.journal.records.length < 512) :
    Recorded p body r s (append (some p) body (addTotals r s)) := by
  have added : (append (some p) body (addTotals r s)).journal = { s.journal with
      records := s.journal.records ++ [commonPart s.fare.clock s.journal.next (some p) body]
      next := s.journal.next + 1
      running := addRise r s.journal.running } := append_journal_room (s := addTotals r s) room
  refine ⟨?_, ?_, ?_⟩ <;> rw [added]
  · rw [List.map_append]
    rfl
  · rw [List.getLast?_append]
    rfl

theorem release_journal (p : Position) (r : EndReason) (s : State) : (release p r s).journal = s.journal := by
  rw [release_eq, notify_journal]

/-- A session refunded at its end leaves a REFUND record (R125). -/
theorem closeSession_refund (refunded : (sess p s).refunded = true) (charged : isFree (sess p s) = false)
    (planned : (sess p s).planned = true) (room : s.journal.records.length < 512) :
    Recorded p (.refund (saleRec ((sess p s).endReason.getD .sold) (sess p s)))
      (saleRise true ((sess p s).endReason.getD .sold) (sess p s)) s (closeSession p s) := by
  have close : closeSession p s = release p ((sess p s).endReason.getD .sold) (closeJobs p true ((sess p s).endReason.getD .sold)
      (nextSeq s) (sess p s) (append (some p) (.refund (saleRec ((sess p s).endReason.getD .sold) (sess p s)))
        (addTotals (saleRise true ((sess p s).endReason.getD .sold) (sess p s)) s))) := by
    unfold closeSession
    simp only [refunded, charged, planned]
    rfl
  refine (append_recorded _ _ room).of_unnoted ?_
  rw [close, release_journal, closeJobs_unnoted]

/-- What a REFUND record's figures add to the totals (R156). -/
theorem addRise_refund (reason : EndReason) (x : Session) (t : Totals) : Raised x.changePaid x.refundPaid (x.owed + x.cardOwed)
    (if x.write = .done then x.loaded else 0) (if payOf x = .storedValue then x.debited - x.creditedBack else 0) none false false
    t (addRise (saleRise true reason x) t) := by
  refine ⟨rfl, rfl, rfl, rfl, rfl, rfl, rfl, fun i => ?_, ?_, ?_⟩
  · simp [addRise, saleRise]
  · simp [addRise, saleRise]
  · simp [addRise, saleRise]

end Closing
end Sys2Proof.Machine

namespace Sys2Proof.Machine

/-! ### A refund planned (R56) -/

section RefundPlan
variable {p : Position} {s t : State} {den : Vector Nat 6} {counts : Plan} {c : Nat}

theorem planOrShort_value (den av : Vector Nat 6) (c : Nat) :
    planValue den (planOrShort den av c).1 + (planOrShort den av c).2 = c := by
  unfold planOrShort
  split
  · exact planFor_value ‹_›
  · exact (allocate_greedy den av none c).2

theorem planValue_cons (den : Vector Nat 6) (e : Fin 6 × Nat) (pl : Plan) :
    planValue den (e :: pl) = e.2 * vget den e.1 + planValue den pl := by
  simp [planValue]

/-- Coins of no value apart, counts whose order of payout is empty are none. -/
theorem planValue_of_orderPlan (h : unpaid (orderPlan den counts) = []) : planValue den counts = 0 := by
  have none (t : Fin 6) (some : vget den t ≠ 0) : planCount counts t = 0 := by
    by_contra pos
    have entry : (t, planCount counts t) ∈ entriesFor den (vget den t) counts :=
      mem_entriesFor.2 ⟨Nat.pos_of_ne_zero pos, rfl, rfl⟩
    have ordered : (t, planCount counts t) ∈ orderPlan den counts :=
      List.mem_flatten.2 ⟨_, List.mem_map.2 ⟨_, ((distinctDenoms_spec den).2 _).2 ⟨some, t, rfl⟩, rfl⟩, entry⟩
    have paid := List.filter_eq_nil_iff.1 h _ ordered
    simp only [decide_eq_true_eq] at paid
    omega
  clear h
  induction counts with
  | nil => rfl
  | cons e es ih =>
    rw [planValue_cons, ih fun t some => by have := none t some; rw [planCount_cons] at this; omega]
    by_cases worth : vget den e.1 = 0
    · rw [worth, Nat.mul_zero]
    · have := none e.1 worth
      rw [planCount_cons, if_pos rfl] at this
      rw [show e.2 = 0 by omega, Nat.zero_mul]

theorem planValue_unpaid_nil {pl : Plan} (h : unpaid pl = []) : planValue den pl = 0 := by
  rw [← planValue_filter]
  exact congrArg (planValue den) h

/-- A refund's plan makes its amount, but for the part that is left (R56). -/
theorem refundPlan_rest (s : State) (p : Position) (c : Nat) : (refundPlan s p c).2 ≤ c ∧
    (unpaid (refundPlan s p c).1 = [] → (refundPlan s p c).2 = c) := by
  unfold refundPlan
  dsimp only
  split
  · rename_i pl found
    refine ⟨Nat.zero_le c, fun none => ?_⟩
    have value : planValue (denoms s) pl = c := planFor_value found
    rw [planValue_unpaid_nil none] at value
    exact value
  · have rest := planOrShort_rest_le (denoms s) (vtab (fun t => availOf s p t - vget (resv p s).cover t)) (c - coverValue s p)
    refine ⟨rest.trans (Nat.sub_le _ _), fun none => ?_⟩
    have value := planValue_of_orderPlan none
    rw [planValue_append] at value
    have cover : planValue (denoms s) (sixes.map (fun t => (t, vget (resv p s).cover t))) = coverValue s p := by
      simp [planValue, coverValue, denoms, Function.comp_def]
    have made := planOrShort_value (denoms s) (vtab (fun t => availOf s p t - vget (resv p s).cover t)) (c - coverValue s p)
    omega

/-! ### A refund begun (R57, R121) -/

/-- The refund's plan is held, and its payout begins. -/
def refundPlanned (p : Position) (s : State) : State :=
  beginPayout p (holdPlan p (refundPlan s p (sess p s).credit).1 ((sess p s).credit - (refundPlan s p (sess p s).credit).2)
    (refundPlan s p (sess p s).credit).2 (onSess p (fun x => { x with further := 0, planned := true, stage := .paying }) s))

theorem payRefund_planned (credit : 0 < (sess p s).credit) : payRefund p s = continuePayout p (refundPlanned p s) :=
  if_neg credit.ne'

theorem refundPlanned_sess (p : Position) (s : State) : sess p (refundPlanned p s) =
    { sess p s with further := 0, planned := true, stage := .paying } := by
  cases p <;> rfl

theorem refundPlanned_resv (p : Position) (s : State) : resv p (refundPlanned p s) = { resv p s with
    mode := .hold
    plan := (refundPlan s p (sess p s).credit).1
    amount := (sess p s).credit - (refundPlan s p (sess p s).credit).2
    short := (refundPlan s p (sess p s).credit).2
    reserved := vtab (planCount (refundPlan s p (sess p s).credit).1)
    cover := vfill 6 0
    paying := true } := by
  cases p <;> rfl

theorem refundPlanned_resv_other (p : Position) (s : State) : resv p.other (refundPlanned p s) = resv p.other s := by
  cases p <;> rfl

theorem refundPlanned_sess_other (p : Position) (s : State) : sess p.other (refundPlanned p s) = sess p.other s := by
  cases p <;> rfl

theorem listMoved_refund (out : currentList p s = []) (stage : (sess p s).stage = .refundWait) : listMoved p s = payRefund p s := by
  unfold listMoved
  rw [if_neg (not_not.2 out), stage]

/-- The refund with the changer not ONLINE: its payout is over, and all of it is owed (R57). -/
def refundOwed (p : Position) (s : State) : State :=
  addOwed p (sess p s).credit (handDispense (closePayout p (refundPlanned p s)))

theorem advancePayout_refund (off : online .changer s = false) :
    advancePayout p (refundPlanned p s) = (closePayout p (refundPlanned p s), some (sess p s).credit) := by
  obtain ⟨rest, nothing⟩ := refundPlan_rest s p (sess p s).credit
  have planned : online .changer (refundPlanned p s) = false := off
  unfold advancePayout
  rw [refundPlanned_resv]
  split
  · rw [nothing ‹_›]
  · dsimp only
    rw [Nat.add_sub_cancel' rest]

theorem handDispense_sales (s : State) : (handDispense s).sales = s.sales := by
  obtain ⟨r, d, e⟩ := handDispense_eq s
  rw [e]
  rfl

theorem refundOwed_sess (p : Position) (s : State) : sess p (refundOwed p s) =
    { sess p s with further := 0, planned := true, stage := .paying, owed := (sess p s).owed + (sess p s).credit } := by
  have given : sess p (handDispense (closePayout p (refundPlanned p s))) = sess p (refundPlanned p s) :=
    sess_of_sales p (handDispense_sales _)
  rw [refundOwed, addOwed, sess_onSess_self, given, refundPlanned_sess]

theorem refundOwed_controlled (p : Position) (s : State) : Controlled p s (refundOwed p s) := by
  have planned : Controlled p s (refundPlanned p s) := (((Controlled.refl p s).andThen (.sess _ s)).andThen (.resv _ _)).andThen (.resv _ _)
  exact ((planned.andThen (.resv _ _)).andThen (.hand _)).andThen (.sess _ _)

/-- With the changer not ONLINE a refund that is planned closes its session at once (R57, R121). -/
theorem payRefund_offline (off : online .changer s = false) (out : currentList p s = []) (credit : 0 < (sess p s).credit) :
    payRefund p s = closeSession p (refundOwed p s) := by
  have ends : currentList p (refundOwed p s) = [] := by
    rw [← out]
    rw [currentList, lane, (refundOwed_controlled p s).coins]
    refine List.filter_congr fun e _ => ?_
    rw [current, current, refundOwed_sess]
  have none : (sess p (refundOwed p s)).further = 0 := by rw [refundOwed_sess]
  rw [payRefund_planned credit, continuePayout, advancePayout_refund off]
  show payoutEnded p _ (handDispense _) = _
  unfold payoutEnded
  dsimp only
  rw [show addOwed p _ (handDispense (closePayout p (refundPlanned p s))) = refundOwed p s from rfl, none, if_neg (lt_irrefl 0), wantEnd,
    if_pos ends]

theorem onResv_onResv (p : Position) (f g : Reserve → Reserve) (s : State) :
    onResv p f (onResv p g s) = onResv p (fun x => f (g x)) s := by
  cases p <;> rfl

/-- A DISPENSE handed to the device link (R57). -/
def dispensing (d : Dispense) (s : State) : State :=
  onChange (fun c => { c with dispense := some d }) (onResv d.pos (fun r => { r with waiting := none }) s)

/-- The only DISPENSE that waits is handed over when none is out (R57). -/
theorem handDispense_sole {w : WaitingDispense} (out : s.change.dispense = none) (mine : (resv p s).waiting = some w)
    (alone : (resv p.other s).waiting = none) : handDispense s = dispensing ⟨p, w.tube, w.count, w.age, false, false⟩ s := by
  unfold handDispense
  rw [out]
  cases p
  · rw [mine, show (resv .B s).waiting = none from alone]
    rfl
  · rw [mine, show (resv .A s).waiting = none from alone]
    rfl

/-- The refund's first DISPENSE goes to the changer (R57, R61). -/
theorem payRefund_begins {i : Fin 6} {k : Nat} {rest : Plan} (credit : 0 < (sess p s).credit) (on : online .changer s = true)
    (plan : planAt s p (sess p s).credit = some ((i, k) :: rest)) (some : 0 < k) (active : (tube i s).state = .active)
    (out : s.change.dispense = none) (alone : (resv p.other s).waiting = none) :
    payRefund p s = dispensing ⟨p, i, min 25 k, now s, false, false⟩ (refundPlanned p s) := by
  have made : refundPlan s p (sess p s).credit = ((i, k) :: rest, 0) := by
    rw [refundPlan, show planFor (denoms s) (avail s p) _ = _ from plan]
  have first : unpaid (resv p (refundPlanned p s)).plan = (i, k) :: unpaid rest := by
    rw [refundPlanned_resv, made]
    exact List.filter_cons_of_pos (decide_eq_true some)
  have payable : entryPayable p (i, k) (refundPlanned p s) = true := by
    rw [entryPayable, refundPlanned_resv, made, vget_vtab, planCount_cons, if_pos rfl]
    simp [show (tube i (refundPlanned p s)).state = .active from active]
  have next : planForNext p (refundPlanned p s) = refundPlanned p s := by
    rw [planForNext, first]
    exact if_pos payable
  have sends : advancePayout p (refundPlanned p s) =
      (handDispense (onResv p (fun x => { x with waiting := Option.some ⟨i, min 25 k, now s⟩ }) (refundPlanned p s)), none) := by
    unfold advancePayout
    rw [first, if_neg (List.cons_ne_nil _ _), if_neg (by rw [show online .changer (refundPlanned p s) = true from on]; decide)]
    dsimp only
    rw [next, first]
    rfl
  rw [payRefund_planned credit, continuePayout, sends]
  show handDispense _ = _
  rw [handDispense_sole (s := onResv p _ (refundPlanned p s)) (w := ⟨i, min 25 k, now s⟩) out (by rw [resv_onResv_self])
    (by rw [resv_onResv_other, refundPlanned_resv_other, alone]), dispensing, dispensing, onResv_onResv]

theorem dispensing_blocks (d : Dispense) (s : State) : (dispensing d s).change.tubes = s.change.tubes ∧
    (dispensing d s).change.box = s.change.box ∧ (dispensing d s).change.dispense = some d ∧ (dispensing d s).journal = s.journal ∧
    (dispensing d s).fare = s.fare ∧ (dispensing d s).cash = s.cash ∧ (dispensing d s).cards = s.cards ∧
    (dispensing d s).sales = s.sales := ⟨rfl, rfl, rfl, rfl, rfl, rfl, rfl, rfl⟩

theorem refundPlanned_blocks (p : Position) (s : State) : (refundPlanned p s).change.tubes = s.change.tubes ∧
    (refundPlanned p s).change.box = s.change.box ∧ (refundPlanned p s).journal = s.journal ∧ (refundPlanned p s).fare = s.fare ∧
    (refundPlanned p s).cash = s.cash ∧ (refundPlanned p s).cards = s.cards := ⟨rfl, rfl, rfl, rfl, rfl, rfl⟩

end RefundPlan

/-! ### A session that collects, refunded (R110, R121) -/

section Refunded
variable {p : Position} {r : EndReason} {s : State}

theorem refundWaits_sess (p : Position) (r : EndReason) (s : State) : sess p (refundWaits p r s) = { sess p s with
    state := .refunding, stage := .refundWait, endReason := some r, refunded := true, inactivity := none, tearWindow := none } := by
  cases p <;> rfl

theorem refundWaits_credit (p : Position) (r : EndReason) (s : State) : (sess p (refundWaits p r s)).credit = (sess p s).credit := by
  rw [refundWaits_sess]

theorem refundWaits_sess_other (p : Position) (r : EndReason) (s : State) : sess p.other (refundWaits p r s) = sess p.other s := by
  cases p <;> rfl

theorem refundWaits_resv_other (p : Position) (r : EndReason) (s : State) :
    resv p.other (refundWaits p r s) = resv p.other s := by
  cases p <;> rfl

/-- The planner finds for p what it found: it looks at the other position's reservations. -/
theorem planAt_refundWaits (p : Position) (r : EndReason) (s : State) (c : Nat) : planAt (refundWaits p r s) p c = planAt s p c := by
  have free : availOf (refundWaits p r s) p = availOf s p := by
    funext i
    rw [availOf, refundWaits_resv_other]
    rfl
  rw [planAt, avail, free]
  rfl

theorem cancelCollecting_refund (collecting : (sess p s).state = .collecting) (out : currentList p s = [])
    (credit : 0 < (sess p s).credit) : cancelCollecting p r s = payRefund p (refundWaits p r s) := by
  rw [cancelCollecting_refunds collecting (Nat.add_pos_left credit _), listMoved_refund (by rwa [currentList_refundWaits collecting])]
  rw [refundWaits_sess]

theorem cancelCollecting_dispenses {i : Fin 6} {k : Nat} {rest : Plan} (h : RefundPayable p i k rest s) :
    cancelCollecting p r s =
      dispensing ⟨p, i, min 25 k, now (refundWaits p r s), false, false⟩ (refundPlanned p (refundWaits p r s)) ∧
    refundPlan (refundWaits p r s) p (sess p s).credit = ((i, k) :: rest, 0) := by
  obtain ⟨collecting, credit, out, on, plan, some, active, idle, alone⟩ := h
  have same := refundWaits_credit p r s
  constructor
  · rw [cancelCollecting_refund collecting out credit]
    exact payRefund_begins (s := refundWaits p r s) (by rwa [same]) (decide_eq_true on)
      (by rw [same, planAt_refundWaits, plan]) some active idle (by rw [refundWaits_resv_other, alone])
  · rw [refundPlan, show planFor (denoms _) (avail (refundWaits p r s) p) _ = _ from (planAt_refundWaits p r s _).trans plan]

/-- The refund begins with its first DISPENSE (R57, R121). -/
theorem cancelCollecting_begins {i : Fin 6} {k : Nat} {rest : Plan} (busy : Bool) (h : RefundPayable p i k rest s) :
    RefundBegun p r i k rest s (served busy (cancelCollecting p r s)) := by
  obtain ⟨begins, made⟩ := cancelCollecting_dispenses (r := r) h
  obtain ⟨tubes, box, dispense, journal, fare, cash, cards, sales⟩ :=
    dispensing_blocks ⟨p, i, min 25 k, now (refundWaits p r s), false, false⟩ (refundPlanned p (refundWaits p r s))
  obtain ⟨tubes', box', journal', fare', cash', cards'⟩ := refundPlanned_blocks p (refundWaits p r s)
  rw [← begins] at tubes box dispense journal fare cash cards sales
  have session (q : Position) : sess q (served busy (cancelCollecting p r s)) = sess q (refundPlanned p (refundWaits p r s)) :=
    sess_of_sales q ((served_sales busy _).trans sales)
  have reserved : resv p (served busy (cancelCollecting p r s)) =
      { resv p (refundPlanned p (refundWaits p r s)) with waiting := none } := by
    rw [served_resv, begins]
    exact resv_onResv_self p _ _
  rw [refundPlanned_resv, refundWaits_credit, made] at reserved
  have sent := served_dispenseSent busy (cancelCollecting p r s)
  rw [dispense] at sent
  obtain ⟨d, out, figures⟩ := sent.of_some
  refine ⟨?_, ?_, congrArg Reserve.mode reserved, congrArg Reserve.plan reserved, congrArg Reserve.amount reserved,
    congrArg Reserve.paying reserved, congrArg Reserve.short reserved, fun t => ?_,
    ⟨d, out, congrArg Dispense.pos figures, congrArg Dispense.tube figures, congrArg Dispense.count figures⟩, ?_, ?_, ?_, ?_, ?_, ?_⟩
  · rw [session, refundPlanned_sess, refundWaits_sess]
  · rw [session, refundPlanned_sess_other, refundWaits_sess_other]
  · rw [reserved]
    exact vget_vtab _ t
  · rw [served_tubes, tubes, tubes']; rfl
  · rw [served_box, box, box']; rfl
  · rw [served_journal, journal, journal']; rfl
  · rw [served_fare, fare, fare']; rfl
  · rw [served_cash, cash, cash']; rfl
  · rw [served_cards, cards, cards']; rfl

/-! #### Owed with the changer not ONLINE -/

/-- The figures of a session whose refund is owed. -/
def owedSession (r : EndReason) (x : Session) : Session :=
  { x with state := .refunding, stage := .paying, endReason := some r, refunded := true, planned := true, further := 0
           inactivity := none, tearWindow := none, owed := x.owed + x.credit }

theorem owed_sess (p : Position) (r : EndReason) (s : State) :
    sess p (refundOwed p (refundWaits p r s)) = owedSession r (sess p s) := by
  rw [refundOwed_sess, refundWaits_sess]
  rfl

theorem handDispense_journal (s : State) : (handDispense s).journal = s.journal := by
  obtain ⟨x, d, e⟩ := handDispense_eq s
  rw [e]
  rfl

theorem refundOwed_journal (p : Position) (s : State) : (refundOwed p s).journal = s.journal := by
  rw [refundOwed, addOwed, onSess_journal, handDispense_journal]
  rfl

/-- Only the other position's DISPENSE can be handed over while p's own does not wait. -/
theorem handDispense_other (mine : (resv p s).waiting = none) : (handDispense s).change.dispense = s.change.dispense ∨
    ∃ d, (handDispense s).change.dispense = some d ∧ d.pos = p.other := by
  unfold handDispense
  dsimp only
  split
  · exact .inl rfl
  · cases p
    · rw [mine]
      split
      · contradiction
      · contradiction
      · exact .inr ⟨_, rfl, rfl⟩
      · exact .inl rfl
    · rw [mine]
      split
      · contradiction
      · exact .inr ⟨_, rfl, rfl⟩
      · contradiction
      · exact .inl rfl

theorem refundOwed_dispense (p : Position) (s : State) : (refundOwed p s).change.dispense = s.change.dispense ∨
    ∃ d, (refundOwed p s).change.dispense = some d ∧ d.pos = p.other :=
  handDispense_other (s := closePayout p (refundPlanned p s)) (by rw [closePayout, resv_onResv_self])

/-- A session that collects closes at once when its refund cannot be paid (R57, R110, R121). -/
theorem cancelCollecting_offline (collecting : (sess p s).state = .collecting) (out : currentList p s = [])
    (credit : 0 < (sess p s).credit) (off : (periph .changer s).state ≠ .online) :
    cancelCollecting p r s = closeSession p (refundOwed p (refundWaits p r s)) := by
  rw [cancelCollecting_refund collecting out credit]
  exact payRefund_offline (decide_eq_false off) (by rwa [currentList_refundWaits collecting]) (by rwa [refundWaits_credit])

theorem isFree_false {x : Session} (charged : ∀ q, x.result = some q → q.free = false) : isFree x = false := by
  unfold isFree
  split
  · exact charged _ ‹_›
  · rfl

/-- Its record owes all of its credit (R125). -/
theorem cancelCollecting_recorded (collecting : (sess p s).state = .collecting) (out : currentList p s = [])
    (credit : 0 < (sess p s).credit) (off : (periph .changer s).state ≠ .online)
    (charged : ∀ q, (sess p s).result = some q → q.free = false) (room : s.journal.records.length < 512) :
    Recorded p (.refund (saleRec r (owedSession r (sess p s)))) (saleRise true r (owedSession r (sess p s))) s
      (cancelCollecting p r s) := by
  have same : (refundOwed p (refundWaits p r s)).journal = s.journal := refundOwed_journal p _
  have closed := closeSession_refund (p := p) (s := refundOwed p (refundWaits p r s))
  rw [owed_sess, same] at closed
  rw [cancelCollecting_offline collecting out credit off]
  have recorded := closed rfl (isFree_false charged) rfl room
  rwa [Recorded, same] at recorded

theorem saleRec_figures (r : EndReason) (x : Session) : (saleRec r x).reason = r ∧ (saleRec r x).credit = x.credit ∧
    (saleRec r x).changePaid = x.changePaid ∧ (saleRec r x).refundPaid = x.refundPaid ∧ (saleRec r x).owed = x.owed ∧
    (saleRec r x).cardOwed = x.cardOwed := by
  unfold saleRec
  dsimp only
  split <;> exact ⟨rfl, rfl, rfl, rfl, rfl, rfl⟩

/-- The refund is owed and recorded (R57, R121, R125, R156). -/
theorem cancelCollecting_owes (busy : Bool) (h : RefundUnpayable p s) : RefundOwed p r s (served busy (cancelCollecting p r s)) := by
  obtain ⟨collecting, credit, out, off, charged, coins, room⟩ := h
  have closes := cancelCollecting_offline (r := r) collecting out credit off
  have change : (cancelCollecting p r s).change = _ := closes ▸ closeSession_change p _
  obtain ⟨bodies, last, running⟩ := cancelCollecting_recorded (r := r) collecting out credit off charged room
  obtain ⟨reason, kept, changePaid, refundPaid, owed, cardOwed⟩ := saleRec_figures r (owedSession r (sess p s))
  refine ⟨?_, ?_, fun d dispense => ?_, saleRec r (owedSession r (sess p s)), ?_, ?_, reason, kept, refundPaid, owed, cardOwed, ?_⟩
  · rw [sess_of_sales p (served_sales busy _), closes]
    exact (closeSession_ends p _).1
  · rw [served_tubes, change]
    exact (refundOwed_controlled p _).tubes
  · have sent := served_dispenseSent busy (cancelCollecting p r s)
    rw [dispense] at sent
    obtain ⟨e, before, same⟩ := sent.some_of
    rw [change] at before
    obtain kept | ⟨e', other, pos⟩ := refundOwed_dispense p (refundWaits p r s)
    · exact .inr ⟨e, kept.symm.trans before, same⟩
    · cases other.symm.trans before
      rw [same]
      exact .inl pos
  · rw [served_journal, bodies]
  · rw [served_journal, last]
  · rw [served_journal, running, changePaid, refundPaid, owed, cardOwed]
    have rise := addRise_refund r (owedSession r (sess p s)) s.journal.running
    rwa [show payOf (owedSession r (sess p s)) = .coins from congrArg (·.getD .coins) coins,
      if_neg (show Payment.coins ≠ .storedValue by decide)] at rise

end Refunded

section CancelRefund
variable {tag : Byte} {p : Position} {busy : Bool} {s : State}

/-- What a CANCEL's refund is looked at for lies outside the port, where its answer goes. -/
theorem cancel_begins {i : Fin 6} {k : Nat} {rest : Plan} (h : takes (.cancel tag (some p) busy) s = true)
    (payable : RefundPayable p i k rest s) :
    ∃ u, exec (.cancel tag (some p) busy) s = .next u ∧ RefundBegun p .cancelled i k rest s u :=
  ⟨_, execCancel_collecting h payable.1, cancelCollecting_begins (s := enqueue _ (takeFrame s)) busy payable⟩

theorem cancel_owes (h : takes (.cancel tag (some p) busy) s = true) (unpayable : RefundUnpayable p s) :
    ∃ u, exec (.cancel tag (some p) busy) s = .next u ∧ RefundOwed p .cancelled s u :=
  ⟨_, execCancel_collecting h unpayable.1, cancelCollecting_owes (s := enqueue _ (takeFrame s)) busy unpayable⟩

end CancelRefund
end Sys2Proof.Machine

namespace Sys2Proof.Proofs
open Sys2Proof Sys2Proof.Machine

/-- Settles O21: the refund's plan is held and its first DISPENSE handed over; without the changer the session closes owing it. -/
theorem cancelPaysTheRefund : Obligations.CancelPaysTheRefund :=
  fun _ _ _ _ h => ⟨fun _ _ _ payable => cancel_begins h payable, cancel_owes h⟩

end Sys2Proof.Proofs

namespace Sys2Proof.Machine

/-! ### The session timers (R78, R102, R103) -/

section Expiries
variable {p : Position} {busy : Bool} {s : State} {f : State → State}

/-- A timer that does not run does not expire (log 4). -/
theorem expiry_idle {state timer : Bool} (idle : state = false ∨ timer = false) : expiry (state && timer) f busy s = .next s := by
  have off : (state && timer) = false := Bool.and_eq_false_iff.2 idle
  simp [expiry, off]

theorem expiry_runs {state timer : Bool} (on : s.power = true) (runs : state = true) (left : timer = true) :
    expiry (state && timer) f busy s = .next (served busy (f s)) :=
  expiry_occurs on (by rw [runs, left]; rfl)

theorem quoteLifeExpiry_ends (on : s.power = true) (quoted : (sess p s).state = .quoted) (runs : (sess p s).quoteLife ≠ none) :
    exec (.quoteLifeExpiry p busy) s = .next (settle busy (masks none (release p .quoteExpired s))) :=
  expiry_runs on (decide_eq_true quoted) (Option.isSome_iff_ne_none.2 runs)

theorem quoteLifeExpiry_idle (idle : (sess p s).state ≠ .quoted ∨ (sess p s).quoteLife = none) :
    exec (.quoteLifeExpiry p busy) s = .next s :=
  expiry_idle (idle.imp decide_eq_false fun off => by rw [off]; rfl)

theorem cardWaitExpiry_ends (on : s.power = true) (reading : (sess p s).state = .reading) (runs : (sess p s).cardWait ≠ none) :
    exec (.cardWaitExpiry p busy) s = .next (settle busy (masks none (release p .noCard
      (enqueue ⟨0, (sess p s).tag, 1, .noCard, .empty, none⟩ s)))) :=
  expiry_runs on (decide_eq_true reading) (Option.isSome_iff_ne_none.2 runs)

theorem cardWaitExpiry_idle (idle : (sess p s).state ≠ .reading ∨ (sess p s).cardWait = none) :
    exec (.cardWaitExpiry p busy) s = .next s :=
  expiry_idle (idle.imp decide_eq_false fun off => by rw [off]; rfl)

/-- The inactivity timer ends a session that collects as a CANCEL does (R103). -/
theorem inactivityExpiry_cancels (on : s.power = true) (collecting : (sess p s).state = .collecting)
    (runs : (sess p s).inactivity ≠ none) : exec (.inactivityExpiry p busy) s = .next (served busy (cancelCollecting p .inactive s)) :=
  expiry_runs on (decide_eq_true collecting) (Option.isSome_iff_ne_none.2 runs)

theorem inactivityExpiry_idle (idle : (sess p s).state ≠ .collecting ∨ (sess p s).inactivity = none) :
    exec (.inactivityExpiry p busy) s = .next s :=
  expiry_idle (idle.imp decide_eq_false fun off => by rw [off]; rfl)

end Expiries
end Sys2Proof.Machine

namespace Sys2Proof.Proofs
open Sys2Proof Sys2Proof.Machine

/-- Settles O38: each timer's expiry by the state it runs in; the inactivity timer cancels, as O20 and O21 say of a CANCEL. -/
theorem sessionTimersEnd : Obligations.SessionTimersEnd := by
  refine fun p busy s on => ⟨quoteLifeExpiry_ends on, quoteLifeExpiry_idle, cardWaitExpiry_ends on, cardWaitExpiry_idle,
    fun collecting runs => ?_, inactivityExpiry_idle⟩
  rw [inactivityExpiry_cancels on collecting runs]
  refine ⟨fun credit none => ?_, fun some out => ?_, fun t k rest payable => ⟨_, rfl, cancelCollecting_begins busy payable⟩,
    fun unpayable => ⟨_, rfl, cancelCollecting_owes busy unpayable⟩⟩
  · rw [cancelCollecting_empty credit none, served]
  · rw [cancelCollecting_waits collecting out some, served]

end Sys2Proof.Proofs

namespace Sys2Proof.Machine

/-! ### The printed counters (R143)

A job is counted as printed where its CUT_DONE ends it; nothing else that a session's controller or a printer's status does moves a
printed counter. -/

section Printed
variable (p : Position) (s : State)

@[simp] theorem noteJob_printed (j : Job) : (noteJob j s).print.printed = s.print.printed := by
  obtain ⟨⟨n, print⟩, -⟩ := noteJob_blocks j s
  rw [print]

@[simp] theorem printDone_printed (j : Job) (o : JobOutcome) : (printDone j o s).print.printed = s.print.printed := by
  rw [(printDone_blocks j o s).1]

@[simp] theorem jobFailed_printed (j : Job) : (jobFailed j s).print.printed = s.print.printed := by
  obtain ⟨⟨n, print⟩, -⟩ := jobFailed_blocks j s
  rw [print]

@[simp] theorem countDropped_printed (k : JobKind) : (countDropped k s).print.printed = s.print.printed := by
  cases k <;> rfl

@[simp] theorem bumpQueue_printed : (bumpQueue s).print.printed = s.print.printed := rfl

@[simp] theorem tryBegin_printed : (tryBegin s).print.printed = s.print.printed := by
  unfold tryBegin
  split
  · rfl
  · split
    · rfl
    · split <;> rfl

@[simp] theorem giveJob_printed (k : JobKind) (x : SaleFields) (q : Option (BitVec 32)) (pending : Bool) :
    (giveJob k p x q pending s).print.printed = s.print.printed := by
  unfold giveJob
  dsimp only
  split
  · simp
  · split <;> simp

@[simp] theorem closeJobs_printed (refund : Bool) (r : EndReason) (q : Option (BitVec 32)) (x : Session) :
    (closeJobs p refund r q x s).print.printed = s.print.printed := by
  unfold closeJobs
  extract_lets wants needs given
  have kept : given.print.printed = s.print.printed := by
    show (ite _ _ _ : State).print.printed = _
    split <;> simp
  split <;> simp [kept]

@[simp] theorem release_printed (r : EndReason) : (release p r s).print.printed = s.print.printed := by
  rw [release_eq, notify_print]

@[simp] theorem closeSession_printed : (closeSession p s).print.printed = s.print.printed := by
  unfold closeSession
  dsimp only
  split <;> simp [addTotals]

@[simp] theorem wantEnd_printed : (wantEnd p s).print.printed = s.print.printed := by
  unfold wantEnd
  split <;> simp

@[simp] theorem handDispense_print : (handDispense s).print = s.print := by
  obtain ⟨x, d, e⟩ := handDispense_eq s
  rw [e]
  rfl

@[simp] theorem planForNext_print : (planForNext p s).print = s.print := by
  unfold planForNext
  split
  · rfl
  · split <;> rfl

@[simp] theorem advancePayout_print : (advancePayout p s).1.print = s.print := by
  unfold advancePayout
  split
  · rfl
  · split
    · rfl
    · dsimp only
      split <;> simp [closePayout]

@[simp] theorem payFurther_printed : (payFurther p s).print.printed = s.print.printed := by
  have paid : (advancePayout p (planFurther p s)).1.print = s.print := advancePayout_print p _
  unfold payFurther
  split <;> rename_i e <;> rw [e] at paid
  · exact congrArg _ paid
  · rw [wantEnd_printed, handDispense_print]
    exact congrArg _ paid

@[simp] theorem payoutEnded_printed (n : Nat) : (payoutEnded p n s).print.printed = s.print.printed := by
  unfold payoutEnded
  dsimp only
  split <;> simp [addOwed]

@[simp] theorem continuePayout_printed : (continuePayout p s).print.printed = s.print.printed := by
  have paid := advancePayout_print p s
  unfold continuePayout
  split <;> rename_i e <;> rw [e] at paid
  · exact congrArg _ paid
  · rw [payoutEnded_printed, handDispense_print]
    exact congrArg _ paid

@[simp] theorem enterPayingOut_printed : (enterPayingOut p s).print.printed = s.print.printed := continuePayout_printed p _

@[simp] theorem payRefund_printed : (payRefund p s).print.printed = s.print.printed := by
  unfold payRefund
  dsimp only
  split
  · simp
  · exact continuePayout_printed p _

@[simp] theorem payHeld_printed : (payHeld p s).print.printed = s.print.printed := by
  unfold payHeld
  split
  · rw [payFurther_printed]
    split <;> rfl
  · simp

@[simp] theorem listMoved_printed : (listMoved p s).print.printed = s.print.printed := by
  unfold listMoved
  split
  · rfl
  · split <;> simp

@[simp] theorem enterRefund_printed (r : EndReason) : (enterRefund p r s).print.printed = s.print.printed := by
  unfold enterRefund
  dsimp only
  rw [listMoved_printed]
  split <;> rfl

@[simp] theorem issueSucceeded_printed : (issueSucceeded p s).print.printed = s.print.printed := by
  unfold issueSucceeded
  dsimp only
  split <;> simp [setEnd]

@[simp] theorem askCredit_printed : (askCredit p s).print.printed = s.print.printed := by
  unfold askCredit
  split
  · exact wantEnd_printed p _
  · rfl

@[simp] theorem ticketFailed_printed : (ticketFailed p s).print.printed = s.print.printed := by
  unfold ticketFailed
  dsimp only
  split
  · simp [setEnd]
  · split <;> simp [setEnd]

@[simp] theorem ticketEnded_printed (o : Position × Bool) : (ticketEnded s o).print.printed = s.print.printed := by
  unfold ticketEnded
  split
  · rfl
  · split <;> simp

theorem ticketEnds_printed (ends : TicketEnds) : (ends.foldl ticketEnded s).print.printed = s.print.printed := by
  induction ends generalizing s with
  | nil => rfl
  | cons o ends ih => rw [List.foldl_cons, ih, ticketEnded_printed]

theorem handTickets_printed (r : State × TicketEnds) : (handTickets r).print.printed = r.1.print.printed := ticketEnds_printed r.1 r.2

/-! #### A status -/

@[simp] theorem failActive_printed (always : Bool) : (failActive always s).1.print.printed = s.print.printed := by
  unfold failActive
  split
  · rfl
  · rw [jobFailed_printed]
    split <;> rfl

@[simp] theorem failWaitingList_printed (xs : List (Fin 8 × Job)) : (failWaitingList xs s).1.print.printed = s.print.printed := by
  induction xs generalizing s with
  | nil => rfl
  | cons x xs ih => exact (ih _).trans (by simp)

@[simp] theorem failStub_printed : (failStub s).print.printed = s.print.printed := rfl

theorem failPaperOut_printed (keepActive keepStub : Bool) :
    let a := if keepActive then (s, []) else failActive false s
    (failWaiting (if keepStub then a.1 else failStub a.1)).1.print.printed = s.print.printed := by
  refine (failWaitingList_printed _ _).trans ?_
  have kept : (if keepActive then (s, []) else failActive false s).1.print.printed = s.print.printed := by
    split
    · rfl
    · exact failActive_printed s false
  split <;> exact kept

theorem statusNoted_printed (st : PrinterStatus) : (statusNoted st s).print.printed = s.print.printed := by
  unfold statusNoted
  have raised : ∀ f : Option Flag, (f.elim (onPrint (fun u => { u with last := some st, stale := false }) s) fun f =>
      raiseFault .printer f (onPrint (fun u => { u with last := some st, stale := false }) s)).print.printed = s.print.printed := by
    rintro (_ | f)
    · rfl
    · exact (congrArg PrintUnit.printed (raiseFault_print _ _ _) :)
  dsimp only
  split
  · rw [sortEvent_print, raised]
  · exact raised _

theorem takeStatus_printed (st : PrinterStatus) : (takeStatus st s).1.print.printed = s.print.printed := by
  rw [← statusNoted_printed s st]
  cases st with
  | ready => exact tryBegin_printed _
  | paperLow => exact tryBegin_printed _
  | jammed => exact (failWaitingList_printed _ _).trans (failActive_printed _ _)
  | paperOut => exact failPaperOut_printed _ _ _

/-- A status handed on, tickets that end and all, leaves the printed counters. -/
theorem handStatus_printed (st : PrinterStatus) : (handTickets (takeStatus st s)).print.printed = s.print.printed := by
  rw [handTickets_printed, takeStatus_printed]

end Printed
end Sys2Proof.Machine

namespace Sys2Proof.Machine

/-! ### Poll answers taken (R172) -/

section Taken
variable {age : Nat} {c : Option Byte} {report : Byte} {body : PollBody} {busy : Bool} {a : Addr} {s : State}

/-- A new report is remembered (R172). -/
def reportTaken (a : Addr) (report : Byte) (s : State) : State :=
  onPeriph a (fun x => { x with lastReport := some report }) (heard a s)

/-- A repeated report is counted (R172). -/
def reportRepeated (a : Addr) (s : State) : State :=
  onPeriph a (fun x => { x with counters := { x.counters with repeats := x.counters.repeats + 1 } }) (heard a s)

theorem pollAnswer_taken (on : running s = true) (line : s.link.line = .window ⟨age, .poll (bodyAddr body) c⟩) :
    exec (.pollAnswer report body busy) s = .next (served busy (takePoll report body (heard (bodyAddr body) s))) := by
  have fit : fits (.poll (bodyAddr body) c) (bodyAddr body) 129 = true := by simp [fits, frameAddr, frameCode, answers]
  show Host.Outcome.next _ = _
  rw [receive_fits on line fit, countAnswered_heard rfl]
  rfl

theorem heard_lastReport (a : Addr) (s : State) : (periph a (heard a s)).lastReport = (periph a s).lastReport := by
  rw [heard, periph_onPeriph_self]
  rfl

section Own
variable (on : running s = true) (line : s.link.line = .window ⟨age, .poll (bodyAddr body) c⟩) (other : bodyAddr body ≠ .changer)
include on line other

theorem pollAnswer_new (new : (periph (bodyAddr body) s).lastReport ≠ some report) : exec (.pollAnswer report body busy) s =
    .next (served busy (pollStatus body (handEvents body (reportTaken (bodyAddr body) report s)))) := by
  rw [pollAnswer_taken on line, takePoll]
  rw [if_neg other, heard_lastReport, if_neg new]
  rfl

theorem pollAnswer_repeated (old : (periph (bodyAddr body) s).lastReport = some report) : exec (.pollAnswer report body busy) s =
    .next (served busy (pollStatus body (reportRepeated (bodyAddr body) s))) := by
  rw [pollAnswer_taken on line, takePoll]
  rw [if_neg other, heard_lastReport, if_pos old]
  rfl

end Own
end Taken

/-! #### At the validators (R175) -/

section Validator
variable {p : Position} {age : Nat} {c : Option Byte} {report : Byte} {busy : Bool} {es : List ValidatorEvent} {s : State}

theorem valAddr_ne_changer (p : Position) : valAddr p ≠ .changer := by cases p <;> decide

theorem cardAddr_ne_changer (p : Position) : cardAddr p ≠ .changer := by cases p <;> decide

variable (on : running s = true) (line : s.link.line = .window ⟨age, .poll (valAddr p) c⟩)
include on line

theorem validatorPoll_new (new : (periph (valAddr p) s).lastReport ≠ some report) :
    exec (.pollAnswer report (.validator p es) busy) s =
      .next (served busy (es.foldl (validatorEvent p) (reportTaken (valAddr p) report s))) :=
  pollAnswer_new (body := .validator p es) on line (valAddr_ne_changer p) new

theorem validatorPoll_repeated (old : (periph (valAddr p) s).lastReport = some report) :
    exec (.pollAnswer report (.validator p es) busy) s = .next (served busy (reportRepeated (valAddr p) s)) :=
  pollAnswer_repeated (body := .validator p es) on line (valAddr_ne_changer p) old

end Validator

/-! #### The return lever (R112) -/

section Lever
variable {p : Position} {s : State}

theorem lever_unused (idle : (sess p s).state ≠ .collecting) : validatorEvent p s .returnLever =
    sortEvent (valAddr p) 4 (.validator .returnLever) .notUsed s := if_neg idle

/-- The lever cancels a session that collects, with reason LEVER (R112). -/
theorem lever_cancels (collecting : (sess p s).state = .collecting) : validatorEvent p s .returnLever =
    masks none (sortEvent (valAddr p) 4 (.validator .returnLever) .cancelTaken (cancelCollecting p .lever s)) := if_pos collecting

theorem lever_owes (collecting : (sess p s).state = .collecting) (out : currentList p s = []) (credit : 0 < (sess p s).credit)
    (off : (periph .changer s).state ≠ .online) (charged : ∀ r, (sess p s).result = some r → r.free = false)
    (room : s.journal.records.length < 512) : (sess p (validatorEvent p s .returnLever)).state = .idle ∧
    ∃ x, x.reason = .lever ∧ x.owed = (sess p s).owed + (sess p s).credit ∧
      (validatorEvent p s .returnLever).journal.records.map Record.body =
        s.journal.records.map Record.body ++ [.refund x] := by
  obtain ⟨reason, -, -, -, owed, -⟩ := saleRec_figures .lever (owedSession .lever (sess p s))
  obtain ⟨bodies, -, -⟩ := cancelCollecting_recorded (r := .lever) collecting out credit off charged room
  rw [lever_cancels collecting]
  refine ⟨?_, saleRec .lever (owedSession .lever (sess p s)), reason, owed, ?_⟩
  · rw [sess_of_sales p ((masks_sales _ _).trans (sortEvent_sales _ _ _ _ _)),
      cancelCollecting_offline collecting out credit off]
    exact (closeSession_ends p _).1
  · rw [masks_journal, sortEvent_journal, bodies]

end Lever

/-! #### At the card modules (R176) -/

section Module
variable {p : Position} {age : Nat} {c : Option Byte} {report : Byte} {busy : Bool} {es : List ModuleEvent} {s : State}

theorem moduleEvent_keeps (p : Position) (s : State) (e : ModuleEvent) : (moduleEvent p s e).cards = s.cards ∧
    (moduleEvent p s e).sales = s.sales := by
  cases e with
  | fieldFault =>
    exact ⟨(sortEvent_cards _ _ _ _ _).trans (raiseFault_cards _ _ _), (sortEvent_sales _ _ _ _ _).trans (raiseFault_sales _ _ _)⟩
  | unknown => exact ⟨sortEvent_cards _ _ _ _ _, sortEvent_sales _ _ _ _ _⟩

theorem moduleEvents_keep (p : Position) (es : List ModuleEvent) (s : State) : (es.foldl (moduleEvent p) s).cards = s.cards ∧
    (es.foldl (moduleEvent p) s).sales = s.sales := by
  induction es generalizing s with
  | nil => exact ⟨rfl, rfl⟩
  | cons e es ih => exact ⟨(ih _).1.trans (moduleEvent_keeps p s e).1, (ih _).2.trans (moduleEvent_keeps p s e).2⟩

/-- A MODULE_ERROR stands in the module's flags, and its answer has touched neither cards nor sales. -/
def ModuleFaulty (p : Position) (s t : State) : Prop :=
  (periph (cardAddr p) t).flags.moduleError = true ∧ t.cards = s.cards ∧ t.sales = s.sales

theorem moduleFaulty_served {t : State} (h : ModuleFaulty p s t) : ModuleFaulty p s (served busy t) := by
  obtain ⟨flag, cards, sales⟩ := h
  exact ⟨(served_periph busy t (cardAddr p)).flag (f := Flags.moduleError) flag fun _ => .inr rfl,
    (served_cards busy t).trans cards, (served_sales busy t).trans sales⟩

theorem moduleFaulty_raised {t : State} (cards : t.cards = s.cards) (sales : t.sales = s.sales) :
    ModuleFaulty p s (raiseFault (cardAddr p) .moduleError t) := by
  refine ⟨?_, (raiseFault_cards _ _ _).trans cards, (raiseFault_sales _ _ _).trans sales⟩
  rw [raiseFault_periph, if_pos rfl]
  rfl

variable (on : running s = true) (line : s.link.line = .window ⟨age, .poll (cardAddr p) c⟩)
include on line

theorem modulePoll_new {fault : Bool} (new : (periph (cardAddr p) s).lastReport ≠ some report) :
    exec (.pollAnswer report (.cardModule p fault es) busy) s =
      .next (served busy (pollStatus (.cardModule p fault es) (es.foldl (moduleEvent p) (reportTaken (cardAddr p) report s)))) :=
  pollAnswer_new (body := .cardModule p fault es) on line (cardAddr_ne_changer p) new

theorem modulePoll_repeated {fault : Bool} (old : (periph (cardAddr p) s).lastReport = some report) :
    exec (.pollAnswer report (.cardModule p fault es) busy) s =
      .next (served busy (pollStatus (.cardModule p fault es) (reportRepeated (cardAddr p) s))) :=
  pollAnswer_repeated (body := .cardModule p fault es) on line (cardAddr_ne_changer p) old

/-- A module that reports a fault has MODULE_ERROR raised, at a repeated report too (R176). -/
theorem modulePoll_fault : ∃ t, exec (.pollAnswer report (.cardModule p true es) busy) s = .next t ∧ ModuleFaulty p s t := by
  by_cases old : (periph (cardAddr p) s).lastReport = some report
  · exact ⟨_, modulePoll_repeated on line old, moduleFaulty_served (moduleFaulty_raised rfl rfl)⟩
  · obtain ⟨cards, sales⟩ := moduleEvents_keep p es (reportTaken (cardAddr p) report s)
    exact ⟨_, modulePoll_new on line old, moduleFaulty_served (moduleFaulty_raised cards sales)⟩

/-- A FIELD_FAULT raises MODULE_ERROR (R176). -/
theorem modulePoll_fieldFault {fault : Bool} (new : (periph (cardAddr p) s).lastReport ≠ some report) :
    ∃ t, exec (.pollAnswer report (.cardModule p fault [.fieldFault]) busy) s = .next t ∧ ModuleFaulty p s t := by
  cases fault with
  | true => exact modulePoll_fault on line
  | false =>
    refine ⟨_, modulePoll_new on line new, moduleFaulty_served ?_⟩
    obtain ⟨flag, cards, sales⟩ := moduleFaulty_raised (p := p) (s := s) (t := reportTaken (cardAddr p) report s) rfl rfl
    refine ⟨?_, (sortEvent_cards _ _ _ _ _).trans cards, (sortEvent_sales _ _ _ _ _).trans sales⟩
    rw [← flag]
    exact congrArg (fun x => x.flags.moduleError) ((sortEvent_controls _ _ _ _ _).periph (cardAddr p))

end Module
end Sys2Proof.Machine

namespace Sys2Proof.Machine

/-! #### At the printer (R138, R178) -/

section Printer
variable {age : Nat} {c : Option Byte} {report : Byte} {busy : Bool} {st : PrinterStatus} {es : List PrinterEvent} {s t : State}

/-- The step's end after a printer's answer: its status is taken from what its events left. -/
def printerPolled (busy : Bool) (st : PrinterStatus) (t : State) : State := served busy (masks none (handTickets (takeStatus st t)))

theorem statusTaken_periph (st : PrinterStatus) (t : State) : periph .printer (masks none (handTickets (takeStatus st t))) =
    { periph .printer t with flags := (statusFault st).elim (periph .printer t).flags (flagSet (periph .printer t).flags) } := by
  rw [masks_periph, (handStatus_controls st t).periph, statusNoted_periph]

/-- The flag of a status stands in the printer's entry after serving (R138). -/
theorem statusFlags {x y : Peripheral}
    (kept : PeriphServed { x with flags := (statusFault st).elim x.flags (flagSet x.flags) } y) :
    (st = .paperLow → y.flags.paperLow = true) ∧ (st = .paperOut → y.flags.paperOut = true) ∧
      (st = .jammed → y.flags.jam = true) := by
  refine ⟨?_, ?_, ?_⟩
  · rintro rfl
    exact kept.flag (f := Flags.paperLow) rfl fun _ => .inr rfl
  · rintro rfl
    exact kept.flag (f := Flags.paperOut) rfl fun _ => .inr rfl
  · rintro rfl
    exact kept.flag (f := Flags.jam) rfl fun _ => .inr rfl

/-- The status in an answer becomes the printer's last, and its flag is raised (R138). -/
theorem printerPolled_status (busy : Bool) (st : PrinterStatus) (t : State) : (printerPolled busy st t).print.last = some st ∧
    (st = .paperLow → (periph .printer (printerPolled busy st t)).flags.paperLow = true) ∧
    (st = .paperOut → (periph .printer (printerPolled busy st t)).flags.paperOut = true) ∧
    (st = .jammed → (periph .printer (printerPolled busy st t)).flags.jam = true) := by
  have kept := served_periph busy (masks none (handTickets (takeStatus st t))) .printer
  rw [statusTaken_periph] at kept
  refine ⟨?_, statusFlags kept⟩
  rw [printerPolled, served_last, masks_print, (handStatus_controls st t).print.1]
  exact (statusNoted_last st t).1

theorem served_printed (busy : Bool) (s : State) : (served busy s).print.printed = s.print.printed :=
  (congrArg (fun u => u.print.printed) (served_unserved busy s) :)

/-- A status leaves the printed counters, a MODULE_ERROR that stands and the last report. -/
theorem printerPolled_keeps (busy : Bool) (st : PrinterStatus) (t : State) :
    (printerPolled busy st t).print.printed = t.print.printed ∧
    (periph .printer (printerPolled busy st t)).lastReport = (periph .printer t).lastReport ∧
    ((periph .printer t).flags.moduleError = true → (periph .printer (printerPolled busy st t)).flags.moduleError = true) := by
  have kept := served_periph busy (masks none (handTickets (takeStatus st t))) .printer
  rw [statusTaken_periph] at kept
  refine ⟨?_, kept.2.2.1, fun error => ?_⟩
  · rw [printerPolled, served_printed, masks_print, handStatus_printed]
  · refine kept.flag (f := Flags.moduleError) ?_ fun _ => .inr rfl
    cases st <;> exact error

/-! ##### The repeat counter (R172, R173) -/

theorem onPeriph_repeats {a : Addr} {f : Peripheral → Peripheral} (h : ∀ x, (f x).counters.repeats = x.counters.repeats) (b : Addr)
    (s : State) : (periph b (onPeriph a f s)).counters.repeats = (periph b s).counters.repeats := by
  rw [onPeriph_periph]
  split
  · rename_i same
    rw [h, same]
  · rfl

theorem standIn_repeats (p : Position) (a : Addr) (s : State) :
    (periph a (standIn p s)).counters.repeats = (periph a s).counters.repeats := by
  have taken := onPeriph_repeats (a := cardAddr p) (f := fun x => { x with pollDue := none }) (fun _ => rfl) a s
  obtain e | ⟨age, c, -, -, ⟨-, e⟩ | ⟨-, -, e⟩⟩ := standIn_cases p s
  · rw [e]
  · rw [e, taken]
  · rw [e]
    exact taken

theorem defer_repeats (r : ReadyFrame) (a : Addr) (s : State) :
    (periph a (defer r s)).counters.repeats = (periph a s).counters.repeats := by
  have counted := onPeriph_repeats (a := frameAddr r.frame) (f := fun x => { x with
    counters := { x.counters with deferrals := bump16 x.counters.deferrals } }) (fun _ => rfl) a s
  unfold defer
  dsimp only
  split
  · exact counted
  · refine Eq.trans ?_ counted
    show (periph a (raiseFault _ _ _)).counters.repeats = _
    rw [raiseFault_periph]
    split
    · rename_i same
      rw [same]
      rfl
    · rfl

theorem unready_repeats (r : ReadyFrame) (a : Addr) (s : State) :
    (periph a (unready r s)).counters.repeats = (periph a s).counters.repeats := by
  have progress (f : Progress → Progress) : (periph a (onProgress f s)).counters.repeats = (periph a s).counters.repeats := by
    rw [periph, onProgress_link]
    rfl
  unfold unready
  split
  case h_1 | h_2 =>
    refine onPeriph_repeats ?_ a s
    exact fun _ => rfl
  case h_7 | h_8 => exact progress _
  all_goals rfl

theorem handOut_repeats (busy : Bool) (a : Addr) (s : State) :
    (periph a (handOut busy s)).counters.repeats = (periph a s).counters.repeats := by
  unfold handOut
  split
  · split
    · rfl
    · split
      · rfl
      · split
        · exact defer_repeats _ a s
        · exact unready_repeats _ a s
  all_goals rfl

/-- Serving counts no repeat. -/
theorem served_repeats (busy : Bool) (a : Addr) (s : State) :
    (periph a (served busy s)).counters.repeats = (periph a s).counters.repeats := by
  have finished (u : State) : periph a (finish u) = periph a u := by
    rw [periph, finish_link]
    rfl
  rw [served, settle, finished, arbitrate, handOut_repeats, standIn_repeats, standIn_repeats, masks_periph]

theorem printerPolled_repeats (busy : Bool) (st : PrinterStatus) (t : State) :
    (periph .printer (printerPolled busy st t)).counters.repeats = (periph .printer t).counters.repeats := by
  rw [printerPolled, served_repeats, statusTaken_periph]

section Own
variable (on : running s = true) (line : s.link.line = .window ⟨age, .poll .printer c⟩)
include on line

theorem printerPoll_new (new : (periph .printer s).lastReport ≠ some report) :
    exec (.pollAnswer report (.printer st es) busy) s =
      .next (printerPolled busy st (es.foldl printerEvent (reportTaken .printer report s))) :=
  pollAnswer_new (body := .printer st es) on line (show Addr.printer ≠ .changer by decide) new

theorem printerPoll_repeated (old : (periph .printer s).lastReport = some report) :
    exec (.pollAnswer report (.printer st es) busy) s = .next (printerPolled busy st (reportRepeated .printer s)) :=
  pollAnswer_repeated (body := .printer st es) on line (show Addr.printer ≠ .changer by decide) old

/-- A repeated report is counted, and its events are discarded (R172). -/
theorem printerPoll_discards (old : (periph .printer s).lastReport = some report) :
    ∃ t, exec (.pollAnswer report (.printer st es) busy) s = .next t ∧ t.print.printed = s.print.printed ∧
      (periph .printer t).lastReport = some report ∧
      (periph .printer t).counters.repeats = (periph .printer s).counters.repeats + 1 := by
  obtain ⟨printed, last, -⟩ := printerPolled_keeps busy st (reportRepeated .printer s)
  refine ⟨_, printerPoll_repeated on line old, printed, last.trans ?_, (printerPolled_repeats busy st _).trans ?_⟩
  · rw [reportRepeated, periph_onPeriph_self]
    exact (heard_lastReport .printer s).trans old
  · rw [reportRepeated, periph_onPeriph_self, heard, periph_onPeriph_self]
    rfl

end Own

/-! ##### CUT_DONE (R139, R178) -/

theorem cutDone_unmatched (idle : activeJob s = none) (stub : s.print.stub = none) :
    printerEvent s .cutDone = sortEvent .printer 1 (.printer .cutDone) .unmatched (raiseFault .printer .moduleError s) := by
  have unmatched : cutDone s = none := by simp only [cutDone, idle, stub]
  simp only [printerEvent, unmatched]

theorem cutDone_unmatched_keeps (idle : activeJob s = none) (stub : s.print.stub = none) :
    (periph .printer (printerEvent s .cutDone)).flags.moduleError = true ∧
    (printerEvent s .cutDone).print.printed = s.print.printed := by
  rw [cutDone_unmatched idle stub]
  refine ⟨?_, by rw [sortEvent_print, raiseFault_print]⟩
  rw [(sortEvent_controls _ _ _ _ _).periph, raiseFault_periph, if_pos rfl]
  rfl

/-- The CUT_DONE of a job that is cut counts it as printed (R139, R143). -/
theorem cutDone_printed {i : Fin 8} {j : Job} {g : Progress} (active : activeJob s = some (i, j, g)) (cut : g.cutSent = true) :
    vget (printerEvent s .cutDone).print.printed (kindIndex j.kind) = vget s.print.printed (kindIndex j.kind) + 1 := by
  have ends : cutDone s = some (printDone j .printed (countPrinted j.kind (setSlot i .free s)), ticketEnd j true) := by
    simp only [cutDone, active, cut, if_true]
  simp only [printerEvent, ends]
  rw [masks_print, tryBegin_printed, handTickets_printed, printDone_printed]
  exact vget_vset_self _ _ _

end Printer

/-! #### In the answer to a forwarded frame (R138, R180) -/

section Forwarded
variable {s t : State} {x : Answer}

theorem Controls.answering (h : Controls s t) (hx : Answering x s) : Answering x t :=
  answering_of_port hx (congrArg (fun u => u.port.answers) h.aside :) (congrArg (fun u => u.port.overflow) h.aside :)
    (congrArg (fun u => u.port.tx) h.aside :)

theorem statusNoted_answering (st : PrinterStatus) (hx : Answering x s) : Answering x (statusNoted st s) := by
  have raised : ∀ f : Option Flag, Answering x (f.elim (onPrint (fun u => { u with last := some st, stale := false }) s)
      fun f => raiseFault .printer f (onPrint (fun u => { u with last := some st, stale := false }) s)) := by
    rintro (_ | f)
    · exact hx
    · exact raiseFault_answering hx
  unfold statusNoted
  dsimp only
  split
  · exact (sortEvent_controls _ _ _ _ _).answering (raised _)
  · exact raised _

/-- The answer goes to the sale processor, and the status in it is taken too (R138, R180; log 52). -/
theorem forwardedPoll_printer {age : Nat} {q : QueuedPass} {report : Byte} {st : PrinterStatus} {es : List PrinterEvent} {busy : Bool}
    (on : running s = true) (line : s.link.line = .window ⟨age, .pass q⟩) (addr : q.addr = .printer) (plain : q.unfiltered = false)
    (unknown : knowsCode .printer q.code.toNat = false) : exec (.pollAnswer report (.printer st es) busy) s =
      .next (served busy (handTickets (takeStatus st (passReply q (some (.poll report (.printer st es))) (heard .printer s))))) := by
  have fit : fits (.pass q) .printer 129 = true := by simp [fits, frameAddr, frameCode, addr, addrKind, unknown]
  have own : lendFrame (.pass q) = false := plain
  show Host.Outcome.next (receive .printer _ _ _ _) = _
  rw [receive_fits on line fit, countAnswered_heard own, show frameAddr (.pass q) = .printer from addr]
  show Host.Outcome.next (served busy (passAnswered q _ _)) = _
  rw [passAnswered, addr, plain]
  rfl

theorem forwardedPoll_figures {busy : Bool} (st : PrinterStatus) (h : Answering x t) :
    let u := served busy (handTickets (takeStatus st t))
    u.print.last = some st ∧ (st = .jammed → (periph .printer u).flags.jam = true) ∧
      (periph .printer u).lastReport = (periph .printer t).lastReport ∧ Answering x u := by
  have kept := served_periph busy (handTickets (takeStatus st t)) .printer
  rw [(handStatus_controls st t).periph, statusNoted_periph] at kept
  obtain ⟨-, -, jam⟩ := statusFlags kept
  refine ⟨?_, jam, kept.2.2.1, served_answering ((handStatus_controls st t).answering (statusNoted_answering st h))⟩
  rw [served_last, (handStatus_controls st t).print.1]
  exact (statusNoted_last st t).1

end Forwarded
end Sys2Proof.Machine

namespace Sys2Proof.Machine

/-! #### At the changer (R58, R59, R62, R67, R177) -/

section Changer
variable {age : Nat} {c : Option Byte} {report : Byte} {busy : Bool} {tb : Option (Fin 6)} {es : List ChangerEvent} {p : Position}
  {d : Dispense} {t : Fin 6} {n : Nat} {s u : State}

/-- The state in which the events of the changer's new answer find it. -/
def changerHeard (report : Byte) (s : State) : State := missesCleared (reportTaken .changer report s)

section Own
variable (on : running s = true) (line : s.link.line = .window ⟨age, .poll .changer c⟩)
include on line

theorem changerPoll_new (new : (periph .changer s).lastReport ≠ some report) : exec (.pollAnswer report (.changer tb es) busy) s =
    .next (served busy (changerBusy tb (es.foldl changerEvent (changerHeard report s)))) := by
  rw [pollAnswer_taken on line, takePoll]
  exact congrArg (fun v => Host.Outcome.next (served busy v)) (if_neg ((heard_lastReport .changer s).trans_ne new))

theorem changerPoll_repeated (old : (periph .changer s).lastReport = some report) :
    exec (.pollAnswer report (.changer tb es) busy) s = .next (served busy (missesCleared (reportRepeated .changer s))) := by
  rw [pollAnswer_taken on line, takePoll]
  exact congrArg (fun v => Host.Outcome.next (served busy v)) (if_pos ((heard_lastReport .changer s).trans old))

end Own

/-! ##### The DISPENSE by the busy state -/

theorem changerBusy_busy (i : Fin 6) (s : State) : changerBusy (some i) s = s := by
  unfold changerBusy
  split
  · rfl
  · split <;> rfl

section Out
variable (out : s.change.dispense = some d) (sent : d.sent = true)
include out sent

/-- A DISPENSE that the changer has not acknowledged is sent again (R177). -/
theorem changerBusy_again (unheard : d.acked = false) : changerBusy none s =
    onChange (fun x => { x with dispense := some { d with sent := false } }) s := by
  simp only [changerBusy, out, sent, unheard, Bool.true_eq_false, Bool.false_eq_true, if_false]

/-- One that it has acknowledged ends as a jam (R60, R177). -/
theorem changerBusy_jams (acked : d.acked = true) : changerBusy none s =
    masks none (dispenseJam d (raiseFault .changer .moduleError s)) := by
  simp only [changerBusy, out, sent, acked, Bool.true_eq_false, if_false, if_true]

end Out

/-- The DISPENSE at the changer, where there is one, is still to be sent. -/
def Unsent (s : State) : Prop := ∀ d, s.change.dispense = some d → d.sent = false

theorem changerBusy_unsent (h : Unsent s) : changerBusy tb s = s := by
  unfold changerBusy
  split
  · rfl
  · exact if_pos (h _ ‹_›)

theorem handDispense_unsent (h : Unsent s) : Unsent (handDispense s) := by
  unfold handDispense
  dsimp only
  split
  · exact h
  · split
    · split <;> rintro _ ⟨⟩ <;> rfl
    · rintro _ ⟨⟩; rfl
    · rintro _ ⟨⟩; rfl
    · exact h

/-- A payout forms its DISPENSE; it does not send it. -/
theorem Controlled.unsent (h : Controlled p s u) (hs : Unsent s) : Unsent u := by
  refine h.keeps (fun {s u} c hs => ?_) hs
  cases c with
  | hand => exact handDispense_unsent hs
  | overrun => rwa [Unsent, raiseOverrun_change]
  | _ => exact hs

theorem unsent_of_none (h : s.change.dispense = none) : Unsent s := fun d out => by rw [h] at out; cases out

theorem payCoins_dispense (p : Position) (t : Fin 6) (k : Nat) (s : State) : (payCoins p t k s).change.dispense = none := by
  unfold payCoins
  dsimp only
  split <;> rfl

theorem payoutOn_unsent (h : s.change.dispense = none) : Unsent (payoutOn p s) :=
  (payoutOn_controlled (.refl p s)).unsent (unsent_of_none h)

theorem jam_unsent (p q : Position) (t : Fin 6) (k : Nat) (s : State) : Unsent (payoutOn q (jam p t k s)) := by
  refine payoutOn_unsent ?_
  have raised : (jammed p t k s).change.dispense = (payCoins p t k s).change.dispense := by rw [jammed, raiseFault_change]; rfl
  exact raised.trans (payCoins_dispense p t k s)

/-! ##### Payouts -/

/-- A payout reported done, whole or short (R58). -/
theorem payoutDone_figures (out : s.change.dispense = some d) (sent : d.sent = true) (here : d.tube = t) :
    CoinsLeft t (min n d.count) s (payoutDone t n s).1 ∧
    (tube t (payoutDone t n s).1).state = (if n < d.count then .jammed else (tube t s).state) ∧ Unsent (payoutDone t n s).1 := by
  obtain short | whole := Nat.lt_or_ge n d.count
  · obtain ⟨left, stuck, -⟩ := jam_goesOn d.pos t n s
    rw [payoutDone_short out sent here short, Nat.min_eq_left short.le, if_pos short]
    exact ⟨left, stuck, jam_unsent _ _ _ _ _⟩
  · obtain ⟨left, state⟩ := payoutDone_counts out sent here whole
    rw [Nat.min_eq_right whole, if_neg (Nat.not_lt.2 whole)]
    refine ⟨left, state, ?_⟩
    rw [payoutDone_whole out sent here whole]
    refine payoutOn_unsent ?_
    split
    · rw [raiseFault_change, payCoins_dispense]
    · exact payCoins_dispense ..

/-- An event's end: its notice queued, the masks recomputed, and the step finished. -/
def eventServed (busy : Bool) (e : ChangerEvent) (r : State × PartResult) : State :=
  served busy (masks none (sortEvent .changer (changerCode e) (.changer e) r.2 r.1))

theorem sortedEvent_change (e : ChangerEvent) (r : State × PartResult) :
    (masks none (sortEvent .changer (changerCode e) (.changer e) r.2 r.1)).change = r.1.change := by
  rw [masks_change, sortEvent_change]

theorem eventServed_tubes (busy : Bool) (e : ChangerEvent) (r : State × PartResult) :
    (eventServed busy e r).change.tubes = r.1.change.tubes := by
  rw [eventServed, served_tubes, sortedEvent_change]

theorem eventServed_tube (busy : Bool) (e : ChangerEvent) (r : State × PartResult) (i : Fin 6) :
    tube i (eventServed busy e r) = tube i r.1 := by
  rw [tube, eventServed_tubes]
  rfl

theorem eventServed_periph (busy : Bool) (e : ChangerEvent) (r : State × PartResult) :
    PeriphServed (periph .changer r.1) (periph .changer (eventServed busy e r)) := by
  have kept := served_periph busy (masks none (sortEvent .changer (changerCode e) (.changer e) r.2 r.1)) .changer
  rwa [masks_periph, (sortEvent_controls _ _ _ _ _).periph] at kept

/-- The tubes' part of what the report of a payout does, after the whole step. -/
theorem payoutServed (e : ChangerEvent) {r : State × PartResult} {k : Nat} (left : CoinsLeft t k s r.1) :
    (tube t (eventServed busy e r)).count = (tube t s).count - k ∧
    (tube t (eventServed busy e r)).paidOut = (tube t s).paidOut + BitVec.ofNat 32 k ∧
    ∀ i, i ≠ t → tube i (eventServed busy e r) = tube i s := by
  obtain ⟨count, paid, others, -⟩ := left
  simp only [eventServed_tube]
  exact ⟨count, paid, others⟩

/-- A DISPENSE that ends as a jam at a changer that has forgotten it (R60, R177). -/
theorem faultyJam_figures (d : Dispense) (s : State) :
    let u := masks none (dispenseJam d (raiseFault .changer .moduleError s))
    tube d.tube u = { tube d.tube s with state := .jammed, doubt := 0, clear := 0 } ∧ (∀ i, i ≠ d.tube → tube i u = tube i s) ∧
      (periph .changer u).flags.jam = true ∧ (periph .changer u).flags.moduleError = true := by
  obtain ⟨here, others, -⟩ := stuck_tubes d (raiseFault .changer .moduleError s)
  have same := dispenseJam_untouched d (raiseFault .changer .moduleError s)
  have tubes (i : Fin 6) : tube i (masks none (dispenseJam d (raiseFault .changer .moduleError s))) =
      tube i (stuck d (raiseFault .changer .moduleError s)) := by
    rw [← tube_of_untouched same, tube, masks_change]
    rfl
  have flags : periph .changer (masks none (dispenseJam d (raiseFault .changer .moduleError s))) =
      periph .changer (stuck d (raiseFault .changer .moduleError s)) := by
    rw [masks_periph]
    exact (congrArg (fun x => vget x.periph (addrIndex .changer)) same :)
  have error : (periph .changer (raiseFault .changer .moduleError s)).flags.moduleError = true := by
    rw [raiseFault_periph, if_pos rfl]
    rfl
  refine ⟨?_, fun i hi => ?_, ?_, ?_⟩
  · rw [tubes, here, tube_raiseFault]
  · rw [tubes, others i hi, tube_raiseFault]
  · rw [flags, stuck_flag]
  · rw [flags, stuck, raiseFault_periph, if_pos rfl]
    exact error

section New
variable (on : running s = true) (line : s.link.line = .window ⟨age, .poll .changer c⟩)
  (new : (periph .changer s).lastReport ≠ some report)
include on line new

theorem changerPoll_jams (out : s.change.dispense = some d) (sent : d.sent = true) (acked : d.acked = true) :
    ∃ u, exec (.pollAnswer report (.changer none []) busy) s = .next u ∧ (tube d.tube u).state = .jammed ∧
      (tube d.tube u).count = (tube d.tube s).count ∧ (periph .changer u).flags.jam = true ∧
      (periph .changer u).flags.moduleError = true ∧ ∀ i, i ≠ d.tube → tube i u = tube i s := by
  refine ⟨_, changerPoll_new on line new, ?_⟩
  rw [List.foldl_nil, changerBusy_jams (s := changerHeard report s) out sent acked]
  obtain ⟨here, others, jam, error⟩ := faultyJam_figures d (changerHeard report s)
  have kept := served_periph busy (masks none (dispenseJam d (raiseFault .changer .moduleError (changerHeard report s)))) .changer
  refine ⟨?_, ?_, kept.flag (f := Flags.jam) jam fun _ => .inr rfl, kept.flag (f := Flags.moduleError) error fun _ => .inr rfl,
    fun i hi => ?_⟩
  · rw [tube, served_tubes, ← tube, here]
  · rw [tube, served_tubes, ← tube, here]
    rfl
  · rw [tube, served_tubes, ← tube, others i hi]
    rfl

theorem changerPoll_event (e : ChangerEvent) {r : State × PartResult} (unsent : Unsent r.1)
    (event : changerEvent (changerHeard report s) e = masks none (sortEvent .changer (changerCode e) (.changer e) r.2 r.1)) :
    exec (.pollAnswer report (.changer tb [e]) busy) s = .next (eventServed busy e r) := by
  rw [changerPoll_new on line new, List.foldl_cons, List.foldl_nil, event, changerBusy_unsent, eventServed]
  rwa [Unsent, sortedEvent_change]

theorem changerPoll_busyEvent {i : Fin 6} (e : ChangerEvent) {r : State × PartResult}
    (event : changerEvent (changerHeard report s) e = masks none (sortEvent .changer (changerCode e) (.changer e) r.2 r.1)) :
    exec (.pollAnswer report (.changer (some i) [e]) busy) s = .next (eventServed busy e r) := by
  rw [changerPoll_new on line new, List.foldl_cons, List.foldl_nil, event, changerBusy_busy, eventServed]

theorem changerPoll_payoutDone (out : s.change.dispense = some d) (sent : d.sent = true) (here : d.tube = t) :
    ∃ u, exec (.pollAnswer report (.changer tb [.payoutDone t n]) busy) s = .next u ∧
      (tube t u).count = (tube t s).count - min n d.count ∧
      (tube t u).paidOut = (tube t s).paidOut + BitVec.ofNat 32 (min n d.count) ∧
      (tube t u).state = (if n < d.count then .jammed else (tube t s).state) ∧ ∀ i, i ≠ t → tube i u = tube i s := by
  obtain ⟨left, state, unsent⟩ := payoutDone_figures (s := changerHeard report s) (n := n) out sent here
  obtain ⟨count, paid, others⟩ := payoutServed (busy := busy) (.payoutDone t n) left
  exact ⟨_, changerPoll_event on line new (.payoutDone t n) unsent rfl, count, paid, by rw [eventServed_tube, state]; rfl, others⟩

theorem changerPoll_payoutJam (out : s.change.dispense = some d) (sent : d.sent = true) (here : d.tube = t) (below : n < d.count) :
    ∃ u, exec (.pollAnswer report (.changer tb [.payoutJam t n]) busy) s = .next u ∧
      (tube t u).count = (tube t s).count - n ∧ (tube t u).state = .jammed ∧ (periph .changer u).flags.jam = true ∧
      ∀ i, i ≠ t → tube i u = tube i s := by
  obtain ⟨left, stuck, flag⟩ := jam_goesOn d.pos t n (changerHeard report s)
  have jams := payoutJam_below (s := changerHeard report s) (n := n) out sent here below
  rw [show payoutOn d.pos (jam d.pos t n (changerHeard report s)) = (payoutJam t n (changerHeard report s)).1 by rw [jams]]
    at left stuck flag
  obtain ⟨count, -, others⟩ := payoutServed (busy := busy) (.payoutJam t n) left
  exact ⟨_, changerPoll_event on line new (.payoutJam t n) (by rw [jams]; exact jam_unsent _ _ _ _ _) rfl, count,
    by rw [eventServed_tube, stuck], (eventServed_periph busy _ _).flag (f := Flags.jam) flag fun _ => .inr rfl, others⟩

/-- A jam reported with a number the DISPENSE cannot have paid matches nothing (log 21). -/
theorem changerPoll_jamAbove (out : s.change.dispense = some d) (sent : d.sent = true) (here : d.tube = t) (above : d.count ≤ n) :
    ∃ u, exec (.pollAnswer report (.changer (some t) [.payoutJam t n]) busy) s = .next u ∧
      u.change.tubes = s.change.tubes ∧ u.change.dispense = some d ∧ (periph .changer u).flags.moduleError = true := by
  have unmatched := payoutJam_above (s := changerHeard report s) (n := n) out sent here above
  have change : (payoutJam t n (changerHeard report s)).1.change = (changerHeard report s).change := by
    rw [unmatched]
    exact raiseFault_change ..
  refine ⟨_, changerPoll_busyEvent on line new (.payoutJam t n) rfl, ?_, ?_, ?_⟩
  · rw [eventServed_tubes, change]
    rfl
  · refine served_dispense_out ?_ sent
    rw [sortedEvent_change, change]
    exact out
  · refine (eventServed_periph busy _ _).flag (f := Flags.moduleError) ?_ fun _ => .inr rfl
    rw [unmatched, raiseFault_periph, if_pos rfl]
    rfl

end New
end Changer
end Sys2Proof.Machine

namespace Sys2Proof.Machine

/-! ##### Gauges and the box switch (R62, R67) -/

section Store
variable {s u : State} {t : Fin 6} {g : BitVec 6} {parity : Bool}

theorem onTube_tubes (t : Fin 6) (f : Tube → Tube) (tubes : u.change.tubes = s.change.tubes) :
    (onTube t f u).change.tubes = (onTube t f s).change.tubes := by
  show vmodify u.change.tubes t f = vmodify s.change.tubes t f
  rw [tubes]

theorem writeOff_tubes (tubes : u.change.tubes = s.change.tubes) : (writeOff t u).change.tubes = (writeOff t s).change.tubes := by
  have same : tube t u = tube t s := by rw [tube, tubes]; rfl
  unfold writeOff
  rw [same]
  dsimp only
  split
  · exact tubes
  · simp only [onResv_change]
    exact onTube_tubes t _ tubes

/-- A gauge reading looks at the tubes and the DISPENSE alone. -/
theorem gauge_tubes (tubes : u.change.tubes = s.change.tubes) (out : u.change.dispense = s.change.dispense) :
    (gauge t g parity u).1.change.tubes = (gauge t g parity s).1.change.tubes := by
  have same : tube t u = tube t s := by rw [tube, tubes]; rfl
  have pays : matchDispense t u = matchDispense t s := by rw [matchDispense, out]; rfl
  have estimate : (estimated t g u).change.tubes = (estimated t g s).change.tubes := by
    rw [estimated, same]
    exact onTube_tubes t _ tubes
  by_cases used : (tube t s).state = .disabled
  · rw [gauge_disabled used, gauge_disabled (same ▸ used)]
    exact tubes
  have used' : (tube t u).state ≠ .disabled := by rwa [same]
  cases even : parityEven g parity with
  | false =>
    rw [gauge_badParity used even, gauge_badParity used' even, raiseFault_change, raiseFault_change]
    exact tubes
  | true =>
    by_cases empty : g = 0
    · by_cases quiet : matchDispense t s = none
      · rw [gauge_empty used even empty quiet, gauge_empty used' even empty (pays.trans quiet)]
        exact onTube_tubes t _ (writeOff_tubes estimate)
      · rw [gauge_paying used even empty quiet, gauge_paying used' even empty (pays ▸ quiet)]
        exact tubes
    · rw [gauge_level used even empty, gauge_level used' even empty, same]
      exact onTube_tubes t _ estimate

/-- A box put in is noted, its record first (R67). -/
theorem boxState_inserted (room : s.journal.records.length < 512) (gone : s.change.box.present = false) :
    (boxState true s).1.change.box = { s.change.box with present := true } ∧
    (boxState true s).1.journal.records = s.journal.records ++ [commonPart s.fare.clock s.journal.next none .boxInserted] := by
  have inserted : (boxState true s).1 = onBox (fun x => { x with present := true }) (append none .boxInserted s) := by
    unfold boxState
    dsimp only
    rw [if_neg (by rw [gone]; decide), if_pos rfl]
  rw [inserted]
  refine ⟨by rw [onBox_change, append_change], ?_⟩
  rw [onBox_journal, append_journal_room room]

/-- A box taken away is counted in its record and empty from then on (R67). -/
theorem boxState_removed (room : s.journal.records.length < 512) (there : s.change.box.present = true) :
    (boxState false s).1.change.box.count = 0 ∧ (∀ k, vget (boxState false s).1.change.box.values k = 0) ∧
    (boxState false s).1.journal.records = s.journal.records ++ [commonPart s.fare.clock s.journal.next none
      (.boxRemoved s.change.box.count s.change.box.values (boxSum s.change.box))] := by
  have removed : (boxState false s).1 = onBox (fun x => { x with present := false, count := 0, values := vfill 8 0 })
      (append none (.boxRemoved s.change.box.count s.change.box.values (boxSum s.change.box)) s) := by
    unfold boxState
    dsimp only
    rw [if_neg (by rw [there]; decide), if_neg (by decide)]
  rw [removed]
  refine ⟨rfl, fun k => vget_vfill _ _ k, ?_⟩
  rw [onBox_journal, append_journal_room room]

end Store

section Events
variable {age : Nat} {c : Option Byte} {report : Byte} {busy : Bool} {i : Fin 6} {s : State}
  (on : running s = true) (line : s.link.line = .window ⟨age, .poll .changer c⟩)
  (new : (periph .changer s).lastReport ≠ some report)
include on line new

theorem changerPoll_gauge (t : Fin 6) (g : BitVec 6) (parity : Bool) :
    ∃ u, exec (.pollAnswer report (.changer (some i) [.gauge t g parity]) busy) s = .next u ∧
      u.change.tubes = (gauge t g parity s).1.change.tubes := by
  refine ⟨_, changerPoll_busyEvent on line new (.gauge t g parity) rfl, ?_⟩
  rw [eventServed_tubes]
  exact gauge_tubes rfl rfl

theorem changerPoll_boxState (present : Bool) (room : s.journal.records.length < 512) :
    ∃ u, exec (.pollAnswer report (.changer (some i) [.boxState present]) busy) s = .next u ∧
      u.change.box.present = present ∧
      (present = s.change.box.present → u.change.box = s.change.box ∧ u.journal = s.journal) ∧
      (present = true → s.change.box.present = false →
        u.change.box = { s.change.box with present := true } ∧ u.journal.records = s.journal.records ++
          [commonPart s.fare.clock s.journal.next none .boxInserted]) ∧
      (present = false → s.change.box.present = true →
        u.change.box.count = 0 ∧ (∀ k, vget u.change.box.values k = 0) ∧ u.journal.records = s.journal.records ++
          [commonPart s.fare.clock s.journal.next none
            (.boxRemoved s.change.box.count s.change.box.values (boxSum s.change.box))]) := by
  refine ⟨_, changerPoll_busyEvent on line new (.boxState present) rfl, ?_⟩
  have box : (eventServed busy (.boxState present) (boxState present (changerHeard report s))).change.box =
      (boxState present (changerHeard report s)).1.change.box := by rw [eventServed, served_box, sortedEvent_change]
  have journal : (eventServed busy (.boxState present) (boxState present (changerHeard report s))).journal =
      (boxState present (changerHeard report s)).1.journal := by rw [eventServed, served_journal, masks_journal, sortEvent_journal]
  obtain ⟨here, same, -⟩ := boxState_box present (changerHeard report s)
  rw [box, journal]
  refine ⟨here, fun known => ?_, ?_, ?_⟩
  · rw [same known]
    exact ⟨rfl, rfl⟩
  · rintro rfl gone
    exact boxState_inserted (s := changerHeard report s) room gone
  · rintro rfl there
    exact boxState_removed (s := changerHeard report s) room there

end Events
end Sys2Proof.Machine

namespace Sys2Proof.Proofs
open Sys2Proof Sys2Proof.Machine

/-- Settles O45: the answer by the kind of peripheral it comes from; at each, what a new report does and what a repeated one does. -/
theorem pollAnswers : Obligations.PollAnswers := by
  intro p age c report busy s on
  refine ⟨fun line es => ⟨validatorPoll_new on line, validatorPoll_repeated on line⟩, ⟨lever_unused, ?_, ?_, lever_owes⟩,
    fun line => ⟨fun es tb => changerPoll_repeated on line, fun new => ⟨fun tb => ?_, ?_, ?_, fun tb t n d out sent here =>
      ⟨changerPoll_payoutDone on line new out sent here, changerPoll_payoutJam on line new out sent here,
        changerPoll_jamAbove on line new out sent here⟩,
      fun tb => changerPoll_gauge on line new, fun tb => changerPoll_boxState on line new⟩⟩,
    fun line => ⟨fun st es => ?_, fun st es old => printerPoll_discards on line old, fun st new idle stub => ?_,
      fun st i j g new active cut => ?_⟩,
    fun line => ⟨fun es => modulePoll_fault on line, fun fault => modulePoll_fieldFault on line, modulePoll_new on line,
      fun old es => ⟨modulePoll_repeated on line old, modulePoll_repeated on line old⟩⟩,
    fun q st es line addr plain unknown => ?_⟩
  · intro collecting credit none
    rw [lever_cancels collecting, cancelCollecting_empty credit none]
  · intro collecting out some
    rw [lever_cancels collecting, cancelCollecting_waits collecting out some]
  · rw [changerPoll_new on line new, List.foldl_nil, changerBusy_busy]
    rfl
  · intro d out sent unheard
    rw [changerPoll_new on line new, List.foldl_nil, changerBusy_again (s := changerHeard report s) out sent unheard]
    rfl
  · exact fun d out sent acked => changerPoll_jams on line new out sent acked
  · by_cases old : (periph .printer s).lastReport = some report
    · exact ⟨_, printerPoll_repeated on line old, printerPolled_status ..⟩
    · exact ⟨_, printerPoll_new on line old, printerPolled_status ..⟩
  · obtain ⟨printed, -, error⟩ := printerPolled_keeps busy st (printerEvent (reportTaken .printer report s) .cutDone)
    obtain ⟨flag, same⟩ := cutDone_unmatched_keeps (s := reportTaken .printer report s) idle stub
    exact ⟨_, printerPoll_new on line new, error flag, printed.trans same⟩
  · obtain ⟨printed, -, -⟩ := printerPolled_keeps busy st (printerEvent (reportTaken .printer report s) .cutDone)
    refine ⟨_, printerPoll_new on line new, ?_⟩
    rw [List.foldl_cons, List.foldl_nil, printed]
    exact cutDone_printed (s := reportTaken .printer report s) active cut
  · obtain ⟨last, jam, kept, answer⟩ := forwardedPoll_figures (busy := busy) st
      (enqueue_answering ⟨2, q.tag, 1, .ok, .reply (some (.poll report (.printer st es))), none⟩ (heard .printer s))
    exact ⟨_, forwardedPoll_printer on line addr plain unknown, last, jam, kept.trans (heard_lastReport .printer s), answer⟩

end Sys2Proof.Proofs

namespace Sys2Proof.Machine

/-! ### The lowest of four entries (R76, R88) -/

section Entries
variable {e i : Fin 4} {x : CardId} {s : State}

theorem find_fours {f : Fin 4 → Bool} (he : f e = true) (low : ∀ i : Fin 4, i.val < e.val → f i = false) :
    fours.find? f = some e := by
  have split : ∀ e : Fin 4, fours = fours.take e.val ++ e :: fours.drop (e.val + 1) := by decide
  have before : ∀ e i : Fin 4, i ∈ fours.take e.val → i.val < e.val := by decide
  rw [split e, List.find?_append, List.find?_eq_none.2 fun i hi => by simp [low i (before e i hi)], List.find?_cons, he]
  rfl

theorem find_fours_none {f : Fin 4 → Bool} (h : ∀ i, f i = false) : fours.find? f = none :=
  List.find?_eq_none.2 fun i _ => by simp [h i]

theorem freeEntry_lowest (free : (entry e s).state = .free) (low : ∀ i : Fin 4, i.val < e.val → (entry i s).state ≠ .free) :
    freeEntry s = some e := find_fours (decide_eq_true free) fun i hi => decide_eq_false (low i hi)

/-- The entry holds the card id (R88). -/
def Holds (e : Fin 4) (x : CardId) (s : State) : Prop := (entry e s).state ≠ .free ∧ (entry e s).card = some x

theorem not_holds_iff : ¬ Holds e x s ↔ (entry e s).state = .free ∨ (entry e s).card ≠ some x := by
  simp only [Holds, not_and_or, not_not, ne_eq]

theorem holds_test : (decide ((entry e s).state ≠ .free) && decide ((entry e s).card = some x)) = true ↔ Holds e x s := by
  simp only [Holds, Bool.and_eq_true, decide_eq_true_eq]

theorem holds_test_false (h : ¬ Holds e x s) :
    (decide ((entry e s).state ≠ .free) && decide ((entry e s).card = some x)) = false :=
  Bool.eq_false_iff.2 (mt holds_test.1 h)

theorem entryOf_lowest (held : Holds e x s) (low : ∀ i : Fin 4, i.val < e.val → ¬ Holds i x s) : entryOf x s = some e :=
  find_fours (holds_test.2 held) fun i hi => holds_test_false (low i hi)

theorem entryOf_none (h : ∀ i, ¬ Holds i x s) : entryOf x s = none := find_fours_none fun i => holds_test_false (h i)

/-- No two entries hold one card: the one that does is found. -/
theorem entryOf_sole (held : Holds e x s) (alone : ∀ i, i ≠ e → ¬ Holds i x s) : entryOf x s = some e :=
  entryOf_lowest held fun i hi => alone i fun same => by rw [same] at hi; exact absurd hi (Nat.lt_irrefl _)

theorem heldElsewhere_none (alone : ∀ i, i ≠ e → ¬ Holds i x s) : heldElsewhere e x s = false := by
  refine List.any_eq_false.2 fun i _ held => ?_
  simp only [Bool.and_eq_true, decide_eq_true_eq] at held
  obtain ⟨⟨other, busy⟩, card⟩ := held
  exact alone i other ⟨busy, card⟩

end Entries

/-! ### DISCARD_PENDING (R98) -/

section Discard
variable {tag : Byte} {x : CardId} {e : Fin 4} {s : State}

theorem execDiscardPending_refused {r : Result} (h : takes (.discardPending tag x) s = true) (refused : discardCheck x s = .error r) :
    exec (.discardPending tag x) s = .next (answeredOnly 1 tag 28 r .empty (takeFrame s)) := by
  show execDiscardPending _ _ _ = _
  rw [execDiscardPending, request_taken h]
  rw [show discardCheck x (takeFrame s) = .error r from refused]
  rfl

theorem execDiscardPending_frees (h : takes (.discardPending tag x) s = true) (passes : discardCheck x s = .ok e) :
    exec (.discardPending tag x) s = .next (answeredOnly 1 tag 28 .ok .empty (discardEntry x e (takeFrame s))) := by
  show execDiscardPending _ _ _ = _
  rw [execDiscardPending, request_taken h]
  rw [show discardCheck x (takeFrame s) = .ok e from passes]
  rfl

theorem discardCheck_closed (closed : s.port.mode ≠ .serviceOpen) : discardCheck x s = .error .protectedReq := if_pos closed

theorem discardCheck_unheld (opened : s.port.mode = .serviceOpen) (h : ∀ e, ¬ Holds e x s) : discardCheck x s = .error .range := by
  rw [discardCheck, if_neg (not_not.2 opened), entryOf_none h]

theorem discardCheck_held (opened : s.port.mode = .serviceOpen) (held : Holds e x s)
    (low : ∀ i : Fin 4, i.val < e.val → ¬ Holds i x s) : discardCheck x s =
      if (entry e s).state ≠ .torn ∨ (entry e s).owner.isSome = true then .error .busy else .ok e := by
  rw [discardCheck, if_neg (not_not.2 opened), entryOf_lowest held low]

end Discard
end Sys2Proof.Machine

namespace Sys2Proof.Proofs
open Sys2Proof Sys2Proof.Machine

/-- Settles O36: the checks of DISCARD_PENDING by the entry that holds the card, and the entry freed with its record. -/
theorem discardPending : Obligations.DiscardPending := by
  intro tag x s h
  refine ⟨fun closed => execDiscardPending_refused h (discardCheck_closed closed),
    fun opened none => execDiscardPending_refused h (discardCheck_unheld opened none), fun e opened held low => ⟨fun busy => ?_,
    fun torn free => ?_⟩⟩
  · refine execDiscardPending_refused h ?_
    rw [discardCheck_held opened held low, if_pos (busy.imp_right Option.isSome_iff_ne_none.2)]
  · have passes : discardCheck x s = .ok e := by rw [discardCheck_held opened held low, torn, free]; rfl
    rw [execDiscardPending_frees h passes]
    rfl

end Sys2Proof.Proofs

namespace Sys2Proof.Machine

/-! ### The deny list requests (R80–R82) -/

section Deny
variable {tag : Byte} {x : CardId} {xs chunk : List CardId} {s : State}

/-- A new id stands between the smaller ids and the larger ones (R81). -/
theorem insertId_eq (h : Ascends xs) (new : x ∉ xs) :
    insertId x xs = xs.filter (fun y => y.toNat < x.toNat) ++ x :: xs.filter (fun y => x.toNat < y.toNat) := by
  induction xs with
  | nil => rfl
  | cons z zs ih =>
    obtain ⟨hz, hzs⟩ := List.pairwise_cons.1 h
    obtain ⟨ne, hnew⟩ := not_or.1 (mt List.mem_cons.2 new)
    have apart : x.toNat ≠ z.toNat := fun e => ne (BitVec.eq_of_toNat_eq e)
    unfold insertId
    split
    · rename_i lt
      have above : ∀ y ∈ zs, x.toNat < y.toNat := fun y hy => lt.trans (hz y hy)
      have smaller : (z :: zs).filter (fun y => y.toNat < x.toNat) = [] := by
        simp only [List.filter_eq_nil_iff, decide_eq_true_eq, Nat.not_lt]
        exact List.forall_mem_cons.2 ⟨lt.le, fun y hy => (above y hy).le⟩
      have larger : (z :: zs).filter (fun y => x.toNat < y.toNat) = z :: zs := by
        simp only [List.filter_eq_self, decide_eq_true_eq]
        exact List.forall_mem_cons.2 ⟨lt, above⟩
      rw [smaller, larger]
      rfl
    · rename_i ge
      have lt : z.toNat < x.toNat := by omega
      rw [ih hzs hnew, List.filter_cons_of_pos (by simpa using lt), List.filter_cons_of_neg (by simpa using lt.le)]
      rfl

theorem chunkSorted_iff : chunkSorted xs chunk = true ↔
    Ascends chunk ∧ ∀ l c, xs.getLast? = some l → chunk.head? = some c → l.toNat < c.toNat := by
  rw [chunkSorted, Bool.and_eq_true, idsAscending_iff]
  refine and_congr_right fun _ => ?_
  cases xs.getLast? <;> cases chunk.head? <;> simp

theorem denyLoadRefusal_empty : denyLoadRefusal xs [] = some .badLength := if_pos (.inl rfl)

/-- The checks of a chunk of 1 to 146 ids (R82). -/
theorem denyLoadRefusal_sized (some : chunk ≠ []) (short : chunk.length ≤ 146) : denyLoadRefusal xs chunk =
    if chunkSorted xs chunk = false then Option.some .unsorted
    else if 2048 < xs.length + chunk.length then Option.some .tableFull else none :=
  if_neg fun bad => bad.elim some (Nat.not_lt.2 short)

section Add
variable (h : takes (.denyAdd tag x) s = true)
include h

theorem execDenyAdd_taken : exec (.denyAdd tag x) s = .next (finish
    (if denied s.cards.deny x then denyAnswer tag 10 true (takeFrame s)
     else if 2048 ≤ s.cards.deny.length then mgmt tag 10 .tableFull (.count s.cards.deny.length) (takeFrame s)
     else denyAnswer tag 10 false (setDeny (insertId x s.cards.deny) (takeFrame s)))) := by
  show execDenyAdd _ _ _ = _
  rw [execDenyAdd, request_taken h]
  rfl

theorem execDenyAdd_known (known : denied s.cards.deny x = true) : exec (.denyAdd tag x) s =
    .next (answeredOnly 1 tag 10 .ok (.deny s.cards.deny.length true) (takeFrame s)) := by
  rw [execDenyAdd_taken h, if_pos known]
  rfl

theorem execDenyAdd_full (new : denied s.cards.deny x = false) (full : 2048 ≤ s.cards.deny.length) : exec (.denyAdd tag x) s =
    .next (answeredOnly 1 tag 10 .tableFull (.count s.cards.deny.length) (takeFrame s)) := by
  rw [execDenyAdd_taken h, if_neg (Bool.eq_false_iff.1 new), if_pos full]
  rfl

theorem execDenyAdd_new (new : denied s.cards.deny x = false) (room : s.cards.deny.length < 2048) : exec (.denyAdd tag x) s =
    .next (answeredOnly 1 tag 10 .ok (.deny (insertId x s.cards.deny).length false)
      { takeFrame s with cards := { s.cards with deny := insertId x s.cards.deny } }) := by
  rw [execDenyAdd_taken h, if_neg (Bool.eq_false_iff.1 new), if_neg (Nat.not_le.2 room)]
  rfl

end Add

section Remove
variable (h : takes (.denyRemove tag x) s = true)
include h

theorem execDenyRemove_taken : exec (.denyRemove tag x) s = .next (finish
    (if denied s.cards.deny x then
      denyAnswer tag 11 false (setDeny (s.cards.deny.filter (fun y => y ≠ x)) (takeFrame s))
     else denyAnswer tag 11 true (takeFrame s))) := by
  show execDenyRemove _ _ _ = _
  rw [execDenyRemove, request_taken h]
  rfl

theorem execDenyRemove_known (known : denied s.cards.deny x = true) : exec (.denyRemove tag x) s =
    .next (answeredOnly 1 tag 11 .ok (.deny (s.cards.deny.filter (fun y => y ≠ x)).length false)
      { takeFrame s with cards := { s.cards with deny := s.cards.deny.filter (fun y => y ≠ x) } }) := by
  rw [execDenyRemove_taken h, if_pos known]
  rfl

theorem execDenyRemove_unknown (new : denied s.cards.deny x = false) : exec (.denyRemove tag x) s =
    .next (answeredOnly 1 tag 11 .ok (.deny s.cards.deny.length true) (takeFrame s)) := by
  rw [execDenyRemove_taken h, if_neg (Bool.eq_false_iff.1 new)]
  rfl

end Remove

section Load
variable (h : takes (.denyLoad tag chunk) s = true)
include h

theorem execDenyLoad_refused {r : Result} (refused : denyLoadRefusal s.cards.deny chunk = some r) :
    exec (.denyLoad tag chunk) s = .next (answeredOnly 1 tag 12 r .empty (takeFrame s)) := by
  show execDenyLoad _ _ _ = _
  rw [execDenyLoad, request_taken h]
  rw [show denyLoadRefusal (takeFrame s).cards.deny chunk = some r from refused]
  rfl

theorem execDenyLoad_appends (passes : denyLoadRefusal s.cards.deny chunk = none) : exec (.denyLoad tag chunk) s =
    .next (answeredOnly 1 tag 12 .ok (.deny (s.cards.deny ++ chunk).length false)
      { takeFrame s with cards := { s.cards with deny := s.cards.deny ++ chunk } }) := by
  show execDenyLoad _ _ _ = _
  rw [execDenyLoad, request_taken h]
  dsimp only
  rw [show denyLoadRefusal (takeFrame s).cards.deny chunk = none from passes]
  rfl

end Load

theorem execDenyClear_empties (h : takes (.denyClear tag) s = true) : exec (.denyClear tag) s =
    .next (answeredOnly 1 tag 13 .ok (.deny 0 false) { takeFrame s with cards := { s.cards with deny := [] } }) := by
  show execDenyClear _ _ = _
  rw [execDenyClear, request_taken h]
  rfl

end Deny
end Sys2Proof.Machine

namespace Sys2Proof.Proofs
open Sys2Proof Sys2Proof.Machine

/-- Settles O29: membership is the binary search's answer, and each request by it or by its chunk's order and room. -/
theorem denyListRequests : Obligations.DenyListRequests := by
  refine ⟨fun tag x chunk s ok => ?_, fun c x ok => denied_iff ok.1 ok.2 x⟩
  obtain ⟨sorted, bounded⟩ := ok
  have listed : denied s.cards.deny x = true ↔ x ∈ s.cards.deny := denied_iff sorted bounded x
  have unlisted (new : x ∉ s.cards.deny) : denied s.cards.deny x = false := Bool.eq_false_iff.2 (mt listed.1 new)
  refine ⟨fun h => ⟨fun known => execDenyAdd_known h (listed.2 known), fun new full => execDenyAdd_full h (unlisted new) full,
      fun new room => ?_⟩,
    fun h => ⟨fun known => execDenyRemove_known h (listed.2 known), fun new => execDenyRemove_unknown h (unlisted new)⟩,
    fun h => ⟨fun empty => execDenyLoad_refused h (empty ▸ denyLoadRefusal_empty), fun some short => ⟨fun mixed => ?_,
      fun inOrder long => ?_, fun inOrder fits => ?_⟩⟩, execDenyClear_empties⟩
  · rw [execDenyAdd_new h (unlisted new) room, insertId_eq sorted new]
  · refine execDenyLoad_refused h ?_
    rw [denyLoadRefusal_sized some short, if_pos (Bool.eq_false_iff.2 (mt chunkSorted_iff.1 mixed))]
  · refine execDenyLoad_refused h ?_
    rw [denyLoadRefusal_sized some short, chunkSorted_iff.2 inOrder, if_neg (by decide), if_pos long]
  · refine execDenyLoad_appends h ?_
    rw [denyLoadRefusal_sized some short, chunkSorted_iff.2 inOrder, if_neg (by decide), if_neg (Nat.not_lt.2 fits)]

end Sys2Proof.Proofs

namespace Sys2Proof.Machine

/-! ### The image a write carries (R84, R89) -/

section Image
variable {ceiling : Nat} {b : Int} (d : Delta) (x : CardImage)

theorem clampBalance_below (h : b < 0) : clampBalance ceiling b = (0, 0) := if_pos h

theorem clampBalance_above (h : 0 ≤ b) : ((clampBalance ceiling b).1 : Int) + (clampBalance ceiling b).2 = b ∧
    (0 < (clampBalance ceiling b).2 → (clampBalance ceiling b).1 = ceiling) := by
  rw [clampBalance, if_neg (Int.not_lt.2 h)]
  split
  · exact ⟨by dsimp only; omega, fun _ => rfl⟩
  · exact ⟨by dsimp only; omega, fun cut => absurd cut (Nat.lt_irrefl 0)⟩

theorem clampBalance_le (ceiling : Nat) (b : Int) : (clampBalance ceiling b).1 ≤ ceiling := by
  unfold clampBalance
  split
  · exact Nat.zero_le _
  · split
    · exact Nat.le_refl _
    · dsimp only
      omega

/-- The pass that a delta leaves in slot i, where the slot held y. -/
def slotAfter (i : Fin 2) (pass : Option (Fin 2 × Pass)) (y : Option Pass) : Option Pass :=
  match pass with
  | some (j, q) => if j = i then some q else y
  | none => y

/-- The image a write carries, field by field (R89). -/
theorem writeImage_eq (ceiling : Nat) : writeImage ceiling d x = ({ x with
    balance := (clampBalance ceiling (x.balance + d.value)).1
    counter := x.counter + 1
    status := if d.block then .blocked else x.status
    slot0 := slotAfter 0 d.pass x.slot0
    slot1 := slotAfter 1 d.pass x.slot1
    topDay := d.topUp.elim x.topDay fun t => (topUpDays t x).topDay
    dayTotal := d.topUp.elim x.dayTotal fun t => (topUpDays t x).dayTotal },
    (clampBalance ceiling (x.balance + d.value)).2) := by
  obtain ⟨v, topUp, pass, block⟩ := d
  obtain _ | ⟨i, q⟩ := pass
  · cases block <;> obtain _ | ⟨_ | day, a⟩ := topUp <;> rfl
  · obtain rfl | rfl : i = 0 ∨ i = 1 := by omega
    · cases block <;> obtain _ | ⟨_ | day, a⟩ := topUp <;> rfl
    · cases block <;> obtain _ | ⟨_ | day, a⟩ := topUp <;> rfl

end Image
end Sys2Proof.Machine

namespace Sys2Proof.Proofs
open Sys2Proof Sys2Proof.Machine

/-- Settles O19: the written image field by field, its balance as the clamp leaves it. -/
theorem writtenImage : Obligations.WrittenImage := by
  intro ceiling d x
  dsimp only
  rw [writeImage_eq]
  refine ⟨clampBalance_le _ _, rfl, rfl, rfl, rfl, clampBalance_above, fun below => ?_, rfl, ?_, ?_, fun none => ?_, fun a undated => ?_,
    fun y a dated => ?_⟩
  · rw [clampBalance_below below]
    exact ⟨rfl, rfl⟩
  · obtain none | ⟨j, q⟩ := d.pass
    · rfl
    · obtain rfl | rfl : j = 0 ∨ j = 1 := by omega
      · rfl
      · rfl
  · obtain none | ⟨j, q⟩ := d.pass
    · rfl
    · obtain rfl | rfl : j = 0 ∨ j = 1 := by omega
      · rfl
      · rfl
  · rw [none]
    exact ⟨rfl, rfl⟩
  · rw [undated]
    exact ⟨rfl, rfl⟩
  · rw [dated]
    exact ⟨rfl, rfl⟩

end Sys2Proof.Proofs

namespace Sys2Proof.Machine

/-! ### Numbers in bytes (section 9.7) -/

theorem beBytes_length (k n : Nat) : (beBytes k n).length = k := by
  induction k with
  | zero => rfl
  | succ k ih => rw [beBytes, List.length_cons, ih]

theorem beNat_cons (b : Byte) (bs : List Byte) : beNat (b :: bs) = b.toNat * 256 ^ bs.length + beNat bs := by
  have from_acc (acc : Nat) : bs.foldl (fun acc b => acc * 256 + b.toNat) acc = acc * 256 ^ bs.length + beNat bs := by
    induction bs generalizing acc with
    | nil => simp [beNat]
    | cons c cs ih =>
      simp only [beNat, List.foldl_cons, List.length_cons] at ih ⊢
      rw [ih, ih (0 * 256 + c.toNat)]
      ring
  rw [beNat, List.foldl_cons, from_acc]
  ring

/-- A number is read back from as many bytes as it needs. -/
theorem beNat_beBytes (k n : Nat) : beNat (beBytes k n) = n % 256 ^ k := by
  induction k with
  | zero => rw [pow_zero, Nat.mod_one]; rfl
  | succ k ih =>
    rw [beBytes, beNat_cons, ih, beBytes_length, BitVec.toNat_ofNat, Nat.mod_pow_succ (x := n)]
    ring

section Fields
variable {bs : List Byte} {k l n off : Nat}

/-- The number at the head of a run of bytes. -/
theorem fieldAt_head (fits : n < 256 ^ k) : fieldAt (beBytes k n ++ bs) 0 k = n := by
  rw [fieldAt, List.drop_zero, List.take_left' (beBytes_length k n), beNat_beBytes, Nat.mod_eq_of_lt fits]

theorem drop_beBytes (h : k ≤ off) : (beBytes k n ++ bs).drop off = bs.drop (off - k) := by
  rw [List.drop_append, beBytes_length, List.drop_of_length_le (by rwa [beBytes_length]), List.nil_append]

/-- A number that stands behind another. -/
theorem fieldAt_behind (h : k ≤ off) : fieldAt (beBytes k n ++ bs) off l = fieldAt bs (off - k) l := by
  rw [fieldAt, drop_beBytes h, fieldAt]

end Fields

/-! ### The card image (R71) -/

/-- The ranges of a pass in a slot (R71). -/
def PassFits (q : Pass) : Prop :=
  q.product ≤ 31 ∧ 1 ≤ q.low ∧ q.low ≤ q.high ∧ q.high ≤ 16 ∧ q.first ≤ q.last ∧ q.last < 65536

theorem passBytes_length (y : Option Pass) : (passBytes y).length = 7 := by
  cases y with
  | none => rfl
  | some q => simp [passBytes, beBytes_length]

theorem passOf_passBytes {y : Option Pass} (fits : ∀ q, y = some q → PassFits q) : passOf (passBytes y) = some y := by
  cases y with
  | none => decide
  | some q =>
    obtain ⟨product, low, between, high, first, last⟩ := fits q rfl
    have bytes : passBytes (some q) = beBytes 1 q.product ++ (beBytes 1 q.low ++ (beBytes 1 q.high ++ (beBytes 2 q.first ++
        (beBytes 2 q.last ++ [])))) := by simp only [passBytes, List.append_assoc, List.append_nil]
    have read : fieldAt (passBytes (some q)) 0 1 = q.product ∧ fieldAt (passBytes (some q)) 1 1 = q.low ∧
        fieldAt (passBytes (some q)) 2 1 = q.high ∧ fieldAt (passBytes (some q)) 3 2 = q.first ∧
        fieldAt (passBytes (some q)) 5 2 = q.last := by
      rw [bytes]
      refine ⟨fieldAt_head (by omega), ?_, ?_, ?_, ?_⟩
      all_goals simp only [fieldAt_behind, Nat.reduceLeDiff, Nat.reduceSub]
      all_goals exact fieldAt_head (by omega)
    obtain ⟨read0, read1, read2, read3, read5⟩ := read
    simp only [passOf, read0, read1, read2, read3, read5]
    rw [if_neg (by omega), if_pos (by omega)]

/-- The codes of a card's kind and status (section 9.7). -/
def kindCode : CardKind → Nat
  | .standard => 0
  | .concession => 1

def statusCode : CardStatus → Nat
  | .active => 0
  | .blocked => 1

theorem kindCode_le (k : CardKind) : kindCode k ≤ 1 := by cases k <;> decide

theorem statusCode_le (y : CardStatus) : statusCode y ≤ 1 := by cases y <;> decide

theorem kind_of_code (k : CardKind) : (if kindCode k = 0 then CardKind.standard else .concession) = k := by cases k <;> rfl

theorem status_of_code (y : CardStatus) : (if statusCode y = 0 then CardStatus.active else .blocked) = y := by cases y <;> rfl

/-- The fields of an image's bytes, in the order of section 9.7. -/
theorem imageBytes_eq (x : CardImage) : imageBytes x = beBytes 7 x.id.toNat ++ (beBytes 1 (kindCode x.kind) ++
    (beBytes 1 x.cls ++ (beBytes 1 (statusCode x.status) ++ (beBytes 3 x.balance ++ (beBytes 2 x.counter.toNat ++
    (beBytes 2 x.topDay ++ (beBytes 3 x.dayTotal ++ (passBytes x.slot0 ++ passBytes x.slot1)))))))) := by
  simp only [imageBytes, List.append_assoc]
  cases x.kind <;> cases x.status <;> rfl

theorem imageBytes_length (x : CardImage) : (imageBytes x).length = 34 := by
  simp [imageBytes_eq, beBytes_length, passBytes_length]

theorem imageBytes_slots (x : CardImage) : ((imageBytes x).drop 20).take 7 = passBytes x.slot0 ∧
    ((imageBytes x).drop 27).take 7 = passBytes x.slot1 := by
  have slots : (imageBytes x).drop 20 = passBytes x.slot0 ++ passBytes x.slot1 := by
    simp only [imageBytes_eq, drop_beBytes, Nat.reduceLeDiff, Nat.reduceSub, List.drop_zero]
  constructor
  · rw [slots, List.take_left' (passBytes_length _)]
  · rw [show 27 = 20 + 7 from rfl, ← List.drop_drop, slots, List.drop_left' (passBytes_length _),
      List.take_of_length_le (passBytes_length _).le]

/-- The ranges of a card image (R71). -/
structure ImageFits (x : CardImage) : Prop where
  cls : x.cls ≤ 7
  balance : x.balance ≤ 500000
  topDay : x.topDay < 65536
  dayTotal : x.dayTotal ≤ 500000
  slot0 : ∀ q, x.slot0 = some q → PassFits q
  slot1 : ∀ q, x.slot1 = some q → PassFits q

/-- Each number of an image in its ranges, read from its place. -/
theorem imageBytes_fields {x : CardImage} (fits : ImageFits x) :
    fieldAt (imageBytes x) 0 7 = x.id.toNat ∧ fieldAt (imageBytes x) 7 1 = kindCode x.kind ∧ fieldAt (imageBytes x) 8 1 = x.cls ∧
    fieldAt (imageBytes x) 9 1 = statusCode x.status ∧ fieldAt (imageBytes x) 10 3 = x.balance ∧
    fieldAt (imageBytes x) 13 2 = x.counter.toNat ∧ fieldAt (imageBytes x) 15 2 = x.topDay ∧
    fieldAt (imageBytes x) 17 3 = x.dayTotal := by
  obtain ⟨cls, balance, topDay, dayTotal, -, -⟩ := fits
  have kind := kindCode_le x.kind
  have status := statusCode_le x.status
  have id := x.id.isLt
  have counter := x.counter.isLt
  rw [imageBytes_eq]
  refine ⟨fieldAt_head (by omega), ?_, ?_, ?_, ?_, ?_, ?_, ?_⟩
  all_goals simp only [fieldAt_behind, Nat.reduceLeDiff, Nat.reduceSub]
  all_goals exact fieldAt_head (by omega)

theorem imageOf_imageBytes {x : CardImage} (fits : ImageFits x) : imageOf (imageBytes x) = some x := by
  obtain ⟨id, kind, cls, status, balance, counter, topDay, dayTotal⟩ := imageBytes_fields fits
  obtain ⟨slot0, slot1⟩ := imageBytes_slots x
  rw [imageOf, if_pos]
  · rw [slot0, slot1, passOf_passBytes fits.slot0, passOf_passBytes fits.slot1]
    simp only [id, kind, cls, status, balance, counter, topDay, dayTotal, kind_of_code, status_of_code, BitVec.ofNat_toNat,
      BitVec.setWidth_eq]
  · rw [kind, cls, status, balance, dayTotal]
    exact ⟨imageBytes_length x, kindCode_le _, fits.cls, statusCode_le _, fits.balance, fits.dayTotal⟩

/-! ### Frames of the sale link (R188) -/

/-- A frame laid out by section 9.7 is taken: its last two bytes are the check over all before them. -/
theorem saleCheckRight_bytes (ch tag kind : Byte) (body : List Byte) : saleCheckRight (saleFrameBytes ch tag kind body) = true := by
  have checked (head : List Byte) (long : 5 ≤ head.length) : saleCheckRight (head ++ beBytes 2 (crc16 head).toNat) = true := by
    have length : (head ++ beBytes 2 (crc16 head).toNat).length = head.length + 2 := by rw [List.length_append, beBytes_length]
    have check : fieldAt (head ++ beBytes 2 (crc16 head).toNat) head.length 2 = (crc16 head).toNat := by
      rw [fieldAt, List.drop_left' rfl, List.take_of_length_le (beBytes_length _ _).le, beNat_beBytes]
      exact Nat.mod_eq_of_lt (crc16 head).isLt
    rw [saleCheckRight, length, Nat.add_sub_cancel, check, List.take_left' rfl]
    simp only [decide_true, Bool.and_true, decide_eq_true_eq]
    omega
  refine checked _ ?_
  simp only [List.length_cons, List.length_append, beBytes_length]
  omega

end Sys2Proof.Machine

namespace Sys2Proof.Proofs
open Sys2Proof Sys2Proof.Machine

/-- Settles O56: an image's fields read back one by one, the check of either link's frames, and both checks' figures. -/
theorem imageRoundTrip : Obligations.ImageRoundTrip := by
  refine ⟨fun x => ?_, fun ch tag kind body _ => saleCheckRight_bytes ch tag kind body,
    fun addr kind body => linkFrameTaken_bytes addr kind, by decide +kernel, by decide +kernel⟩
  intro fits cls balance topDay dayTotal slot0 slot1
  exact ⟨imageBytes_length x, imageOf_imageBytes ⟨cls, balance, topDay, dayTotal, slot0, slot1⟩⟩

end Sys2Proof.Proofs

namespace Sys2Proof.Machine

/-! ### Notices and the card commands of one event -/

theorem notify_moment (c : Nat) (b : NoticeBody) (s : State) : (notify c b s).port.moment = s.port.moment := by
  obtain ⟨-, ns, n, port⟩ := notify_masksOnly c b s
  rw [port]

/-- A card command is ready at the event's moment, whichever of its notices are queued (R174). -/
theorem pushCard_notify (p : Position) (c : CardCmd) (k : Nat) (b : NoticeBody) (s : State) :
    pushCard p c (notify k b s) = notify k b (pushCard p c s) := by
  rw [pushCard, notify_moment]
  rfl

theorem startWrite_notify (p : Position) (e : Fin 4) (purpose : WritePurpose) (owner : Option (Position × Nat)) (d : Delta)
    (customer : Nat) (x : CardImage) (k : Nat) (b : NoticeBody) (s : State) :
    startWrite p e purpose owner d customer x (notify k b s) = notify k b (startWrite p e purpose owner d customer x s) := by
  show pushCard p _ (notify k b (onEntry e _ s)) = _
  rw [pushCard_notify]
  rfl

/-! ### A QUOTE that reads a card (R76, R104, R105) -/

section Quote
variable {tag : Byte} {p : Position} {q : QuoteReq} {e : Fin 4} {busy : Bool} {s : State}

theorem quoteRefusal_open (h : QuoteOpen p q s) : quoteRefusal p q s = none := by
  obtain ⟨idle, inService, lend, room, coins, paper⟩ := h
  rw [quoteRefusal, if_neg (not_not.2 idle), if_neg (not_not.2 inService), if_neg (by rw [lent, lend]; decide),
    if_neg (show ¬ Config.journalGate ≤ _ from Nat.not_le.2 room), if_neg, if_neg]
  · exact fun ⟨medium, down⟩ => by rw [printerDown_serves (paper medium)] at down; cases down
  · exact fun ⟨payment, off⟩ => of_decide_eq_false off (coins payment)

theorem quoteTaken_reads (opened : QuoteOpen p q s) (reads : readsCard q = true) (stage : stage1 s.fare.live s.fare.clock q = none)
    (free : freeEntry s = some e) (on : (periph (cardAddr p) s).state = .online) :
    quoteTaken p tag q busy s = startReading p tag q e busy s := by
  have up : online (cardAddr p) s = true := decide_eq_true on
  simp only [quoteTaken, quoteRefusal_open opened, reads, stage, free, up, if_true]

/-- The session, its entry and its read, and the DETECT ready (R76, R105). -/
theorem startReading_eq (p : Position) (tag : Byte) (q : QuoteReq) (e : Fin 4) (busy : Bool) (s : State) :
    startReading p tag q e busy s = arbitrate busy (notify 0 (.session p .reading .quote)
      { s with
        sales := { s.sales with sess := s.sales.sess.set p { Session.idle ((sess p s).serial + 1) with
          tag := tag, state := .reading, req := some q, entry := some e, cardWait := some s.sales.timing.cardWait } }
        cards := { s.cards with
          entries := vset s.cards.entries e
            { PendingEntry.free with state := .reserved, owner := some (p, (sess p s).serial + 1) }
          reads := s.cards.reads.set p .detecting }
        link := { s.link with
          periph := vset s.link.periph (addrIndex (cardAddr p)) { periph (cardAddr p) s with pollDue := none }
          cardReady := s.link.cardReady ++ [⟨p, s.port.moment, .detect ((sess p s).serial + 1) false⟩] } }) := by
  have moved (n : Nat) (t : State) : beginRead p n (enter p .reading .quote t) = notify 0 (.session p .reading .quote)
      (beginRead p n (onSess p (fun x => { x with state := .reading }) t)) := by
    rw [beginRead, beginRead, enter, ← pushCard_notify]
    rfl
  have serial : (sess p (newSession p tag q s)).serial = (sess p s).serial + 1 := by rw [newSession, sess_onSess_self]; rfl
  have session {f g h : Session → Session} {y : PendingEntry} : onSess p h (onSess p g (onEntry e (fun _ => y) (onSess p f s))) =
      onEntry e (fun _ => y) (onSess p (fun x => h (g (f x))) s) := by
    rw [onSess_onSess]
    exact congrArg (onEntry e fun _ => y) (onSess_onSess p _ f s)
  rw [startReading, moved]
  refine congrArg (fun t => arbitrate busy (notify 0 _ t)) ?_
  dsimp only
  rw [serial, newSession, session]
  rfl

end Quote
end Sys2Proof.Machine

namespace Sys2Proof.Proofs
open Sys2Proof Sys2Proof.Machine

/-- Settles O16: the checks pass, the lowest FREE entry is found, and the read begins with it. -/
theorem quoteBeginsRead : Obligations.QuoteBeginsRead := by
  intro tag p q e busy s h opened reads stage free low on
  show execQuote _ _ _ _ _ = _
  rw [execQuote, request_taken h]
  dsimp only
  rw [quoteTaken_reads (s := takeFrame s) opened reads stage (freeEntry_lowest (s := takeFrame s) free low) on, startReading_eq]
  rfl

end Sys2Proof.Proofs

namespace Sys2Proof.Machine

/-! ### A sale's card write asked for (R89, R108, R113) -/

theorem enqueue_moment (a : Answer) (s : State) : (enqueue a s).port.moment = s.port.moment := by
  rw [enqueue, onPort_port]
  split <;> rfl

theorem pushCard_enqueue (p : Position) (c : CardCmd) (a : Answer) (s : State) :
    pushCard p c (enqueue a s) = enqueue a (pushCard p c s) := by
  rw [pushCard, enqueue_moment]
  rfl

theorem startWrite_enqueue (p : Position) (e : Fin 4) (purpose : WritePurpose) (owner : Option (Position × Nat)) (d : Delta)
    (customer : Nat) (x : CardImage) (a : Answer) (s : State) :
    startWrite p e purpose owner d customer x (enqueue a s) = enqueue a (startWrite p e purpose owner d customer x s) := by
  show pushCard p _ (enqueue a (onEntry e _ s)) = _
  rw [pushCard_enqueue]
  rfl

/-- The entry of a write asked for now (R83, R88, R89, R93). -/
def writing (s : State) (owner : Option (Position × Nat)) (d : Delta) (customer : Nat) (x : CardImage) : PendingEntry :=
  { state := .writing, owner := owner, card := some x.id, before := x.counter, delta := d, customer := customer
    created := clockStamp s.fare.clock, excess := (writeImage s.fare.live.params.ceiling d x).2 }

theorem startWrite_eq (p : Position) (e : Fin 4) (purpose : WritePurpose) (owner : Option (Position × Nat)) (d : Delta)
    (customer : Nat) (x : CardImage) (s : State) : startWrite p e purpose owner d customer x s = { s with
      cards := { s.cards with entries := vset s.cards.entries e (writing s owner d customer x) }
      link := { s.link with cardReady := s.link.cardReady ++ [⟨p, s.port.moment, .write ⟨e, purpose, x.counter,
        (writeImage s.fare.live.params.ceiling d x).1, (writeImage s.fare.live.params.ceiling d x).2⟩⟩] } } := rfl

section Ask
variable {p : Position} {q : QuoteReq} {r : QuoteResult} {c : CardQuote} {img : CardImage} {e : Fin 4} {s : State}

theorem askWrite_sends (held : (sess p s).held = some img) (own : (sess p s).entry = some e)
    (alone : heldElsewhere e img.id s = false) (on : online (cardAddr p) s = true) : askWrite p s =
      startWrite p e .sale (some (p, (sess p s).serial)) (saleDelta (sess p s)) (customerValue (sess p s)) img
        (onSess p (fun y => { y with stage := .cardWrite }) s) := by
  simp only [askWrite, held, own, alone, on, Bool.false_eq_true, Bool.true_eq_false, if_false]

/-- A sale of a pass paid from stored value, its price to be debited (R86, R108). -/
structure PassSale (x : Session) (r : QuoteResult) (c : CardQuote) : Prop where
  payment : x.payment = some .storedValue
  medium : mediumOf x = .card
  result : x.result = some r
  card : r.card = some c
  topUp : c.topUp = none

theorem PassSale.cardQuote {x : Session} (h : PassSale x r c) : cardQuoteOf x = some c := by
  simp only [cardQuoteOf, h.result, h.card]

theorem PassSale.value {x : Session} (h : PassSale x r c) : (saleDelta x).value = - (r.price : Int) := by
  simp [saleDelta, h.cardQuote, h.topUp, payOf, h.payment, priceOf, h.result]

theorem PassSale.noTopUp {x : Session} (h : PassSale x r c) : (saleDelta x).topUp = none := by
  simp [saleDelta, h.cardQuote, h.topUp]

theorem PassSale.customer {x : Session} (h : PassSale x r c) : customerValue x = r.price := by
  simp [customerValue, payOf, h.payment, priceOf, h.result]

theorem PassSale.hasWrite {x : Session} (h : PassSale x r c) (priced : 0 < r.price) : hasWrite x = true := by
  have debit : (saleDelta x).value ≠ 0 := by rw [h.value]; omega
  simp [Machine.hasWrite, h.medium, debit]

end Ask

section PayCard
variable {p : Position} {q : QuoteReq} {r : QuoteResult} {c : CardQuote} {img : CardImage} {e : Fin 4} {s : State}

/-- The record of a session whose PAY from stored value is noted. -/
def storedNoted (x : Session) : Session := { x with quoteLife := none, payment := some .storedValue, due := 0 }

theorem payTaken_stored (card : mediumOf (sess p s) = .card) :
    payTaken p .storedValue s = enterIssuing p .pay (onSess p storedNoted s) := by
  have ready : reserveSlot p (onSess p storedNoted s) = onSess p storedNoted s :=
    if_pos (by rw [sess_onSess_self]; exact card)
  rw [← ready]
  exact if_pos (.inr rfl)

theorem enterIssuing_writes {r : ChangeReason} (h : hasWrite (sess p (issuing p r s)) = true) :
    enterIssuing p r s = askWrite p (issuing p r s) := if_pos h

/-- The record of a session that has asked for its sale's write. -/
def asksWrite (x : Session) : Session := { x with inactivity := none, state := .issuing, stage := .cardWrite }

/-- ISSUING is entered with the sale's write asked for (R89, R113). -/
theorem payTaken_writes (sale : PassSale (storedNoted (sess p s)) r c) (priced : 0 < r.price) (held : (sess p s).held = some img)
    (own : (sess p s).entry = some e) (alone : heldElsewhere e img.id s = false) (on : online (cardAddr p) s = true) :
    payTaken p .storedValue s = notify 0 (.session p .issuing .pay)
      (startWrite p e .sale (some (p, (sess p s).serial)) (saleDelta (storedNoted (sess p s))) r.price img
        (onSess p (fun x => asksWrite (storedNoted x)) s)) := by
  have session : sess p (issuing p .pay (onSess p storedNoted s)) =
      { storedNoted (sess p s) with inactivity := none, state := .issuing } := by rw [issuing_sess, sess_onSess_self]
  have writes : hasWrite (sess p (issuing p .pay (onSess p storedNoted s))) = true := by
    rw [session]
    exact sale.hasWrite priced
  have asked : onSess p (fun y => { y with stage := .cardWrite }) (issuing p .pay (onSess p storedNoted s)) =
      notify 0 (.session p .issuing .pay) (onSess p (fun x => asksWrite (storedNoted x)) s) := by
    rw [issuing, onSess_onSess, enter, onSess_onSess, show onSess p _ (notify _ _ _) = notify _ _ (onSess p _ _) from rfl, onSess_onSess]
    rfl
  have sent := askWrite_sends (s := issuing p .pay (onSess p storedNoted s)) (by rw [session]; exact held)
    (by rw [session]; exact own) alone on
  rw [payTaken_stored sale.medium, enterIssuing_writes writes, sent, session, asked, startWrite_notify, ← sale.customer]
  rfl

end PayCard
end Sys2Proof.Machine

namespace Sys2Proof.Proofs
open Sys2Proof Sys2Proof.Machine

/-- Settles O18: the PAY's checks pass, the sale has its price to write, and its write is asked for under its entry. -/
theorem payByCardAsksForTheWrite : Obligations.PayByCardAsksForTheWrite := by
  intro tag p q r c img e busy s h quoted mode req payment medium result free priced card topUp held own alone on d w writing
  have quote : Quoted p q r s := ⟨quoted, mode, req, result⟩
  have sale : PassSale (storedNoted (sess p s)) r c := ⟨rfl, quote.mediumOf.trans medium, result, card, topUp⟩
  have sole : heldElsewhere e img.id s = false := heldElsewhere_none fun i hi => not_holds_iff.2 (alone i hi)
  have passes : payRefusal p .storedValue s = none :=
    payRefusal_none quote (fun _ => payment) (fun coins => by cases coins) fun paper => by cases medium.symm.trans paper
  refine ⟨sale.value, sale.noTopUp, rfl, ?_⟩
  rw [execPay_taken h passes, payTaken_writes (s := enqueue _ (takeFrame s)) sale priced held own sole (decide_eq_true on)]
  refine congrArg (fun t => Host.Outcome.next (settle busy (masks none (notify 0 _ t)))) ?_
  rw [show onSess p _ (enqueue _ _) = enqueue _ (onSess p _ (takeFrame s)) from rfl, startWrite_enqueue, startWrite_eq]
  rfl

end Sys2Proof.Proofs

namespace Sys2Proof.Machine

/-! ### The SALE record of a close (R125, R156) -/

section Sale
variable {p : Position} {s t : State}

/-- A session that was not refunded at its end leaves a SALE record (R125). -/
theorem closeSession_sale (kept : (sess p s).refunded = false) (room : s.journal.records.length < 512) :
    Recorded p (.sale (saleRec ((sess p s).endReason.getD .sold) (sess p s)))
      (saleRise false ((sess p s).endReason.getD .sold) (sess p s)) s (closeSession p s) := by
  have close : closeSession p s = release p ((sess p s).endReason.getD .sold) (closeJobs p false ((sess p s).endReason.getD .sold)
      (nextSeq s) (sess p s) (append (some p) (.sale (saleRec ((sess p s).endReason.getD .sold) (sess p s)))
        (addTotals (saleRise false ((sess p s).endReason.getD .sold) (sess p s)) s))) := by
    unfold closeSession
    simp only [kept]
    rfl
  refine (append_recorded _ _ room).of_unnoted ?_
  rw [close, release_journal, closeJobs_unnoted]

/-- One sale of the product sold is counted, where it is one of the 32 (R156). -/
theorem addRise_sales (r : TotalRise) (t : Totals) (i : Fin 32) :
    vget (addRise r t).sales i = vget t.sales i + (if r.sold = some i.val then 1 else 0) := by
  cases sold : r.sold with
  | none => simp [addRise, sold]
  | some n =>
    by_cases inTable : n < 32
    · have index : toFin? 32 n = some ⟨n, inTable⟩ := toFin?_val ⟨n, inTable⟩
      simp only [addRise, sold, index]
      by_cases same : i = ⟨n, inTable⟩
      · rw [same, vmodify, vget_vset_self, if_pos rfl]
      · rw [vmodify, vget_vset_ne _ same, if_neg fun e => same (Fin.ext (Option.some.inj e).symm)]
        exact (BitVec.add_zero _).symm
    · have outside : toFin? 32 n = none := toFin?_none (Nat.le_of_not_lt inTable)
      have apart : ¬ some n = some i.val := fun e => inTable (Option.some.inj e ▸ i.isLt)
      simp only [addRise, sold, outside, if_neg apart]
      exact (BitVec.add_zero _).symm

/-- What a SALE record's figures add to the totals (R156). -/
theorem addRise_sale (reason : EndReason) (x : Session) (t : Totals) : Raised x.changePaid x.refundPaid (x.owed + x.cardOwed)
    (if x.write = .done then x.loaded else 0) (if payOf x = .storedValue then x.debited - x.creditedBack else 0)
    (if reason = .sold then x.result.map (·.product) else none) (isFree x) (decide (reason = .writeUnresolved))
    t (addRise (saleRise false reason x) t) := by
  refine ⟨rfl, rfl, rfl, rfl, rfl, rfl, rfl, fun i => ?_, ?_, ?_⟩
  · rw [addRise_sales]
    simp [saleRise]
  · simp only [addRise, saleRise, Bool.and_eq_true, true_and]
    generalize (if reason = .sold then x.result.map (·.product) else none) = sold
    split
    · rfl
    · exact (BitVec.add_zero _).symm
  · simp only [addRise, saleRise, decide_true, Bool.true_and]
    split <;> simp

/-- The record of a session that was priced (R125). -/
theorem saleRec_priced {r : QuoteResult} (reason : EndReason) {x : Session} (result : x.result = some r) :
    (saleRec reason x).debited = x.debited ∧ (saleRec reason x).creditedBack = x.creditedBack ∧
    (saleRec reason x).balanceAfter = x.balanceAfter ∧ (saleRec reason x).priceKept = x.priceKept ∧
    (saleRec reason x).product = r.product ∧ (saleRec reason x).card = r.card.map (·.id) := by
  simp only [saleRec, cardQuoteOf, result, and_self]

/-! ### A sale whose ticket failed (R93, R118) -/

/-- A session whose credit-back is over: what was credited back, what is owed for it, and what its write left. -/
def creditOver (back owed cardOwed : Nat) (after : Option Nat) (held : Option CardImage) (entry : Option (Fin 4)) (x : Session) :
    Session :=
  { x with creditedBack := back, owed := x.owed + owed, cardOwed := x.cardOwed + cardOwed, balanceAfter := after, held := held
           entry := entry, stage := .none }

theorem TicketFailedClosed.of_same {back owed cardOwed : Nat} {after : Option Nat} {u v : State}
    (h : TicketFailedClosed p back owed cardOwed after s u) (sales : v.sales = u.sales) (journal : v.journal = u.journal) :
    TicketFailedClosed p back owed cardOwed after s v := by
  rwa [TicketFailedClosed, sess_of_sales p sales, journal]

/-- Its close records what was credited back and what is owed for it (R93, R118, R125, R156). -/
theorem closeSession_ticketFailed {back owed cardOwed : Nat} {after : Option Nat} {held : Option CardImage} {e : Option (Fin 4)}
    {q : QuoteResult} (sale : TicketFailedSale p s) (result : (sess p s).result = some q) (charged : q.free = false)
    (session : sess p t = creditOver back owed cardOwed after held e (sess p s)) (journal : t.journal = s.journal) :
    TicketFailedClosed p back owed cardOwed after s (closeSession p t) := by
  obtain ⟨reason, stored, kept, room⟩ := sale
  have recorded := closeSession_sale (p := p) (s := t)
  rw [session, journal] at recorded
  obtain ⟨bodies, last, running⟩ := recorded kept room
  rw [journal] at bodies last running
  have failed : (creditOver back owed cardOwed after held e (sess p s)).endReason.getD .sold = .ticketFailed :=
    congrArg (·.getD EndReason.sold) reason
  rw [failed] at bodies running
  have priced : (creditOver back owed cardOwed after held e (sess p s)).result = some q := result
  obtain ⟨reasonIs, -, changePaid, refundPaid, owedIs, cardOwedIs⟩ :=
    saleRec_figures .ticketFailed (creditOver back owed cardOwed after held e (sess p s))
  obtain ⟨debited, creditedBack, balanceAfter, -⟩ := saleRec_priced .ticketFailed priced
  refine ⟨(closeSession_ends p t).1, _, bodies, last, reasonIs, debited, creditedBack, owedIs, cardOwedIs, balanceAfter, ?_⟩
  rw [running, changePaid, refundPaid, owedIs, cardOwedIs, debited]
  have rise := addRise_sale .ticketFailed (creditOver back owed cardOwed after held e (sess p s)) s.journal.running
  rwa [if_pos (show payOf (creditOver back owed cardOwed after held e (sess p s)) = .storedValue from
    congrArg (·.getD Payment.coins) stored), if_neg (show EndReason.ticketFailed ≠ .sold by decide),
    isFree_false fun r h => by cases priced.symm.trans h; exact charged]
    at rise

/-! ### A session that ends or is held (R123) -/

theorem wantEnd_holds (out : currentList p s ≠ []) : wantEnd p s = onSess p (fun x => { x with stage := .held }) s := if_neg out

theorem wantEnd_closes (settled : currentList p s = []) : wantEnd p s = closeSession p s := if_pos settled

/-- A session's list is what it was while its serial and its life last. -/
theorem currentList_same (coins : t.coins = s.coins) (serial : (sess p t).serial = (sess p s).serial)
    (state : ((sess p t).state = .idle) = ((sess p s).state = .idle)) : currentList p t = currentList p s := by
  rw [currentList, currentList, lane, lane, coins]
  refine List.filter_congr fun e _ => ?_
  simp only [current, serial, ne_eq, state]

/-- A session whose coin is outstanding is not over. -/
theorem busy_of_currentList (out : currentList p s ≠ []) : (sess p s).state ≠ .idle := by
  intro idle
  refine out (List.filter_eq_nil_iff.2 fun e _ => ?_)
  simp [current, idle]

end Sale
end Sys2Proof.Machine

namespace Sys2Proof.Machine

/-! ### What the controllers leave of the link and of an entry -/

section Kept
variable {s t : State} {e : Fin 4}

theorem Controls.writeOut (h : Controls s t) : t.link.writeOut = s.link.writeOut := (congrArg (fun u => u.link.writeOut) h.aside :)

/-- The controllers leave an entry with no owner alone (R88). -/
theorem Controls.unowned (h : Controls s t) (free : (Machine.entry e s).owner = none) : Machine.entry e t = Machine.entry e s := by
  refine h.keeps (I := fun u => Machine.entry e u = Machine.entry e s) (fun {p u v} c same => ?_) rfl
  have kept : Machine.entry e v = Machine.entry e u := by
    cases c with
    | disown n =>
      have none : (vget u.cards.entries e).owner = none := by rw [← free]; exact congrArg PendingEntry.owner same
      simp only [Machine.entry, disownAll, onCards_cards, vget_vmap, disown, none]
      rfl
    | hand =>
      obtain ⟨r, d, eq⟩ := handDispense_eq u
      rw [eq]
      rfl
    | overrun => unfold raiseOverrun; split <;> rfl
    | _ => rfl
  exact kept.trans same

/-! ### The ticket step and a write that is done (R114, R117) -/

theorem queueTicket_controlled {p : Position} (i : Fin 8) (x : SaleFields) (s : State) : Controlled p s (queueTicket p i x s).1 := by
  have numbered : Controlled p s (bumpQueue s) := onPrint_controlled (.refl p s) fun _ => ⟨rfl, rfl, rfl⟩
  unfold queueTicket
  dsimp only
  split
  · exact jobFailed_controlled (setSlot_controlled numbered fun _ => not_busy_free)
  · rename_i serves
    exact tryBegin_controlled (setSlot_controlled numbered fun off => absurd off (online_of_serves serves))

theorem ticketStep_controls (p : Position) (s : State) : Controls s (ticketStep p s) := by
  unfold ticketStep
  split
  · exact (issueSucceeded_controlled (.refl p s)).controls
  · have queued : Controls s (onSess p (fun x => { x with ticket := .queued, stage := .ticket }) s) :=
      ((Controlled.refl p s).andThen (.sess _ s)).controls
    dsimp only
    split
    · exact (queued.trans (queueTicket_controlled _ _ _).controls).trans (handTickets_controls _)
    · exact queued.trans (ticketFailed_controlled (.refl p _)).controls

theorem handedDone_controls (p : Position) (x : CardImage) (excess : Nat) (s : State) : Controls s (handedDone p x excess s) :=
  (((Controlled.refl p s).andThen (.sess _ s)).controls).trans (ticketStep_controls p _)

end Kept

/-! ### The results of a WRITE (R91–R96) -/

section Written
variable {p : Position} {w : CardWrite} {s : State}

/-- A WRITE of a sale, a block or a credit-back that is done settles or frees its entry; the rest is the controllers' work. -/
theorem writeEnded_ok (p : Position) (other : w.purpose ≠ .completion) (s : State) :
    Controls (writeFailedEntry w s) (writeEnded p w .ok s) := by
  refine Controls.trans ?_ (wakeReads_controls w.image.id _)
  cases purpose : w.purpose with
  | sale =>
    simp only [writeFailedEntry, purpose, saleWritten]
    cases ownerOf w.entry s with
    | some q => exact handedDone_controls q _ _ _
    | none => exact .refl _
  | block =>
    simp only [writeFailedEntry, purpose, blockWritten]
    exact .refl _
  | creditBack =>
    simp only [writeFailedEntry, purpose, creditWritten]
    cases ownerOf w.entry s with
    | some q => exact (wantEnd_controlled ((Controlled.refl q _).andThen (.sess _ _))).controls
    | none => exact .refl _
  | completion => exact absurd purpose other

/-- The entry of a WRITE that tears: a credit-back's waits for nothing any more (R92, R93). -/
def writeTornEntry (w : CardWrite) (s : State) : State :=
  if w.purpose = .creditBack ∧ (ownerOf w.entry s).isSome = true then
    onEntry w.entry (fun x => { x with state := .torn, owner := none }) s
  else tearEntry w.entry s

theorem writeTornEntry_state (w : CardWrite) (s : State) : (entry w.entry (writeTornEntry w s)).state = .torn := by
  unfold writeTornEntry
  split
  · rw [entry_onEntry_self]
  · rw [tearEntry, entry_onEntry_self]

theorem writeEnded_torn (p : Position) (w : CardWrite) (s : State) : Controls (writeTornEntry w s) (writeEnded p w .torn s) := by
  refine Controls.trans ?_ (wakeReads_controls w.image.id _)
  cases purpose : w.purpose with
  | sale =>
    simp only [writeTornEntry, purpose, saleWritten]
    cases ownerOf w.entry s with
    | some q => exact ((Controlled.refl q _).andThen (.sess _ _)).controls
    | none => exact .refl _
  | block =>
    simp only [writeTornEntry, purpose, blockWritten]
    exact .refl _
  | creditBack =>
    simp only [writeTornEntry, purpose, creditWritten]
    cases ownerOf w.entry s with
    | some q => exact (notCredited_controlled ((Controlled.refl q _).andThen (.sess _ _))).controls
    | none => exact .refl _
  | completion =>
    simp only [writeTornEntry, purpose, reduceCtorEq, false_and, if_false, completionWritten]
    split
    · exact ((Controlled.refl p _).andThen (.read _ _)).controls
    · exact .refl _

end Written
end Sys2Proof.Machine

namespace Sys2Proof.Machine

/-! ### A WRITE's answer taken (R90, R91, R171, R176) -/

section Answered
variable {p : Position} {w : CardWrite} {card : CardId} {r : WriteResult} {busy : Bool} {s u : State}

/-- The answer of a module to a WRITE. -/
def writeCommand (p : Position) (card : CardId) (busy : Bool) : WriteResult → Instr
  | .ok => .writeOk p card busy
  | .failed f => .writeFailed p card f busy
  | .torn => .writeUncertain p card busy

theorem exec_writeCommand (on : running s = true) :
    exec (writeCommand p card busy r) s = .next (writeAnswered p card r busy s) := by
  cases r <;> exact congrArg Host.Outcome.next (if_pos on)

theorem exec_writeCommand_idle (on : running s = true) (idle : s.link.line = .idle) :
    exec (writeCommand p card busy r) s = .next (served busy (writeAnswer p card r s)) := by
  rw [exec_writeCommand on, writeAnswered, idle]
  rfl

/-- The answer is counted, with MODULE_ERROR for an ERROR (R173, R176). -/
def writeHeard (p : Position) (r : WriteResult) (s : State) : State :=
  if r = .failed .error then raiseFault (cardAddr p) .moduleError (answered (cardAddr p) s) else answered (cardAddr p) s

theorem writeAnswer_taken (out : s.link.writeOut.get p = some w) (id : w.image.id = card) :
    writeAnswer p card r s = endWrite p w r (writeHeard p r s) := by
  simp only [writeAnswer, out, id, if_true, writeHeard]

/-- The end of a WRITE's step: its module's poll falls due, and the masks and the line are served. -/
def writeServed (busy : Bool) (p : Position) (u : State) : State := served busy (pollFallsDue (cardAddr p) u)

/-- A WRITE's answer is taken with a result (R91, R176). -/
theorem writeCommand_taken (on : running s = true) (idle : s.link.line = .idle) (out : s.link.writeOut.get p = some w)
    (id : w.image.id = card) : exec (writeCommand p card busy r) s =
      .next (writeServed busy p (writeEnded p w r (writeOver p (writeHeard p r s)))) := by
  rw [exec_writeCommand_idle on idle, writeAnswer_taken out id]
  rfl

theorem writeTimeout_runs (on : s.power = true) (held : writeHeld p s = true) :
    exec (.writeAnswerTimeout p busy) s = .next (served busy (writeTimedOut p s)) := expiry_occurs on held

/-- A WRITE's answer timeout leaves it unknown (R92). -/
theorem writeTimeout_torn (on : s.power = true) (out : s.link.writeOut.get p = some w) : exec (.writeAnswerTimeout p busy) s =
    .next (writeServed busy p (writeEnded p w .torn (writeOver p s))) := by
  rw [writeTimeout_runs on (by rw [writeHeld, out]; rfl), writeTimedOut, out]
  rfl

theorem writeTimeout_idle (free : s.link.writeOut.get p = none) (own : s.link.passWrite.get p = none) :
    exec (.writeAnswerTimeout p busy) s = .next s := by
  have idle : writeHeld p s = false := by rw [writeHeld, free, own]; rfl
  show expiry (writeHeld p s) _ _ _ = _
  rw [idle, expiry, Bool.and_false]
  rfl

theorem pollFallsDue_blocks (a : Addr) (s : State) : (pollFallsDue a s).sales = s.sales ∧ (pollFallsDue a s).cards = s.cards ∧
    (pollFallsDue a s).journal = s.journal ∧ (pollFallsDue a s).link.writeOut = s.link.writeOut := by
  unfold pollFallsDue
  split <;> exact ⟨rfl, rfl, rfl, rfl⟩

theorem pollFallsDue_flags (a b : Addr) (s : State) : (periph b (pollFallsDue a s)).flags = (periph b s).flags := by
  unfold pollFallsDue
  split
  · rfl
  · rw [makeDue, onPeriph_periph]
    split
    · rename_i same
      rw [same]
      rfl
    · rfl

theorem writeServed_sales : (writeServed busy p u).sales = u.sales := (served_sales busy _).trans (pollFallsDue_blocks _ u).1

theorem writeServed_cards : (writeServed busy p u).cards = u.cards := (served_cards busy _).trans (pollFallsDue_blocks _ u).2.1

theorem writeServed_journal : (writeServed busy p u).journal = u.journal :=
  (served_journal busy _).trans (pollFallsDue_blocks _ u).2.2.1

theorem writeServed_writeOut : (writeServed busy p u).link.writeOut = u.link.writeOut :=
  (congrArg (fun t => t.link.writeOut) (served_unserved busy _) :).trans (pollFallsDue_blocks _ u).2.2.2

theorem writeServed_moduleError (error : (periph (cardAddr p) u).flags.moduleError = true) :
    (periph (cardAddr p) (writeServed busy p u)).flags.moduleError = true := by
  refine (served_periph busy _ (cardAddr p)).flag (f := Flags.moduleError) ?_ fun _ => .inr rfl
  rw [pollFallsDue_flags, error]

theorem writeHeard_blocks (p : Position) (r : WriteResult) (s : State) :
    (writeHeard p r s).sales = s.sales ∧ (writeHeard p r s).cards = s.cards ∧ (writeHeard p r s).journal = s.journal ∧
    (writeHeard p r s).coins = s.coins ∧ (writeHeard p r s).fare = s.fare := by
  unfold writeHeard
  split
  · exact ⟨raiseFault_sales _ _ _, raiseFault_cards _ _ _, raiseFault_journal _ _ _, raiseFault_coins _ _ _, raiseFault_fare _ _ _⟩
  · exact ⟨rfl, rfl, rfl, rfl, rfl⟩

theorem writeHeard_error (p : Position) (s : State) : (periph (cardAddr p) (writeHeard p (.failed .error) s)).flags.moduleError = true := by
  rw [writeHeard, if_pos rfl, raiseFault_periph, if_pos rfl]
  rfl

/-- What a WRITE's result shows once it is over: the entry's state, with nothing outstanding at the module. -/
theorem writeServed_over {v : State} (h : Controls v (writeEnded p w r (writeOver p u))) (link : v.link = (writeOver p u).link) :
    (writeServed busy p (writeEnded p w r (writeOver p u))).link.writeOut.get p = none ∧
    ((entry w.entry v).state = .torn →
      (entry w.entry (writeServed busy p (writeEnded p w r (writeOver p u)))).state = .torn) ∧
    ((entry w.entry v).state = .free ∨ (entry w.entry v).state = .reserved →
      (entry w.entry (writeServed busy p (writeEnded p w r (writeOver p u)))).state = .free ∨
      (entry w.entry (writeServed busy p (writeEnded p w r (writeOver p u)))).state = .reserved) ∧
    ((periph (cardAddr p) u).flags.moduleError = true →
      (periph (cardAddr p) (writeServed busy p (writeEnded p w r (writeOver p u)))).flags.moduleError = true) := by
  have same : entry w.entry (writeServed busy p (writeEnded p w r (writeOver p u))) =
      entry w.entry (writeEnded p w r (writeOver p u)) := by rw [entry, writeServed_cards, entry]
  rw [same]
  have left := h.entry w.entry
  refine ⟨?_, fun torn => ?_, fun settled => ?_, fun error => writeServed_moduleError ?_⟩
  · rw [writeServed_writeOut, h.writeOut, link]
    exact Pair.get_set_self _ _ _
  · obtain kept | ⟨was, -⟩ := left
    · rw [kept, torn]
    · cases torn.symm.trans was
  · obtain kept | ⟨-, free⟩ := left
    · rwa [kept]
    · exact .inl free
  · rw [h.periph, periph, link]
    exact error

theorem writeFailedEntry_link (w : CardWrite) (s : State) : (writeFailedEntry w s).link = s.link := by
  unfold writeFailedEntry settleEntry
  split
  · split <;> rfl
  · rfl
  · split <;> rfl
  · rfl

theorem writeTornEntry_link (w : CardWrite) (s : State) : (writeTornEntry w s).link = s.link := by
  unfold writeTornEntry
  split <;> rfl

section Over
variable (busy : Bool) (p : Position) (w : CardWrite) (u : State)

/-- A WRITE whose outcome is unknown tears its entry (R92, R97). -/
theorem writeServed_torn : (writeServed busy p (writeEnded p w .torn (writeOver p u))).link.writeOut.get p = none ∧
    (entry w.entry (writeServed busy p (writeEnded p w .torn (writeOver p u)))).state = .torn := by
  obtain ⟨gone, torn, -⟩ := writeServed_over (busy := busy) (writeEnded_torn p w (writeOver p u)) (writeTornEntry_link w _)
  exact ⟨gone, torn (writeTornEntry_state w _)⟩

theorem writeServed_ok (other : w.purpose ≠ .completion) :
    (writeServed busy p (writeEnded p w .ok (writeOver p u))).link.writeOut.get p = none ∧
    ((entry w.entry (writeServed busy p (writeEnded p w .ok (writeOver p u)))).state = .free ∨
      (entry w.entry (writeServed busy p (writeEnded p w .ok (writeOver p u)))).state = .reserved) := by
  obtain ⟨gone, -, settled, -⟩ := writeServed_over (busy := busy) (writeEnded_ok p other (writeOver p u)) (writeFailedEntry_link w _)
  exact ⟨gone, settled ((writeFailedEntry_state w _).1 other)⟩

/-- A WRITE that failed settles its entry, or tears a completion's again; MODULE_ERROR stays raised (R91, R97). -/
theorem writeServed_failed (f : WriteFault) :
    (writeServed busy p (writeEnded p w (.failed f) (writeOver p u))).link.writeOut.get p = none ∧
    (w.purpose ≠ .completion →
      (entry w.entry (writeServed busy p (writeEnded p w (.failed f) (writeOver p u)))).state = .free ∨
      (entry w.entry (writeServed busy p (writeEnded p w (.failed f) (writeOver p u)))).state = .reserved) ∧
    (w.purpose = .completion →
      (entry w.entry (writeServed busy p (writeEnded p w (.failed f) (writeOver p u)))).state = .torn) ∧
    ((periph (cardAddr p) u).flags.moduleError = true →
      (periph (cardAddr p) (writeServed busy p (writeEnded p w (.failed f) (writeOver p u)))).flags.moduleError = true) := by
  obtain ⟨gone, torn, settled, error⟩ :=
    writeServed_over (busy := busy) (writeEnded_failed p w f (writeOver p u)) (writeFailedEntry_link w _)
  obtain ⟨held, completion⟩ := writeFailedEntry_state w (writeOver p u)
  exact ⟨gone, fun h => settled (held h), fun h => torn (completion h), error⟩

end Over
end Answered
end Sys2Proof.Machine

namespace Sys2Proof.Machine

/-! ### Waking the reads that wait on a card (R94) -/

section Wake
variable {p : Position} {s : State}

theorem wakeReads_blocks (x : CardId) (s : State) : (wakeReads x s).sales = s.sales ∧ (wakeReads x s).journal = s.journal ∧
    (wakeReads x s).cards.entries = s.cards.entries := by
  unfold wakeReads
  dsimp only
  split <;> split <;> exact ⟨rfl, rfl, rfl⟩

/-- A read that does not wait on the card goes on as it is. -/
theorem wakeReads_read {x : CardId} (h : readOf p s ≠ .awaiting x) : readOf p (wakeReads x s) = readOf p s := by
  have wake (q : Position) {s : State} (h : readOf p s ≠ .awaiting x) : readOf p
      (if readOf q s = .awaiting x then pushCard q (.read (sess q s).serial x) (setRead q (.reading x) s) else s) = readOf p s := by
    split
    · rename_i waits
      have other : p ≠ q := fun same => h (same ▸ waits)
      exact Pair.get_set_ne _ other _
    · rfl
  have first := wake .A h
  exact (wake .B (first.symm ▸ h)).trans first

end Wake

/-! ### The result of a credit-back's WRITE (R93, R118) -/

section Credit
variable {p : Position} {w : CardWrite} {r : WriteResult} {q : QuoteResult} {s : State} {e : Fin 4}

theorem ownerOf_current (owner : (entry e s).owner = some (p, (sess p s).serial)) (lives : (sess p s).state ≠ .idle) :
    ownerOf e s = some p := by
  rw [ownerOf, owner]
  exact if_pos ⟨rfl, lives⟩

theorem ownerOf_none (free : (entry e s).owner = none) : ownerOf e s = none := by rw [ownerOf, free]

theorem settleEntry_owned {o : Position × Nat} (owner : (entry e s).owner = some o) :
    settleEntry e s = onEntry e (fun _ => reservedFor o) s := by rw [settleEntry, owner]

theorem settleEntry_unowned (free : (entry e s).owner = none) : settleEntry e s = freeUp e s := by rw [settleEntry, free]

/-- The session whose credit-back's WRITE has ended. -/
def creditSession (w : CardWrite) (q : QuoteResult) : WriteResult → Session → Session
  | .ok, x => creditOver q.price 0 w.excess (some w.image.balance) (some w.image) x.entry x
  | .failed _, x => creditOver x.creditedBack q.price 0 x.balanceAfter x.held x.entry x
  | .torn, x => creditOver x.creditedBack q.price 0 x.balanceAfter x.held none x

/-- The entry of a credit-back's WRITE that has ended; a torn one waits for nothing. -/
def creditEntry (o : Position × Nat) : WriteResult → PendingEntry → PendingEntry
  | .ok, _ => reservedFor o
  | .failed _, _ => reservedFor o
  | .torn, x => { x with state := .torn, owner := none }

/-- Its session and its entry, before the session ends. -/
def creditLeft (p : Position) (w : CardWrite) (q : QuoteResult) (r : WriteResult) (s : State) : State :=
  onSess p (creditSession w q r) (onEntry w.entry (creditEntry (p, (sess p s).serial) r) s)

section Owned
variable (owner : (entry w.entry s).owner = some (p, (sess p s).serial)) (lives : (sess p s).state ≠ .idle)
  (result : (sess p s).result = some q)
include owner lives result

theorem creditWritten_eq : creditWritten w r s = wantEnd p (creditLeft p w q r s) := by
  have price {x : Session} (h : x.result = some q) : priceOf x = q.price := by rw [priceOf, h]
  have reserved : settleEntry w.entry s = onEntry w.entry (fun _ => reservedFor (p, (sess p s).serial)) s := settleEntry_owned owner
  have owned := ownerOf_current owner lives
  cases r with
  | ok =>
    simp only [creditWritten, owned, reserved]
    exact congrArg (wantEnd p) (onSess_congr (by rw [price]; exacts [rfl, result]))
  | failed f =>
    simp only [creditWritten, owned, reserved]
    exact congrArg (wantEnd p) (onSess_congr (by rw [price]; exacts [rfl, result]))
  | torn =>
    simp only [creditWritten, owned]
    rw [notCredited, onSess_onSess]
    exact congrArg (wantEnd p) (onSess_congr (by rw [price]; exacts [rfl, result]))

end Owned

theorem creditLeft_sess : sess p (creditLeft p w q r s) = creditSession w q r (sess p s) := sess_onSess_self p _ _

theorem creditLeft_currentList : currentList p (creditLeft p w q r s) = currentList p s := by
  have kept : (creditSession w q r (sess p s)).serial = (sess p s).serial ∧
      (creditSession w q r (sess p s)).state = (sess p s).state := by cases r <;> exact ⟨rfl, rfl⟩
  obtain ⟨serial, state⟩ := kept
  exact currentList_same rfl (by rw [creditLeft_sess, serial]) (by rw [creditLeft_sess, state])

theorem creditLeft_entry : entry w.entry (creditLeft p w q r s) = creditEntry (p, (sess p s).serial) r (entry w.entry s) :=
  entry_onEntry_self w.entry _ s

/-- The session is held while its coin is outstanding (R123). -/
theorem creditLeft_holds (out : currentList p s ≠ []) : (wantEnd p (creditLeft p w q r s)).sales =
      { s.sales with sess := s.sales.sess.set p { creditSession w q r (sess p s) with stage := .held } } ∧
    (wantEnd p (creditLeft p w q r s)).cards = (creditLeft p w q r s).cards := by
  rw [wantEnd_holds (by rwa [creditLeft_currentList]), creditLeft, onSess_onSess]
  exact ⟨rfl, rfl⟩

/-- With no coin outstanding it closes with its record (R93, R118). -/
theorem creditLeft_closes {back owed cardOwed : Nat} {after : Option Nat} {held : Option CardImage} {own : Option (Fin 4)}
    (settled : currentList p s = []) (result : (sess p s).result = some q) (charged : q.free = false) (sale : TicketFailedSale p s)
    (session : creditSession w q r (sess p s) = creditOver back owed cardOwed after held own (sess p s)) :
    TicketFailedClosed p back owed cardOwed after s (wantEnd p (creditLeft p w q r s)) := by
  rw [wantEnd_closes (by rwa [creditLeft_currentList])]
  exact closeSession_ticketFailed sale result charged (creditLeft_sess.trans session) rfl

end Credit

section CreditWrite
variable {p : Position} {w : CardWrite} {card : CardId} {r : WriteResult} {q : QuoteResult} {busy : Bool} {s : State}

/-- A credit-back's WRITE, outstanding at the module of the session that owns it. -/
structure CreditOut (p : Position) (w : CardWrite) (q : QuoteResult) (s : State) : Prop where
  out : s.link.writeOut.get p = some w
  purpose : w.purpose = .creditBack
  owner : (entry w.entry s).owner = some (p, (sess p s).serial)
  lives : (sess p s).state ≠ .idle
  result : (sess p s).result = some q

/-- The blocks that the answer of a WRITE leaves as they are. -/
theorem writeBegun_blocks (p : Position) (r : WriteResult) (s : State) : (writeOver p (writeHeard p r s)).sales = s.sales ∧
    (writeOver p (writeHeard p r s)).cards = s.cards ∧ (writeOver p (writeHeard p r s)).journal = s.journal ∧
    (writeOver p (writeHeard p r s)).coins = s.coins ∧ (writeOver p (writeHeard p r s)).fare = s.fare := writeHeard_blocks p r s

/-- The step of a credit-back's WRITE answer, in the blocks that its claims are about. -/
theorem creditOut_served (h : CreditOut p w q s) : ∃ t, t.sales = s.sales ∧ t.cards = s.cards ∧ t.journal = s.journal ∧
    t.coins = s.coins ∧
    (writeServed busy p (writeEnded p w r (writeOver p (writeHeard p r s)))).sales = (wantEnd p (creditLeft p w q r t)).sales ∧
    (writeServed busy p (writeEnded p w r (writeOver p (writeHeard p r s)))).journal = (wantEnd p (creditLeft p w q r t)).journal ∧
    (writeServed busy p (writeEnded p w r (writeOver p (writeHeard p r s)))).cards.entries =
      (wantEnd p (creditLeft p w q r t)).cards.entries := by
  obtain ⟨sales, cards, journal, coins, -⟩ := writeBegun_blocks p r s
  have session : sess p (writeOver p (writeHeard p r s)) = sess p s := sess_of_sales p sales
  have ended : writeEnded p w r (writeOver p (writeHeard p r s)) =
      wakeReads w.image.id (wantEnd p (creditLeft p w q r (writeOver p (writeHeard p r s)))) := by
    rw [writeEnded, h.purpose, creditWritten_eq (q := q)]
    · rw [session, entry, cards]
      exact h.owner
    · rw [session]
      exact h.lives
    · rw [session]
      exact h.result
  obtain ⟨salesAfter, journalAfter, entriesAfter⟩ := wakeReads_blocks w.image.id
    (wantEnd p (creditLeft p w q r (writeOver p (writeHeard p r s))))
  refine ⟨_, sales, cards, journal, coins, ?_, ?_, ?_⟩
  · rw [writeServed_sales, ended, salesAfter]
  · rw [writeServed_journal, ended, journalAfter]
  · rw [writeServed_cards, ended, entriesAfter]

theorem currentList_of_same {t : State} (coins : t.coins = s.coins) (sales : t.sales = s.sales) : currentList p t = currentList p s :=
  currentList_same coins (by rw [sess_of_sales p sales]) (by rw [sess_of_sales p sales])

theorem creditOut_holds (h : CreditOut p w q s) (out : currentList p s ≠ []) :
    (writeServed busy p (writeEnded p w r (writeOver p (writeHeard p r s)))).sales =
      { s.sales with sess := s.sales.sess.set p { creditSession w q r (sess p s) with stage := .held } } ∧
    entry w.entry (writeServed busy p (writeEnded p w r (writeOver p (writeHeard p r s)))) =
      creditEntry (p, (sess p s).serial) r (entry w.entry s) := by
  obtain ⟨t, sales, cards, -, coins, salesAfter, -, entries⟩ := creditOut_served (r := r) (busy := busy) h
  obtain ⟨held, same⟩ := creditLeft_holds (w := w) (q := q) (r := r) (s := t) (by rwa [currentList_of_same coins sales])
  constructor
  · rw [salesAfter, held, sales, sess_of_sales p sales]
  · rw [entry, entries, same]
    exact creditLeft_entry.trans (by rw [sess_of_sales p sales, entry, cards]; rfl)

theorem creditOut_closes {back owed cardOwed : Nat} {after : Option Nat} {held : Option CardImage} {own : Option (Fin 4)}
    (h : CreditOut p w q s) (settled : currentList p s = []) (charged : q.free = false) (sale : TicketFailedSale p s)
    (session : creditSession w q r (sess p s) = creditOver back owed cardOwed after held own (sess p s)) :
    TicketFailedClosed p back owed cardOwed after s (writeServed busy p (writeEnded p w r (writeOver p (writeHeard p r s)))) := by
  obtain ⟨t, sales, -, journal, coins, salesAfter, journalAfter, -⟩ := creditOut_served (r := r) (busy := busy) h
  have same : sess p t = sess p s := sess_of_sales p sales
  have closed := creditLeft_closes (w := w) (q := q) (r := r) (s := t) (by rwa [currentList_of_same coins sales])
    (by rw [same]; exact h.result) charged (by rwa [TicketFailedSale, same, journal]) (by rw [same]; exact session)
  refine TicketFailedClosed.of_same ?_ salesAfter journalAfter
  rwa [TicketFailedClosed, same, journal] at closed

/-- A torn credit-back's entry has no owner. -/
theorem creditOut_torn (h : CreditOut p w q s) :
    (entry w.entry (writeServed busy p (writeEnded p w .torn (writeOver p (writeHeard p .torn s))))).owner = none := by
  obtain ⟨t, -, -, -, -, -, -, entries⟩ := creditOut_served (r := .torn) (busy := busy) h
  have unowned : (entry w.entry (creditLeft p w q .torn t)).owner = none := by rw [creditLeft_entry]; rfl
  have kept := (wantEnd_controlled (.refl p (creditLeft p w q .torn t))).controls.unowned unowned
  rw [entry, entries]
  exact (congrArg PendingEntry.owner kept).trans unowned

end CreditWrite
end Sys2Proof.Machine

namespace Sys2Proof.Machine

/-! ### The result of a completion's WRITE (R96, R97) -/

section Completion
variable {p : Position} {w : CardWrite} {f : WriteFault} {busy : Bool} {s : State}

/-- A read that waits on a completion that failed detects anew (R97). -/
theorem completionFailed_read (purpose : w.purpose = .completion) (waits : readOf p s = .resolving w.entry) :
    readOf p (writeEnded p w (.failed f) s) = .detecting := by
  have again : completionWritten p w (.failed f) s = setRead p .detecting (tearEntry w.entry s) := if_pos (decide_eq_true waits)
  rw [writeEnded, purpose]
  dsimp only
  rw [again, wakeReads_read] <;> rw [readOf_setRead_self]
  nofun

/-- A completion that is done, with no owner and no read that waits on it, leaves its record (R96). -/
theorem completionWritten_alone (free : (entry w.entry s).owner = none) (quiet : readOf p s ≠ .resolving w.entry) :
    completionWritten p w .ok s = freeUp w.entry (recordResolved p w.entry .completed w.image w.excess s) := by
  have unowned : (entry w.entry (recordResolved p w.entry .completed w.image w.excess s)).owner = none := by
    rw [recordResolved, entry, append_cards]
    exact free
  simp only [completionWritten, ownerOf_none free, quiet, decide_false, Bool.false_eq_true, if_false]
  exact settleEntry_unowned unowned

theorem completionDone_alone (purpose : w.purpose = .completion) (free : (entry w.entry s).owner = none)
    (quiet : readOf p s ≠ .resolving w.entry) (room : s.journal.records.length < 512) :
    entry w.entry (writeEnded p w .ok s) = PendingEntry.free ∧ (writeEnded p w .ok s).sales = s.sales ∧
    (writeEnded p w .ok s).link.writeOut = s.link.writeOut ∧
    (writeEnded p w .ok s).journal.records = s.journal.records ++ [commonPart s.fare.clock s.journal.next (some p)
      (.writeResolved w.image.id .completed (entry w.entry s).delta.value w.image.balance w.excess)] := by
  have alone := completionWritten_alone free quiet
  have ended : writeEnded p w .ok s = wakeReads w.image.id (completionWritten p w .ok s) := by rw [writeEnded, purpose]
  obtain ⟨sales, journal, entries⟩ := wakeReads_blocks w.image.id (completionWritten p w .ok s)
  refine ⟨?_, ?_, ?_, ?_⟩
  · rw [entry, ended, entries, alone]
    exact entry_onEntry_self _ _ _
  · rw [ended, sales, alone]
    exact append_sales _ _ _
  · rw [ended, (wakeReads_controls _ _).writeOut, alone]
    exact (append_controls _ _ _).writeOut
  · rw [ended, journal, alone]
    exact congrArg Journal.records (append_journal_room (p := some p) room)

end Completion

/-! ### Answers that no WRITE of the controller awaits (R176, R185) -/

section Unmatched
variable {p : Position} {card : CardId} {r : WriteResult} {f : QueuedPass} {busy : Bool} {s : State}

theorem writeAnswer_unmatched (own : s.link.writeOut.get p = none → s.link.passWrite.get p = none)
    (other : ∀ x, s.link.writeOut.get p = some x → x.image.id ≠ card) : writeAnswer p card r s = writeUnmatched p card s := by
  unfold writeAnswer
  split
  · rename_i x out
    exact if_neg (other x out)
  · rename_i free forwarded
    cases (own free).symm.trans forwarded
  · rfl

/-- A forwarded WRITE is answered to the sale processor, and the lend keeps its module's poll from falling due. -/
theorem endPassWrite_lent (reply : Option DeviceReply) (lend : s.link.lend ≠ none) : endPassWrite p f reply s =
    enqueue ⟨2, f.tag, 1, .ok, .reply reply, none⟩ { s with link := { s.link with passWrite := s.link.passWrite.set p none } } :=
  pollFallsDue_held (.inl lend)

section Forwarded
variable (free : s.link.writeOut.get p = none) (out : s.link.passWrite.get p = some f)
include free out

theorem writeAnswer_forwarded (plain : f.unfiltered = true) :
    writeAnswer p card r s = endPassWrite p f (some (writeReply card r)) s := by
  have uncounted : countAnswered (.pass f) s = s := if_pos plain
  simp only [writeAnswer, free, out, uncounted]

theorem writeTimeout_forwarded (on : s.power = true) :
    exec (.writeAnswerTimeout p busy) s = .next (served busy (endPassWrite p f none s)) := by
  rw [writeTimeout_runs on (by rw [writeHeld, out, Option.isSome_some, Bool.or_true]), writeTimedOut, free, out]

end Forwarded
end Unmatched

section Clauses
variable {p : Position} {w : CardWrite} {card : CardId} {busy : Bool} {s : State}

/-- A WRITE that ends in doubt, is done or has failed (R91, R92). -/
theorem writeCommand_ended (on : running s = true) (idle : s.link.line = .idle) (out : s.link.writeOut.get p = some w)
    (id : w.image.id = card) :
    (∃ t, exec (.writeUncertain p card busy) s = .next t ∧ t.link.writeOut.get p = none ∧ (entry w.entry t).state = .torn) ∧
    (w.purpose ≠ .completion →
      (∃ t, exec (.writeOk p card busy) s = .next t ∧ t.link.writeOut.get p = none ∧
        ((entry w.entry t).state = .free ∨ (entry w.entry t).state = .reserved)) ∧
      (∀ r, ∃ t, exec (.writeFailed p card r busy) s = .next t ∧ t.link.writeOut.get p = none ∧
        ((entry w.entry t).state = .free ∨ (entry w.entry t).state = .reserved) ∧
        (r = .error → (periph (cardAddr p) t).flags.moduleError = true))) := by
  refine ⟨⟨_, writeCommand_taken (r := .torn) on idle out id, writeServed_torn busy p w _⟩, fun other =>
    ⟨⟨_, writeCommand_taken (r := .ok) on idle out id, writeServed_ok busy p w _ other⟩, fun r => ?_⟩⟩
  obtain ⟨gone, settled, -, error⟩ := writeServed_failed busy p w (writeHeard p (.failed r) s) r
  refine ⟨_, writeCommand_taken (r := .failed r) on idle out id, gone, settled other, ?_⟩
  rintro rfl
  exact error (writeHeard_error p s)

/-- A credit-back's WRITE: its session is held, or closes with its record (R93, R118, R123). -/
theorem creditBack_ended {q : QuoteResult} (on : running s = true) (idle : s.link.line = .idle) (id : w.image.id = card)
    (h : CreditOut p w q s) : ∃ ok torn, exec (.writeOk p card busy) s = .next ok ∧
      exec (.writeUncertain p card busy) s = .next torn ∧ (entry w.entry torn).owner = none ∧
      (currentList p s ≠ [] →
        let session (x : Session) : Sales := { s.sales with sess := s.sales.sess.set p x }
        let unpaid := { sess p s with owed := (sess p s).owed + q.price, stage := .held }
        ok.sales = session { sess p s with
          creditedBack := q.price, held := some w.image, balanceAfter := some w.image.balance,
          cardOwed := (sess p s).cardOwed + w.excess, stage := .held } ∧
        (entry w.entry ok).state = .reserved ∧ torn.sales = session { unpaid with entry := none } ∧
        ∀ r, ∃ t, exec (.writeFailed p card r busy) s = .next t ∧ t.sales = session unpaid) ∧
      (currentList p s = [] → q.free = false → TicketFailedSale p s →
        TicketFailedClosed p q.price 0 w.excess (some w.image.balance) s ok ∧
        TicketFailedClosed p (sess p s).creditedBack q.price 0 (sess p s).balanceAfter s torn ∧
        ∀ r, ∃ t, exec (.writeFailed p card r busy) s = .next t ∧
          TicketFailedClosed p (sess p s).creditedBack q.price 0 (sess p s).balanceAfter s t) := by
  refine ⟨_, _, writeCommand_taken (r := .ok) on idle h.out id, writeCommand_taken (r := .torn) on idle h.out id,
    creditOut_torn h, fun out => ?_, fun settled charged sale => ?_⟩
  · obtain ⟨okSales, okEntry⟩ := creditOut_holds (r := .ok) (busy := busy) h out
    obtain ⟨tornSales, -⟩ := creditOut_holds (r := .torn) (busy := busy) h out
    refine ⟨okSales, congrArg PendingEntry.state okEntry, tornSales, fun r => ?_⟩
    exact ⟨_, writeCommand_taken (r := .failed r) on idle h.out id, (creditOut_holds (r := .failed r) (busy := busy) h out).1⟩
  · exact ⟨creditOut_closes h settled charged sale rfl, creditOut_closes h settled charged sale rfl, fun r =>
      ⟨_, writeCommand_taken (r := .failed r) on idle h.out id, creditOut_closes h settled charged sale rfl⟩⟩

/-- A completion that failed tears its entry again; one done for no owner and no read leaves its record (R96, R97). -/
theorem completion_ended (on : running s = true) (idle : s.link.line = .idle) (out : s.link.writeOut.get p = some w)
    (id : w.image.id = card) (purpose : w.purpose = .completion) :
    (∀ r, ∃ t, exec (.writeFailed p card r busy) s = .next t ∧ t.link.writeOut.get p = none ∧
      (entry w.entry t).state = .torn ∧ (readOf p s = .resolving w.entry → readOf p t = .detecting) ∧
      (r = .error → (periph (cardAddr p) t).flags.moduleError = true)) ∧
    ((entry w.entry s).owner = none → readOf p s ≠ .resolving w.entry → s.journal.records.length < 512 →
      ∃ t, exec (.writeOk p card busy) s = .next t ∧ t.link.writeOut.get p = none ∧
        entry w.entry t = PendingEntry.free ∧ t.sales = s.sales ∧
        t.journal.records = s.journal.records ++ [commonPart s.fare.clock s.journal.next (some p)
          (.writeResolved card .completed (entry w.entry s).delta.value w.image.balance w.excess)]) := by
  constructor
  · intro r
    obtain ⟨gone, -, torn, error⟩ := writeServed_failed busy p w (writeHeard p (.failed r) s) r
    refine ⟨_, writeCommand_taken (r := .failed r) on idle out id, gone, torn purpose, fun waits => ?_, ?_⟩
    · obtain ⟨-, cards, -⟩ := writeBegun_blocks p (.failed r) s
      rw [readOf, writeServed_cards]
      exact completionFailed_read purpose (by rw [readOf, cards]; exact waits)
    · rintro rfl
      exact error (writeHeard_error p s)
  · intro free quiet room
    obtain ⟨sales, cards, journal, -, fare⟩ := writeBegun_blocks p .ok s
    obtain ⟨freed, same, link, record⟩ := completionDone_alone (p := p) (s := writeOver p (writeHeard p .ok s)) purpose
      (by rw [entry, cards]; exact free) (by rw [readOf, cards]; exact quiet) (by rw [journal]; exact room)
    refine ⟨_, writeCommand_taken (r := .ok) on idle out id, ?_, ?_, ?_, ?_⟩
    · rw [writeServed_writeOut, link]
      exact Pair.get_set_self _ _ _
    · rw [entry, writeServed_cards]
      exact freed
    · rw [writeServed_sales, same, sales]
    · rw [writeServed_journal, record, journal, fare, entry, cards, id]
      rfl

end Clauses
end Sys2Proof.Machine

namespace Sys2Proof.Proofs
open Sys2Proof Sys2Proof.Machine

/-- Settles O43: the ends of a WRITE by its answer and its purpose, the answers that match none, and a forwarded WRITE's. -/
theorem writeAnswers : Obligations.WriteAnswers := by
  intro p w card busy s power released
  have on : running s = true := by rw [running, power, released]; rfl
  refine ⟨fun out => ⟨_, writeTimeout_torn power out, writeServed_torn busy p w s⟩, writeTimeout_idle,
    fun idle out id => ?_, fun idle own other => ⟨fun last => ?_, fun last => ?_⟩, fun f free out plain lend => ?_⟩
  · obtain ⟨torn, ended⟩ := writeCommand_ended (busy := busy) on idle out id
    exact ⟨torn, ended, fun q purpose owner lives result => creditBack_ended on idle id ⟨out, purpose, owner, lives, result⟩,
      completion_ended on idle out id⟩
  · refine (exec_writeCommand_idle (r := .ok) on idle).trans ?_
    rw [writeAnswer_unmatched own other, writeUnmatched, if_pos last]
    rfl
  · refine (exec_writeCommand_idle (r := .ok) on idle).trans ?_
    rw [writeAnswer_unmatched own other, writeUnmatched, if_neg last]
    rfl
  · intro ended
    have answer (r : WriteResult) (idle : s.link.line = .idle) :
        exec (writeCommand p card busy r) s = ended (some (writeReply card r)) s := by
      rw [exec_writeCommand_idle on idle, writeAnswer_forwarded free out plain, endPassWrite_lent _ lend]
      rfl
    refine ⟨?_, fun idle => ⟨answer .ok idle, answer .torn idle, fun r => answer (.failed r) idle⟩⟩
    rw [writeTimeout_forwarded free out power, endPassWrite_lent _ lend]
    rfl

end Sys2Proof.Proofs

namespace Sys2Proof.Machine

/-! ### A card sale whose write is done (R91, R114, R119, R126) -/

section Sold
variable {p : Position} {x : CardImage} {excess : Nat} {s t : State}

/-- The session whose write is done (R114, R126). -/
def handedSession (x : CardImage) (excess : Nat) (y : Session) : Session :=
  let money := min excess (topUpOf y)
  let sv := decide (payOf y = .storedValue) && !isFree y
  { y with
    write := .done, held := some x, stage := .none, tearWindow := none, balanceAfter := some x.balance
    debited := if sv then ((cardQuoteOf y).elim 0 (·.balance)) - x.balance else y.debited
    loaded := topUpOf y - money
    owed := y.owed + (if sv then excess else if isFree y then 0 else money)
    cardOwed := y.cardOwed + (if sv then 0 else if isFree y then excess else excess - money) }

theorem handedDone_eq (p : Position) (x : CardImage) (excess : Nat) (s : State) :
    handedDone p x excess s = ticketStep p (onSess p (handedSession x excess) s) := by
  refine congrArg (ticketStep p) (onSess_congr ?_)
  unfold handedSession
  cases cardQuoteOf (sess p s) <;> rfl

/-- The price that a sale keeps (R126). -/
def keptPrice (y : Session) : Nat :=
  if isFree y then 0
  else if payOf y = .coins then cashDue y - (if y.write = .done then topUpOf y - y.loaded else 0)
  else priceOf y

/-- The session whose sale has succeeded (R119). -/
def soldSession (y : Session) : Session :=
  { y with issued := true, priceKept := keptPrice y, stage := .none, endReason := some .sold }

/-- With no change to pay it ends (R119). -/
theorem issueSucceeded_ends (change : (sess p s).change = 0) (further : (sess p s).further = 0) :
    issueSucceeded p s = wantEnd p (onSess p soldSession s) := by
  have paid : ¬ (0 < (sess p s).change ∨ 0 < (sess p s).further) := by omega
  have sold : setEnd p .sold (onSess p (fun y => { y with issued := true, priceKept := keptPrice (sess p s), stage := .none }) s) =
      onSess p soldSession s := (onSess_onSess p _ _ s).trans (onSess_congr rfl)
  rw [← sold]
  exact if_neg paid

/-- The sale's session once its write is done and it needs no ticket. -/
def writtenSession (x : CardImage) (excess : Nat) (y : Session) : Session := soldSession (handedSession x excess y)

theorem handedDone_sold (card : mediumOf (sess p s) = .card) (change : (sess p s).change = 0) (further : (sess p s).further = 0) :
    handedDone p x excess s = wantEnd p (onSess p (writtenSession x excess) s) := by
  have handed : sess p (onSess p (handedSession x excess) s) = handedSession x excess (sess p s) := sess_onSess_self p _ s
  rw [handedDone_eq, ticketStep, if_pos (by rw [handed]; exact card),
    issueSucceeded_ends (by rw [handed]; exact change) (by rw [handed]; exact further), onSess_onSess]
  rfl

theorem writtenSession_currentList : currentList p (onSess p (writtenSession x excess) s) = currentList p s :=
  currentList_same rfl (by rw [sess_onSess_self]; rfl) (by rw [sess_onSess_self]; rfl)

/-- A card sale paid from stored value with nothing owed so far (R114). -/
structure DebitSale (y : Session) (r : QuoteResult) (c : CardQuote) : Prop extends PassSale y r c where
  charged : r.free = false
  owed : y.owed = 0
  cardOwed : y.cardOwed = 0

section Figures
variable {y : Session} {r : QuoteResult} {c : CardQuote} (h : DebitSale y r c)
include h

theorem DebitSale.figures : isFree y = false ∧ payOf y = .storedValue ∧ topUpOf y = 0 ∧ priceOf y = r.price := by
  simp [isFree, payOf, topUpOf, priceOf, h.result, h.charged, h.payment, h.cardQuote, h.topUp]

/-- What was debited and kept, and that nothing is owed (R114, R126). -/
theorem DebitSale.written : (writtenSession x 0 y).debited = c.balance - x.balance ∧
    (writtenSession x 0 y).priceKept = r.price ∧ (writtenSession x 0 y).owed = 0 ∧ (writtenSession x 0 y).cardOwed = 0 ∧
    (writtenSession x 0 y).loaded = 0 := by
  obtain ⟨charged, stored, topUp, price⟩ := h.figures
  have kept : keptPrice (handedSession x 0 y) = priceOf y := by
    have free : isFree (handedSession x 0 y) = false := charged
    have pay : payOf (handedSession x 0 y) = .storedValue := stored
    rw [keptPrice, free, pay]
    rfl
  refine ⟨?_, kept.trans price, ?_, ?_, ?_⟩ <;>
    simp [writtenSession, soldSession, handedSession, charged, stored, topUp, h.cardQuote, h.owed, h.cardOwed]

end Figures

/-- The last record, where one has been appended. -/
theorem Recorded.last {body : RecordBody} {r : TotalRise} (h : Recorded p body r s t) :
    ∃ rec, t.journal.records.length = s.journal.records.length + 1 ∧ t.journal.records.getLast? = some rec ∧ rec.pos = some p ∧
      rec.seq = s.journal.next ∧ rec.body = body := by
  obtain ⟨bodies, last, -⟩ := h
  obtain ⟨rec, found, figures⟩ := Option.map_eq_some_iff.1 last
  obtain ⟨pos, seq⟩ := Prod.mk.inj figures
  have length := congrArg List.length bodies
  have bodyLast : (t.journal.records.map Record.body).getLast? = some body := by rw [bodies, List.getLast?_concat]
  rw [List.getLast?_map, found] at bodyLast
  exact ⟨rec, by simpa using length, found, pos, seq, Option.some.inj bodyLast⟩

/-- A card sale whose write is done closes, with no coin outstanding and no change to pay (R91, R119). -/
theorem saleWritten_closes {w : CardWrite} (owner : (entry w.entry s).owner = some (p, (sess p s).serial))
    (lives : (sess p s).state ≠ .idle) (card : mediumOf (sess p s) = .card) (change : (sess p s).change = 0)
    (further : (sess p s).further = 0) (settled : currentList p s = []) : saleWritten w .ok s = closeSession p
      (onSess p (writtenSession w.image w.excess) (onEntry w.entry (fun _ => reservedFor (p, (sess p s).serial)) s)) := by
  simp only [saleWritten, ownerOf_current owner lives, settleEntry_owned owner]
  refine (handedDone_sold (s := onEntry w.entry _ s) card change further).trans (wantEnd_closes ?_)
  rw [writtenSession_currentList]
  exact settled

/-- It leaves its SALE record (R125). -/
theorem writtenSession_recorded {n : Position × Nat} {e : Fin 4} (kept : (sess p s).refunded = false)
    (room : s.journal.records.length < 512) : Recorded p (.sale (saleRec .sold (writtenSession x excess (sess p s))))
      (saleRise false .sold (writtenSession x excess (sess p s))) s
      (closeSession p (onSess p (writtenSession x excess) (onEntry e (fun _ => reservedFor n) s))) := by
  have written : sess p (onSess p (writtenSession x excess) (onEntry e (fun _ => reservedFor n) s)) =
      writtenSession x excess (sess p s) := sess_onSess_self p _ _
  have recorded := closeSession_sale (p := p) (s := onSess p (writtenSession x excess) (onEntry e (fun _ => reservedFor n) s))
  rw [written] at recorded
  exact recorded kept room

/-- Beside its session and its record, the end of a sale's write wakes the reads of its card alone (R94). -/
theorem saleWritten_served {w : CardWrite} (busy : Bool) (purpose : w.purpose = .sale) :
    (writeServed busy p (writeEnded p w .ok s)).sales = (saleWritten w .ok s).sales ∧
    (writeServed busy p (writeEnded p w .ok s)).journal = (saleWritten w .ok s).journal := by
  have ended : writeEnded p w .ok s = wakeReads w.image.id (saleWritten w .ok s) := by rw [writeEnded, purpose]
  obtain ⟨sales, journal, -⟩ := wakeReads_blocks w.image.id (saleWritten w .ok s)
  exact ⟨by rw [writeServed_sales, ended, sales], by rw [writeServed_journal, ended, journal]⟩

end Sold

/-- What a sale of a pass paid from stored value adds to the totals (R156). -/
theorem DebitSale.rise {x : CardImage} {y : Session} {r : QuoteResult} {c : CardQuote} (h : DebitSale y r c) (t : Totals) :
    Raised y.changePaid y.refundPaid 0 0 ((writtenSession x 0 y).debited - y.creditedBack) (some r.product) false false t
      (addRise (saleRise false .sold (writtenSession x 0 y)) t) := by
  have rise := addRise_sale .sold (writtenSession x 0 y) t
  obtain ⟨-, -, owed, cardOwed, loaded⟩ := h.written (x := x)
  obtain ⟨free, stored, -, -⟩ := h.figures
  rwa [show isFree (writtenSession x 0 y) = false from free,
    if_pos (show payOf (writtenSession x 0 y) = .storedValue from stored), owed, cardOwed, loaded, ite_self,
    if_pos rfl, show (writtenSession x 0 y).result = some r from h.result] at rise

end Sys2Proof.Machine

namespace Sys2Proof.Proofs
open Sys2Proof Sys2Proof.Machine

/-- Settles O44: the write that is done closes its session as SOLD, and the record's figures are those of the written session. -/
theorem writtenSaleIsSold : Obligations.WrittenSaleIsSold := by
  intro p w q r c busy s power released idle out purpose excess owner issuing stage req medium payment result charged card topUp within
    change further owed cardOwed kept settled room
  have on : running s = true := by rw [running, power, released]; rfl
  have sale : DebitSale (sess p s) r c :=
    ⟨⟨payment, by rw [mediumOf, req]; exact medium, result, card, topUp⟩, charged, owed, cardOwed⟩
  obtain ⟨sales, cards, journal, coins, -⟩ := writeBegun_blocks p .ok s
  have taken := writeCommand_taken (r := .ok) (busy := busy) on idle out rfl
  generalize writeOver p (writeHeard p .ok s) = b at sales cards journal coins taken
  have session : sess p b = sess p s := sess_of_sales p sales
  have closes := saleWritten_closes (p := p) (w := w) (s := b) (by rw [session, entry, cards]; exact owner)
    (by rw [session, issuing]; nofun) (by rw [session]; exact sale.medium) (by rw [session]; exact change)
    (by rw [session]; exact further) (by rwa [currentList_of_same coins sales])
  have recorded := writtenSession_recorded (p := p) (x := w.image) (excess := w.excess) (n := (p, (sess p b).serial)) (e := w.entry)
    (s := b) (by rw [session]; exact kept) (by rwa [journal])
  rw [← closes, session, excess] at recorded
  obtain ⟨salesServed, journalServed⟩ := saleWritten_served (p := p) (s := b) busy purpose
  obtain ⟨rec, length, last, pos, seq, body⟩ := recorded.last
  obtain ⟨-, -, running⟩ := recorded
  obtain ⟨debited, price, owes, -⟩ := sale.written (x := w.image)
  obtain ⟨reason, -, changePaid, refundPaid, owedIs, -⟩ := saleRec_figures .sold (writtenSession w.image 0 (sess p s))
  obtain ⟨debitedIs, backIs, after, priceIs, product, cardIs⟩ :=
    saleRec_priced (x := writtenSession w.image 0 (sess p s)) .sold result
  refine ⟨_, rec, saleRec .sold (writtenSession w.image 0 (sess p s)), taken, ?_, ?_, ?_, pos, ?_, body, reason, debitedIs.trans debited,
    priceIs.trans price, after, owedIs.trans owes, ?_, product, ?_⟩
  · rw [sess_of_sales p salesServed, closes]
    exact (closeSession_ends p _).1
  · rw [journalServed, length, journal]
  · rw [journalServed, last]
  · rw [seq, journal]
  · rw [cardIs, card]
    rfl
  · rw [journalServed, running, journal, changePaid, refundPaid, debitedIs, backIs]
    exact sale.rise s.journal.running

end Sys2Proof.Proofs

namespace Sys2Proof.Machine

/-! ### The answers to DETECT and READ taken (R73, R74, R77) -/

section Taken
variable {p : Position} {age n : Nat} {x : CardId} {credit busy : Bool} {f : ReadFault} {body : List Byte} {s : State}

theorem receive_card {c : CardCmd} {kind : Nat} {g : ReadyFrame → State → State} (on : running s = true)
    (line : s.link.line = .window ⟨age, .card p c⟩) (fit : fits (.card p c) (cardAddr p) kind = true) :
    receive (cardAddr p) kind busy g s = served busy (g ⟨age, .card p c⟩ (heard (cardAddr p) s)) := by
  rw [receive_fits on line fit, countAnswered_heard rfl]
  rfl

section Detect
variable (on : running s = true) (line : s.link.line = .window ⟨age, .card p (.detect n credit)⟩)
include on line

theorem present_taken : exec (.present p x busy) s =
    .next (served busy (cardPresent x ⟨age, .card p (.detect n credit)⟩ (heard (cardAddr p) s))) :=
  congrArg Host.Outcome.next (receive_card on line (by simp [fits, frameAddr, frameCode, answers]))

theorem noCard_taken : exec (.noCard p busy) s =
    .next (served busy (cardAbsent ⟨age, .card p (.detect n credit)⟩ (heard (cardAddr p) s))) :=
  congrArg Host.Outcome.next (receive_card on line (by simp [fits, frameAddr, frameCode, answers]))

/-- A COLLISION is counted (R173). -/
def collisionCounted (a : Addr) (s : State) : State :=
  onPeriph a (fun y => { y with counters := { y.counters with collisions := y.counters.collisions + 1 } }) s

theorem collision_taken : exec (.collision p busy) s = .next (served busy
    (cardAbsent ⟨age, .card p (.detect n credit)⟩ (collisionCounted (cardAddr p) (heard (cardAddr p) s)))) := by
  show Host.Outcome.next _ = _
  rw [receive_card on line (by simp [fits, frameAddr, frameCode, answers])]
  rfl

end Detect

section Read
variable (on : running s = true) (line : s.link.line = .window ⟨age, .card p (.read n x)⟩)
include on line

theorem readFailed_taken : exec (.readFailed p f busy) s =
    .next (served busy (readNotDone f ⟨age, .card p (.read n x)⟩ (heard (cardAddr p) s))) :=
  congrArg Host.Outcome.next (receive_card on line (by simp [fits, frameAddr, frameCode, answers]))

theorem image_taken : exec (.image p body busy) s =
    .next (served busy (imageReturned body ⟨age, .card p (.read n x)⟩ (heard (cardAddr p) s))) :=
  congrArg Host.Outcome.next (receive_card on line (by simp [fits, frameAddr, frameCode, answers]))

end Read

theorem heard_state (a : Addr) (s : State) : (periph a (heard a s)).state = (periph a s).state := by
  rw [heard, periph_onPeriph_self]
  rfl

/-! ### A read's DETECT (R73, R77) -/

theorem cardPresent_reads (current : (sess p s).serial = n) (detecting : readOf p s = .detecting) :
    cardPresent x ⟨age, .card p (.detect n false)⟩ s = pushCard p (.read n x) (setRead p (.reading x) s) := by
  simp only [cardPresent, current, detecting, ne_eq, not_true, if_true, if_false, Bool.false_eq_true]

theorem cardAbsent_detects : cardAbsent ⟨age, .card p (.detect n false)⟩ s = s := by
  simp only [cardAbsent, Bool.false_eq_true, false_and, if_false]

theorem cardPresent_credit (current : (sess p s).serial = n) :
    cardPresent x ⟨age, .card p (.detect n true)⟩ s = creditDetected p (some x) s := by
  simp only [cardPresent, current, ne_eq, not_true, if_true, if_false]

theorem cardAbsent_credit (current : (sess p s).serial = n) :
    cardAbsent ⟨age, .card p (.detect n true)⟩ s = creditDetected p none s := if_pos ⟨rfl, current⟩

theorem settleUnanswered_credit (current : (sess p s).serial = n) :
    settleUnanswered ⟨age, .card p (.detect n true)⟩ s = creditDetected p none s := if_pos ⟨rfl, current⟩

/-! ### A READ's answer (R74, R79) -/

section Current
variable (current : (sess p s).serial = n) (reading : readOf p s = .reading x)
include current reading

theorem readCurrent_reading : readCurrent p n x s = true := by
  rw [readCurrent, decide_eq_true current, decide_eq_true reading]
  rfl

theorem readNotDone_again : readNotDone f ⟨age, .card p (.read n x)⟩ s =
    setRead p .detecting (if f = .error then raiseFault (cardAddr p) .moduleError s else s) :=
  if_pos (readCurrent_reading current reading)

theorem imageReturned_read : imageReturned body ⟨age, .card p (.read n x)⟩ s =
    (match imageOf body with
     | some img => takeImage p img s
     | none => setRead p .detecting (raiseFault (cardAddr p) .moduleError s)) :=
  if_pos (readCurrent_reading current reading)

theorem imageReturned_bad (bad : imageOf body = none) : imageReturned body ⟨age, .card p (.read n x)⟩ s =
    setRead p .detecting (raiseFault (cardAddr p) .moduleError s) := by
  rw [imageReturned_read current reading, bad]

theorem imageReturned_good {img : CardImage} (good : imageOf body = some img) :
    imageReturned body ⟨age, .card p (.read n x)⟩ s = takeImage p img s := by
  rw [imageReturned_read current reading, good]

end Current

/-- A read that returns to detecting after its module's fault. -/
theorem setRead_raiseFault (a : Addr) (f : Flag) (r : ReadPhase) (s : State) : setRead p r (raiseFault a f s) =
    { raiseFault a f s with cards := { s.cards with reads := s.cards.reads.set p r } } := by
  rw [setRead, onCards, raiseFault_cards]

end Taken
end Sys2Proof.Machine

namespace Sys2Proof.Machine

/-! ### The end of a read by its image (R79, R83, R106) -/

section Complete
variable {p : Position} {img : CardImage} {q : QuoteReq} {e : Fin 4} {s : State}

/-- The session and its read once the image is held (R79). -/
def readDone (p : Position) (img : CardImage) (s : State) : State := { s with
  cards := { s.cards with reads := s.cards.reads.set p .none }
  sales := { s.sales with sess := s.sales.sess.set p { sess p s with held := some img, cardWait := none } } }

theorem readDone_sess : sess p (readDone p img s) = { sess p s with held := some img, cardWait := none } := Pair.get_set_self _ _ _

/-- The end of a read, by what its image holds. -/
theorem completeRead_eq (req : (sess p s).req = some q) : completeRead p img s =
    if img.status = .blocked then endReading p .cardBlocked .refused (readDone p img s)
    else if denied s.cards.deny img.id then endReading p .cardDenied .refused (blockCard p img (readDone p img s))
    else match quoteCard s.fare.live s.fare.clock s.cash.unit q img with
      | .error r => endReading p r .refused (readDone p img s)
      | .ok r => acceptQuote p r (readDone p img s) := by
  have session : onSess p (fun y => { y with cardWait := none, held := some img }) (setRead p .none s) = readDone p img s := by
    cases p <;> rfl
  simp only [completeRead, req, session]
  rfl

section Ended
variable (req : (sess p s).req = some q)
include req

theorem completeRead_blocked (blocked : img.status = .blocked) :
    completeRead p img s = endReading p .cardBlocked .refused (readDone p img s) := by
  rw [completeRead_eq req, if_pos blocked]

theorem completeRead_denied (active : img.status = .active) (listed : denied s.cards.deny img.id = true) :
    completeRead p img s = endReading p .cardDenied .refused (blockCard p img (readDone p img s)) := by
  rw [completeRead_eq req, if_neg (by rw [active]; nofun), if_pos listed]

theorem completeRead_refused {r : Result} (active : img.status = .active) (unlisted : denied s.cards.deny img.id = false)
    (priced : quoteCard s.fare.live s.fare.clock s.cash.unit q img = .error r) :
    completeRead p img s = endReading p r .refused (readDone p img s) := by
  rw [completeRead_eq req, if_neg (by rw [active]; nofun), if_neg (by rw [unlisted]; nofun), priced]

theorem completeRead_priced {r : QuoteResult} (active : img.status = .active) (unlisted : denied s.cards.deny img.id = false)
    (priced : quoteCard s.fare.live s.fare.clock s.cash.unit q img = .ok r) :
    completeRead p img s = acceptQuote p r (readDone p img s) := by
  rw [completeRead_eq req, if_neg (by rw [active]; nofun), if_neg (by rw [unlisted]; nofun), priced]

end Ended

theorem endReading_answers (p : Position) (a : Result) (s : State) :
    endReading p a .refused s = release p .refused (enqueue ⟨0, (sess p s).tag, 1, a, .empty, none⟩ s) := rfl

/-- A read's reserved entry takes its block write (R83). -/
theorem blockCard_blocks (own : (sess p s).entry = some e) (on : online (cardAddr p) s = true)
    (alone : heldElsewhere e img.id s = false) : blockCard p img s =
    append (some p) (.cardBlocked img.id img.balance true) (startWrite p e .block none { Delta.zero with block := true } 0 img s) := by
  simp only [blockCard, own, on, alone, and_self, if_true]

/-- A denied card has its block write sent, and its record says so (R79, R83). -/
theorem completeRead_blocks (req : (sess p s).req = some q) (active : img.status = .active)
    (listed : denied s.cards.deny img.id = true) (own : (sess p s).entry = some e) (on : online (cardAddr p) s = true)
    (alone : heldElsewhere e img.id s = false) : completeRead p img s =
      release p .refused (enqueue ⟨0, (sess p s).tag, 1, .cardDenied, .empty, none⟩
        (append (some p) (.cardBlocked img.id img.balance true)
          (startWrite p e .block none { Delta.zero with block := true } 0 img (readDone p img s)))) := by
  have done : sess p (readDone p img s) = { sess p s with held := some img, cardWait := none } := readDone_sess
  have block := blockCard_blocks (img := img) (s := readDone p img s) (by rw [done]; exact own) on alone
  have tag : (sess p (blockCard p img (readDone p img s))).tag = (sess p s).tag := by
    rw [block, sess_of_sales p (append_sales _ _ _)]
    exact (congrArg Session.tag done :)
  rw [completeRead_denied req active listed, endReading_answers, tag, block]

theorem acceptQuote_eq (p : Position) (r : QuoteResult) (s : State) : acceptQuote p r s =
    notify 0 (.session p .quoted .priced) (enqueue ⟨0, (sess p s).tag, 1, .ok, .quote r, none⟩ { s with
      sales := { s.sales with sess := s.sales.sess.set p { sess p s with
        state := .quoted, stage := .none, result := some r, quoteLife := some s.sales.timing.quoteLife } } }) := by
  rw [acceptQuote, enter, onSess_onSess]
  cases p <;> rfl

/-- No entry holds the card: the read goes on (R79). -/
theorem takeImage_free (free : ∀ i, ¬ Holds i img.id s) : takeImage p img s = completeRead p img s := by
  simp only [takeImage, entryOf_none free]

end Complete

/-- An image read is taken (R79). -/
theorem image_takes {p : Position} {age n : Nat} {x : CardId} {busy : Bool} {body : List Byte} {img : CardImage} {s : State}
    (on : running s = true) (current : (sess p s).serial = n) (line : s.link.line = .window ⟨age, .card p (.read n x)⟩)
    (reading : readOf p s = .reading x) (good : imageOf body = some img) :
    exec (.image p body busy) s = .next (served busy (takeImage p img (heard (cardAddr p) s))) := by
  rw [image_taken on line, imageReturned_good (s := heard (cardAddr p) s) current reading good]

end Sys2Proof.Machine

namespace Sys2Proof.Machine

/-! ### What the end of a read leaves (R79, R88) -/

section Leaves
variable {p : Position} {img : CardImage} {e : Fin 4} {s t u : State}

/-- What one session's read leaves of the other's session, of another entry and of the journal. -/
structure ReadLeaves (p : Position) (e : Fin 4) (s t : State) : Prop where
  other : sess p.other t = sess p.other s
  entry : Machine.entry e t = Machine.entry e s
  records : ∃ rs, t.journal.records = s.journal.records ++ rs

theorem ReadLeaves.trans (h : ReadLeaves p e s t) (k : ReadLeaves p e t u) : ReadLeaves p e s u := by
  obtain ⟨rs, records⟩ := h.records
  obtain ⟨rs', records'⟩ := k.records
  exact ⟨k.other.trans h.other, k.entry.trans h.entry, rs ++ rs', by rw [records', records, List.append_assoc]⟩

theorem ReadLeaves.of_same (other : sess p.other t = sess p.other s) (entry : Machine.entry e t = Machine.entry e s)
    (journal : t.journal = s.journal) : ReadLeaves p e s t := ⟨other, entry, [], by rw [journal, List.append_nil]⟩

theorem readDone_leaves (p : Position) (img : CardImage) (e : Fin 4) (s : State) : ReadLeaves p e s (readDone p img s) :=
  .of_same (Pair.get_set_other _ _ _) rfl rfl

theorem append_leaves (p : Position) (b : RecordBody) (e : Fin 4) (s : State) : ReadLeaves p e s (append (some p) b s) := by
  refine ⟨sess_of_sales _ (append_sales _ _ _), by rw [Machine.entry, append_cards, Machine.entry], ?_⟩
  by_cases room : s.journal.records.length < Config.journalCapacity
  · exact ⟨_, congrArg Journal.records (append_journal_room room)⟩
  · exact ⟨[], by rw [append_journal_full room, List.append_nil]⟩

/-- The end of p's session leaves an entry that it does not own (R88). -/
theorem release_leaves (r : EndReason) (free : (entry e s).owner ≠ some (p, (sess p s).serial)) :
    ReadLeaves p e s (release p r s) := by
  refine .of_same ?_ ?_ (release_journal p r s)
  · rw [release_eq]
    exact Pair.get_set_other _ _ _
  · rw [release_eq]
    exact (vget_vmap _ _ _).trans (if_neg free)

theorem blockCard_leaves (apart : (sess p s).entry ≠ some e) : ReadLeaves p e s (blockCard p img s) := by
  unfold blockCard
  split
  · rename_i d own
    have ne : e ≠ d := fun same => apart (same ▸ own)
    split
    · refine ReadLeaves.trans ?_ (append_leaves p _ e _)
      exact .of_same rfl (entry_onEntry_ne ne _ s) rfl
    · exact append_leaves _ _ _ _
  · exact append_leaves _ _ _ _

theorem blockCard_sess (p q : Position) (img : CardImage) (s : State) : sess q (blockCard p img s) = sess q s := by
  refine sess_of_sales q ?_
  unfold blockCard
  split
  · split <;> exact append_sales _ _ _
  · exact append_sales _ _ _

theorem endReading_leaves {a : Result} (free : (entry e s).owner ≠ some (p, (sess p s).serial)) :
    ReadLeaves p e s (endReading p a .refused s) :=
  (ReadLeaves.of_same rfl rfl rfl : ReadLeaves p e s (answerQuote p a s)).trans (release_leaves .refused free)

/-- A read of p's session ends with an entry of another session, or of none, as it was. -/
theorem completeRead_leaves (apart : (sess p s).entry ≠ some e) (free : (entry e s).owner ≠ some (p, (sess p s).serial)) :
    ReadLeaves p e s (completeRead p img s) := by
  have done : sess p (readDone p img s) = { sess p s with held := some img, cardWait := none } := readDone_sess
  have serial : (sess p (readDone p img s)).serial = (sess p s).serial := (congrArg Session.serial done :)
  have own : (sess p (readDone p img s)).entry = (sess p s).entry := (congrArg Session.entry done :)
  have ended : ReadLeaves p e s (readDone p img s) := readDone_leaves p img e s
  have leave (a : Result) : ReadLeaves p e s (endReading p a .refused (readDone p img s)) :=
    ended.trans (endReading_leaves (by rw [serial]; exact free))
  cases req : (sess p s).req with
  | none =>
    rw [completeRead, req]
    exact .of_same rfl rfl rfl
  | some q =>
    rw [completeRead_eq req]
    split
    · exact leave _
    split
    · have blocked : ReadLeaves p e (readDone p img s) (blockCard p img (readDone p img s)) := blockCard_leaves (by rwa [own])
      refine (ended.trans blocked).trans (endReading_leaves ?_)
      rw [blocked.entry, blockCard_sess, serial]
      exact free
    split
    · exact leave _
    · rw [acceptQuote_eq]
      exact ended.trans (.of_same (Pair.get_set_other _ _ _) rfl rfl)

end Leaves

/-! ### A read of a card with a write outstanding or torn (R94, R95, R96) -/

section Torn
variable {p : Position} {img : CardImage} {e : Fin 4} {s : State}

/-- The completion write of a torn entry, made ready with the read that waits on it (R96). -/
theorem startCompletion_eq (p : Position) (e : Fin 4) (img : CardImage) (s : State) : startCompletion p e img s = { s with
    cards := { s.cards with
      entries := vset s.cards.entries e { entry e s with
        state := .resolving, excess := (writeImage s.fare.live.params.ceiling (entry e s).delta img).2 }
      reads := s.cards.reads.set p (.resolving e) }
    link := { s.link with cardReady := s.link.cardReady ++ [⟨p, s.port.moment, .write ⟨e, .completion, img.counter,
      (writeImage s.fare.live.params.ceiling (entry e s).delta img).1,
      (writeImage s.fare.live.params.ceiling (entry e s).delta img).2⟩⟩] } } := rfl

section Held
variable (found : entryOf img.id s = some e)
include found

theorem takeImage_waits (out : (entry e s).state = .writing ∨ (entry e s).state = .resolving) :
    takeImage p img s = setRead p (.awaiting img.id) s := by
  have whole : (entry e s).state ≠ .torn := by rintro torn; rw [torn] at out; obtain h | h := out <;> cases h
  simp only [takeImage, found, whole, if_false]

theorem takeImage_completes (torn : (entry e s).state = .torn) (same : img.counter = (entry e s).before) :
    takeImage p img s = startCompletion p e img s := by
  have behind : (entry e s).before ≠ (entry e s).before + 1 := by bv_omega
  simp only [takeImage, found, torn, same, behind, if_true, if_false]

theorem takeImage_settles (torn : (entry e s).state = .torn) (moved : img.counter ≠ (entry e s).before) :
    takeImage p img s = settleTorn p e (decide (img.counter = (entry e s).before + 1)) img s := by
  by_cases landed : img.counter = (entry e s).before + 1
  · simp only [takeImage, found, torn, if_pos landed, if_true, decide_eq_true landed]
  · simp only [takeImage, found, torn, if_neg landed, if_neg moved, if_true, decide_eq_false landed]

end Held

/-- A torn write that an image settles (R95): the record, and the entry for its owner, or free. -/
def settledTorn (p : Position) (e : Fin 4) (landed : Bool) (img : CardImage) (s : State) : State :=
  settleEntry e (recordResolved p e (if landed then .landed else .foreign) img (if landed then 0 else (entry e s).customer) s)

theorem settleEntry_same (e : Fin 4) (s : State) : (settleEntry e s).sales = s.sales ∧ (settleEntry e s).journal = s.journal ∧
    (settleEntry e s).coins = s.coins := by
  unfold settleEntry
  split <;> exact ⟨rfl, rfl, rfl⟩

theorem settledTorn_same (landed : Bool) : (settledTorn p e landed img s).sales = s.sales ∧
    (settledTorn p e landed img s).coins = s.coins := by
  obtain ⟨sales, -, coins⟩ := settleEntry_same e
    (recordResolved p e (if landed then .landed else .foreign) img (if landed then 0 else (entry e s).customer) s)
  exact ⟨sales.trans (append_sales _ _ _), coins.trans (append_coins _ _ _)⟩

theorem settledTorn_records (landed : Bool) (room : s.journal.records.length < 512) :
    (settledTorn p e landed img s).journal.records = s.journal.records ++ [commonPart s.fare.clock s.journal.next (some p)
      (.writeResolved img.id (if landed then .landed else .foreign) (entry e s).delta.value img.balance
        (if landed then 0 else (entry e s).customer))] := by
  rw [settledTorn, (settleEntry_same e _).2.1]
  exact congrArg Journal.records (append_journal_room room)

theorem settledTorn_entry (landed : Bool) : entry e (settledTorn p e landed img s) =
    (entry e s).owner.elim PendingEntry.free reservedFor := by
  have same : entry e (recordResolved p e (if landed then .landed else .foreign) img
      (if landed then 0 else (entry e s).customer) s) = entry e s := by rw [recordResolved, entry, append_cards, entry]
  rw [settledTorn, settleEntry, same]
  cases (entry e s).owner <;> exact entry_onEntry_self e _ _

/-- An entry with no owner is free, and the read goes on (R95). -/
theorem settleTorn_alone {landed : Bool} (free : (entry e s).owner = none) :
    settleTorn p e landed img s = completeRead p img (settledTorn p e landed img s) := by
  simp only [settleTorn, ownerOf_none free, settledTorn]

/-- The owner of a write that landed is handed DONE, and its sale is held while its coin is outstanding (R95, R114, R123). -/
theorem settleTorn_landed {o : Position} (owner : (entry e s).owner = some (o, (sess o s).serial)) (out : currentList o s ≠ [])
    (card : mediumOf (sess o s) = .card) (change : (sess o s).change = 0) (further : (sess o s).further = 0) :
    settleTorn p e true img s = completeRead p img (onSess o (fun y => { writtenSession img (entry e s).excess y with stage := .held })
      (settledTorn p e true img s)) := by
  obtain ⟨sales, coins⟩ := settledTorn_same (p := p) (e := e) (img := img) (s := s) true
  have session : sess o (settledTorn p e true img s) = sess o s := sess_of_sales o sales
  have sold := handedDone_sold (x := img) (excess := (entry e s).excess) (s := settledTorn p e true img s)
    (by rwa [session]) (by rwa [session]) (by rwa [session])
  rw [wantEnd_holds (by rwa [writtenSession_currentList, currentList_of_same coins sales]), onSess_onSess] at sold
  rw [← sold]
  simp only [settleTorn, ownerOf_current owner (busy_of_currentList out), if_true, settledTorn]

end Torn
end Sys2Proof.Machine

namespace Sys2Proof.Machine

/-! ### A torn write settled as its card is read (R95) -/

section Settled
variable {p : Position} {img : CardImage} {e : Fin 4} {landed : Bool} {s : State}

/-- The record of a torn write that an image settles (R95). -/
def settledRecord (p : Position) (e : Fin 4) (landed : Bool) (img : CardImage) (s : State) : Record :=
  commonPart s.fare.clock s.journal.next (some p)
    (.writeResolved img.id (if landed then .landed else .foreign) (entry e s).delta.value img.balance
      (if landed then 0 else (entry e s).customer))

/-- With no owner its entry is free at the end of the read (R95). -/
theorem settleTorn_frees (free : (entry e s).owner = none) (apart : (sess p s).entry ≠ some e)
    (room : s.journal.records.length < 512) : entry e (settleTorn p e landed img s) = PendingEntry.free ∧
    ∃ rs, (settleTorn p e landed img s).journal.records = s.journal.records ++ settledRecord p e landed img s :: rs := by
  have session : sess p (settledTorn p e landed img s) = sess p s := sess_of_sales p (settledTorn_same landed).1
  have freed : entry e (settledTorn p e landed img s) = PendingEntry.free := by rw [settledTorn_entry, free]; rfl
  obtain ⟨-, kept, rs, records⟩ := completeRead_leaves (p := p) (img := img) (e := e) (s := settledTorn p e landed img s)
    (by rwa [session]) (by rw [freed]; nofun)
  rw [settleTorn_alone free]
  refine ⟨kept.trans freed, rs, ?_⟩
  rw [records, settledTorn_records landed room, List.append_assoc]
  rfl

/-- The other position's sale whose write landed is held with its entry at the end of the read (R95, R114, R123). -/
theorem settleTorn_hands (owner : (entry e s).owner = some (p.other, (sess p.other s).serial)) (out : currentList p.other s ≠ [])
    (card : mediumOf (sess p.other s) = .card) (change : (sess p.other s).change = 0) (further : (sess p.other s).further = 0)
    (apart : (sess p s).entry ≠ some e) (room : s.journal.records.length < 512) :
    (entry e (settleTorn p e true img s)).state = .reserved ∧
    sess p.other (settleTorn p e true img s) =
      { writtenSession img (entry e s).excess (sess p.other s) with stage := .held } ∧
    ∃ rs, (settleTorn p e true img s).journal.records = s.journal.records ++ settledRecord p e true img s :: rs := by
  rw [settleTorn_landed owner out card change further]
  have sales : (settledTorn p e true img s).sales = s.sales := (settledTorn_same true).1
  have entryIs : entry e (settledTorn p e true img s) = reservedFor (p.other, (sess p.other s).serial) := by
    rw [settledTorn_entry, owner]
    rfl
  have records : (settledTorn p e true img s).journal.records = s.journal.records ++ [settledRecord p e true img s] :=
    settledTorn_records true room
  have own : sess p (settledTorn p e true img s) = sess p s := sess_of_sales p sales
  have theirs : sess p.other (settledTorn p e true img s) = sess p.other s := sess_of_sales _ sales
  generalize settledTorn p e true img s = u at entryIs records own theirs
  have reader (f : Session → Session) : sess p (onSess p.other f u) = sess p s := by rw [← own]; cases p <;> rfl
  have foreign : p.other ≠ p := by cases p <;> nofun
  obtain ⟨session, kept, rs, more⟩ := completeRead_leaves (p := p) (img := img) (e := e)
    (s := onSess p.other (fun y => { writtenSession img (entry e s).excess y with stage := .held }) u)
    (by rwa [reader]) (fun same => foreign (congrArg Prod.fst (Option.some.inj ((congrArg PendingEntry.owner entryIs).symm.trans same))))
  refine ⟨?_, ?_, rs, ?_⟩
  · rw [kept]
    exact congrArg PendingEntry.state entryIs
  · rw [session, sess_onSess_self, theirs]
  · rw [more]
    exact (congrArg (· ++ rs) records).trans (List.append_assoc _ _ _)

end Settled

/-! ### A credit-back's DETECT (R93) -/

section Credit
variable {p : Position} {img : CardImage} {e : Fin 4} {q : QuoteResult} {s t : State}

/-- A session whose credit-back is not made: its price is owed (R93, R118). -/
def priceOwed (q : QuoteResult) (x : Session) : Session :=
  creditOver x.creditedBack q.price 0 x.balanceAfter x.held x.entry x

/-- A session whose credit-back's DETECT is out (R93). -/
structure CreditDetect (p : Position) (img : CardImage) (e : Fin 4) (q : QuoteResult) (s : State) : Prop where
  stage : (sess p s).stage = .creditDetect
  held : (sess p s).held = some img
  own : (sess p s).entry = some e
  result : (sess p s).result = some q

section Detect
variable (h : CreditDetect p img e q s)
include h

theorem CreditDetect.of_sales (same : t.sales = s.sales) : CreditDetect p img e q t := by
  have session := sess_of_sales p same
  exact ⟨by rw [session]; exact h.stage, by rw [session]; exact h.held, by rw [session]; exact h.own,
    by rw [session]; exact h.result⟩

theorem CreditDetect.price : priceOf (sess p s) = q.price := by rw [priceOf, h.result]

/-- The card found is written to (R93). -/
theorem creditDetected_found (alone : heldElsewhere e img.id s = false) (on : online (cardAddr p) s = true) :
    creditDetected p (some img.id) s = startWrite p e .creditBack (some (p, (sess p s).serial))
      { Delta.zero with value := q.price } 0 img (onSess p (fun y => { y with stage := .creditWrite }) s) := by
  simp only [creditDetected, h.stage, h.held, h.own, h.price, alone, on, ne_eq, not_true, Bool.false_eq_true, Bool.true_eq_false,
    or_self, if_false]

/-- With another card found, or none, the price is owed (R93, R118). -/
theorem creditDetected_other {found : Option CardId} (other : found ≠ some img.id) : creditDetected p found s =
    wantEnd p (onSess p (priceOwed q) s) := by
  have owed : creditDetected p found s = notCredited p s := by
    simp only [creditDetected, h.stage, h.held, h.own, other, ne_eq, not_true, not_false_eq_true, true_or, if_true, if_false]
  rw [owed, notCredited]
  exact congrArg (wantEnd p) (onSess_congr (by rw [h.price]; rfl))

end Detect

/-- The session of a credit-back that found no card: held while its coin is outstanding, or closed with its record (R93, R118,
R123). -/
def CreditMissed (p : Position) (q : QuoteResult) (s t : State) : Prop :=
  (currentList p s ≠ [] → t.cards = s.cards ∧ t.journal = s.journal ∧
    t.sales = { s.sales with sess := s.sales.sess.set p { sess p s with
      owed := (sess p s).owed + q.price, stage := .held } }) ∧
  (currentList p s = [] → q.free = false → TicketFailedSale p s →
    TicketFailedClosed p (sess p s).creditedBack q.price 0 (sess p s).balanceAfter s t)

theorem creditDetected_missed (u : State) (found : Option CardId) (h : CreditDetect p img e q s) (other : found ≠ some img.id)
    (sales : u.sales = s.sales) (cards : u.cards = s.cards) (journal : u.journal = s.journal) (coins : u.coins = s.coins)
    (busy : Bool) : CreditMissed p q s (served busy (creditDetected p found u)) := by
  have session : sess p u = sess p s := sess_of_sales p sales
  have owes : sess p (onSess p (priceOwed q) u) = priceOwed q (sess p s) := by rw [sess_onSess_self, session]
  have list : currentList p (onSess p (priceOwed q) u) = currentList p s := by
    refine currentList_same coins ?_ ?_ <;> rw [owes] <;> rfl
  rw [creditDetected_other (h.of_sales sales) other]
  refine ⟨fun out => ?_, fun settled charged sale => ?_⟩
  · rw [wantEnd_holds (by rwa [list]), onSess_onSess, served_cards, served_journal, served_sales]
    refine ⟨cards, journal, ?_⟩
    rw [← sales, ← session]
    cases p <;> rfl
  · rw [wantEnd_closes (by rw [list, settled])]
    exact (closeSession_ticketFailed sale h.result charged owes journal).of_same (served_sales busy _) (served_journal busy _)

section Window
variable {age n : Nat} {busy : Bool} (h : CreditDetect p img e q s) (on : running s = true) (current : (sess p s).serial = n)
  (line : s.link.line = .window ⟨age, .card p (.detect n true)⟩)
include h on current line

/-- The credit-back's DETECT that finds the held card makes its WRITE ready (R93). -/
theorem creditFound_writes (alone : ∀ i, i ≠ e → ¬ Holds i img.id s) (up : (periph (cardAddr p) s).state = .online) :
    exec (.present p img.id busy) s = .next (served busy (startWrite p e .creditBack (some (p, n))
      { Delta.zero with value := q.price } 0 img (onSess p (fun y => { y with stage := .creditWrite }) (heard (cardAddr p) s)))) := by
  have here : CreditDetect p img e q (heard (cardAddr p) s) := h.of_sales rfl
  have sole : heldElsewhere e img.id s = false := heldElsewhere_none alone
  rw [present_taken on line, cardPresent_credit (s := heard (cardAddr p) s) current,
    creditDetected_found here sole (decide_eq_true ((heard_state _ s).trans up)), ← current]
  rfl

/-- Any other end of it finds no card (R93, R118). -/
theorem creditDetect_misses {i : Instr} (missing : i = .noCard p busy ∨ i = .collision p busy ∨ i = .answerTimeout busy ∨
    ∃ y, y ≠ img.id ∧ i = .present p y busy) : ∃ t, exec i s = .next t ∧ CreditMissed p q s t := by
  have absent : none ≠ some img.id := nofun
  obtain rfl | rfl | rfl | ⟨y, other, rfl⟩ := missing
  · refine ⟨_, noCard_taken on line, ?_⟩
    rw [cardAbsent_credit (s := heard (cardAddr p) s) current]
    exact creditDetected_missed (heard (cardAddr p) s) none h absent rfl rfl rfl rfl busy
  · refine ⟨_, collision_taken on line, ?_⟩
    rw [cardAbsent_credit (s := collisionCounted (cardAddr p) (heard (cardAddr p) s)) current]
    exact creditDetected_missed (collisionCounted _ (heard _ s)) none h absent rfl rfl rfl rfl busy
  · refine ⟨_, answerTimeout_runs (Bool.and_eq_true_iff.1 on).1 line, ?_⟩
    rw [unanswered_counted rfl, settleUnanswered_credit (s := unansweredCounted (.card p (.detect n true)) s) current]
    exact creditDetected_missed (unansweredCounted _ s) none h absent rfl rfl rfl rfl busy
  · have another : some y ≠ some img.id := fun same => other (Option.some.inj same)
    refine ⟨_, present_taken on line, ?_⟩
    rw [cardPresent_credit (s := heard (cardAddr p) s) current]
    exact creditDetected_missed (heard (cardAddr p) s) (some y) h another rfl rfl rfl rfl busy

end Window
end Credit
end Sys2Proof.Machine

namespace Sys2Proof.Proofs
open Sys2Proof Sys2Proof.Machine

/-- Settles O51: each answer is taken in its window, an image is taken by the entry that holds its card, and a read that goes on
ends by what its image holds. -/
theorem cardReadAnswers : Obligations.CardReadAnswers := by
  intro p age n x busy s on current heardHere done
  refine ⟨fun line detecting => ⟨?_, ?_, ?_⟩, fun line reading => ?_, fun img e q line stage held own result => ?_⟩
  · rw [present_taken on line, cardPresent_reads (s := heard (cardAddr p) s) current detecting]
    rfl
  · rw [noCard_taken on line, cardAbsent_detects]
    rfl
  · rw [collision_taken on line, cardAbsent_detects]
    rfl
  · have here : readOf p (heard (cardAddr p) s) = .reading x := reading
    have serial : (sess p (heard (cardAddr p) s)).serial = n := current
    intro again
    refine ⟨?_, ?_, fun body bad => ?_, fun body img q good req => ?_⟩
    · rw [readFailed_taken on line, readNotDone_again serial here]
      rfl
    · rw [readFailed_taken on line, readNotDone_again serial here, if_pos rfl, setRead_raiseFault]
      rfl
    · rw [image_taken on line, imageReturned_bad serial here bad, setRead_raiseFault]
      rfl
    intro now ended refused priced
    have asked : (sess p (heard (cardAddr p) s)).req = some q := req
    rw [show now = _ from image_takes on current line reading good]
    refine ⟨fun free => ?_, fun e card alone => ?_⟩
    · have unheld (i : Fin 4) : ¬ Holds i img.id s := not_holds_iff.2 (free i)
      have tag : (sess p (readDone p img (heard (cardAddr p) s))).tag = (sess p s).tag := by rw [readDone_sess]; rfl
      rw [takeImage_free (s := heard (cardAddr p) s) unheld]
      refine ⟨fun blocked => ?_, fun e active listed own up => ?_, fun r active unlisted refusal => ?_, fun r active unlisted ok => ?_⟩
      · rw [completeRead_blocked asked blocked, endReading_answers, tag]
        rfl
      · have sole : heldElsewhere e img.id s = false := heldElsewhere_none fun i _ => unheld i
        rw [completeRead_blocks asked active listed own (decide_eq_true ((heard_state _ s).trans up)) sole, startWrite_eq]
        rfl
      · rw [completeRead_refused asked active unlisted refusal, endReading_answers, tag]
        rfl
      · rw [completeRead_priced asked active unlisted ok, acceptQuote_eq, readDone_sess]
        refine congrArg (fun t => Host.Outcome.next (settle busy (masks none (notify 0 _ (enqueue _ t))))) ?_
        rw [readDone, Pair.set_set]
        rfl
    · have found (busy : (entry e s).state ≠ .free) : entryOf img.id (heard (cardAddr p) s) = some e :=
        entryOf_sole (s := heard (cardAddr p) s) ⟨busy, card⟩ fun i other => not_holds_iff.2 (alone i other)
      refine ⟨fun out => ?_, fun torn same => ?_, fun torn moved apart room => ?_⟩
      · rw [takeImage_waits (found (by obtain h | h := out <;> rw [h] <;> nofun)) out]
        rfl
      · rw [takeImage_completes (found (by rw [torn]; nofun)) torn same, startCompletion_eq]
        rfl
      intro landed note
      have record : settledRecord p e (decide landed) img (heard (cardAddr p) s) = note := by
        simp only [settledRecord, decide_eq_true_eq]
        rfl
      rw [takeImage_settles (found (by rw [torn]; nofun)) torn moved]
      refine ⟨fun free => ?_, fun lands owner out medium change further => ?_⟩
      · obtain ⟨freed, rs, records⟩ :=
          settleTorn_frees (landed := decide landed) (img := img) (s := heard (cardAddr p) s) free apart room
        refine ⟨_, rs, rfl, ?_, ?_⟩
        · rw [entry, served_cards]
          exact freed
        · rw [served_journal, ← record]
          exact records
      · obtain ⟨reserved, session, rs, records⟩ :=
          settleTorn_hands (img := img) (s := heard (cardAddr p) s) owner out medium change further apart room
        rw [decide_eq_true lands] at record
        rw [decide_eq_true (show img.counter = (entry e (heard (cardAddr p) s)).before + 1 from lands)]
        refine ⟨_, rs, rfl, ?_, ?_, ?_⟩
        · rw [entry, served_cards]
          exact reserved
        · rw [served_journal, ← record]
          exact records
        · rw [sess_of_sales p.other (served_sales busy _), session]
          exact ⟨rfl, rfl, rfl, rfl, rfl⟩
  · have h : CreditDetect p img e q s := ⟨stage, held, own, result⟩
    refine ⟨?_, fun i => creditDetect_misses h on current line⟩
    intro back w writing alone up
    rw [creditFound_writes h on current line (fun i other => not_holds_iff.2 (alone i other)) up, startWrite_eq]
    cases p <;> rfl

end Sys2Proof.Proofs

namespace Sys2Proof.Machine

/-! ### TOUCH (R111) -/

section Touch
variable {tag : Byte} {p : Position} {s : State} (h : takes (.touch tag (some p)) s = true)
include h

theorem execTouch_taken : exec (.touch tag (some p)) s = .next (finish (touchTaken p tag (takeFrame s))) := by
  show execTouch _ _ _ = _
  rw [execTouch, request_taken h]

theorem execTouch_quoted (quoted : (sess p s).state = .quoted) :
    exec (.touch tag (some p)) s = .next (answeredOnly 0 tag 4 .ok .empty { takeFrame s with
      sales := { s.sales with sess := s.sales.sess.set p { sess p s with
        quoteLife := some s.sales.timing.quoteLife } } }) := by
  rw [execTouch_taken h, touchTaken, show (sess p (takeFrame s)).state = .quoted from quoted]
  cases p <;> rfl

theorem execTouch_collecting (collecting : (sess p s).state = .collecting) :
    exec (.touch tag (some p)) s = .next (answeredOnly 0 tag 4 .ok .empty { takeFrame s with
      sales := { s.sales with sess := s.sales.sess.set p { sess p s with
        inactivity := some s.sales.timing.inactivity } } }) := by
  rw [execTouch_taken h, touchTaken, show (sess p (takeFrame s)).state = .collecting from collecting]
  cases p <;> rfl

theorem execTouch_refused (quoted : (sess p s).state ≠ .quoted) (collecting : (sess p s).state ≠ .collecting) :
    exec (.touch tag (some p)) s = .next (answeredOnly 0 tag 4 .state .empty (takeFrame s)) := by
  rw [execTouch_taken h, touchTaken]
  split
  case h_1 is => exact absurd is quoted
  case h_2 is => exact absurd is collecting
  all_goals rfl

end Touch
end Sys2Proof.Machine

namespace Sys2Proof.Proofs
open Sys2Proof Sys2Proof.Machine

/-- Settles O22: a TOUCH by the state of its session. -/
theorem touchRestartsTimers : Obligations.TouchRestartsTimers :=
  fun _ _ _ h => ⟨execTouch_quoted h, execTouch_collecting h, execTouch_refused h⟩

end Sys2Proof.Proofs

namespace Sys2Proof.Machine

/-! ### A QUOTE refused, or priced at once (R11, R76, R104, R105, R106) -/

section Quote
variable {tag : Byte} {p : Position} {q : QuoteReq} {busy : Bool} {s : State}

theorem execQuote_range (h : takes (.quote tag none q busy) s = true) :
    exec (.quote tag none q busy) s = .next (answeredOnly 0 tag 1 .range .empty (takeFrame s)) := by
  show execQuote _ _ _ _ _ = _
  rw [execQuote, request_taken h]
  rfl

/-- What a QUOTE looks at lies outside the receive buffer, which its frame leaves. -/
theorem execQuote_taken (h : takes (.quote tag (some p) q busy) s = true) :
    exec (.quote tag (some p) q busy) s = .next (finish (quoteTaken p tag q busy (takeFrame s))) := by
  show execQuote _ _ _ _ _ = _
  rw [execQuote, request_taken h]

/-- A QUOTE that is refused is answered, and that is all. -/
theorem execQuote_refused {r : Result} (h : takes (.quote tag (some p) q busy) s = true)
    (refused : quoteTaken p tag q busy (takeFrame s) = saleAnswer tag 1 r (takeFrame s)) :
    exec (.quote tag (some p) q busy) s = .next (answeredOnly 0 tag 1 r .empty (takeFrame s)) := by
  rw [execQuote_taken h, refused]
  rfl

/-! #### The session controller's checks in order (R104) -/

theorem quoteTaken_refused {r : Result} (h : quoteRefusal p q s = some r) : quoteTaken p tag q busy s = saleAnswer tag 1 r s := by
  simp only [quoteTaken, h]

theorem quoteRefusal_state (h : (sess p s).state ≠ .idle) : quoteRefusal p q s = some .state := if_pos h

section Idle
variable (idle : (sess p s).state = .idle)
include idle

theorem quoteRefusal_mode (h : s.port.mode ≠ .inService) : quoteRefusal p q s = some .outOfService :=
  (if_neg (not_not.2 idle)).trans (if_pos h)

section Serves
variable (serves : s.port.mode = .inService)
include serves

theorem quoteRefusal_serves : quoteRefusal p q s =
    if lent s then some .linkLent
    else if 496 ≤ s.journal.records.length then some .journalFull
    else if q.payment = .coins ∧ online (valAddr p) s = false then some .noCoins
    else if q.medium = .paper ∧ printerDown s = true then some .printerUnavailable
    else none := (if_neg (not_not.2 idle)).trans (if_neg (not_not.2 serves))

theorem quoteRefusal_lent (h : s.link.lend ≠ none) : quoteRefusal p q s = some .linkLent := by
  rw [quoteRefusal_serves idle serves, if_pos (show lent s = true from Option.isSome_iff_ne_none.2 h)]

section Unlent
variable (unlent : s.link.lend = none)
include unlent

theorem quoteRefusal_full (h : 496 ≤ s.journal.records.length) : quoteRefusal p q s = some .journalFull := by
  rw [quoteRefusal_serves idle serves, if_neg (by rw [lent, unlent]; nofun), if_pos h]

section Room
variable (room : s.journal.records.length < 496)
include room

theorem quoteRefusal_room : quoteRefusal p q s =
    if q.payment = .coins ∧ online (valAddr p) s = false then some .noCoins
    else if q.medium = .paper ∧ printerDown s = true then some .printerUnavailable
    else none := by
  rw [quoteRefusal_serves idle serves, if_neg (by rw [lent, unlent]; nofun), if_neg (Nat.not_le.2 room)]

theorem quoteRefusal_noCoins (coins : q.payment = .coins) (off : (periph (valAddr p) s).state ≠ .online) :
    quoteRefusal p q s = some .noCoins := by
  rw [quoteRefusal_room idle serves unlent room, if_pos ⟨coins, decide_eq_false off⟩]

theorem quoteRefusal_printer (coins : q.payment = .coins → (periph (valAddr p) s).state = .online) (paper : q.medium = .paper)
    (down : ¬ PrinterServes s) : quoteRefusal p q s = some .printerUnavailable := by
  rw [quoteRefusal_room idle serves unlent room, if_neg fun ⟨pay, off⟩ => of_decide_eq_false off (coins pay),
    if_pos ⟨paper, printerDown_iff.2 down⟩]

end Room
end Unlent
end Serves
end Idle

/-! #### The checks behind them (R11, R76) -/

/-- Behind stage 1 the price decides (R105). -/
theorem quotePlain_stage1 {b : Bank} {c : Clock} {u : Nat} (stage : stage1 b c q = none) :
    quotePlain b c u q = priceQuote b c u q none := by simp only [quotePlain, stage]

section Opened
variable (opened : QuoteOpen p q s)
include opened

/-- Stage 1 refuses the quotes that read a card and those that do not alike (R11). -/
theorem quoteTaken_stage1 {r : Result} (h : stage1 s.fare.live s.fare.clock q = some r) :
    quoteTaken p tag q busy s = saleAnswer tag 1 r s := by
  simp only [quoteTaken, quoteRefusal_open opened, quotePlain, h, ite_self]

theorem quoteTaken_unpriced {r : Result} (plain : readsCard q = false)
    (h : quotePlain s.fare.live s.fare.clock s.cash.unit q = .error r) : quoteTaken p tag q busy s = saleAnswer tag 1 r s := by
  simp only [quoteTaken, quoteRefusal_open opened, plain, h, Bool.false_eq_true, if_false]

section Reads
variable (reads : readsCard q = true) (stage : stage1 s.fare.live s.fare.clock q = none)
include reads stage

theorem quoteTaken_blocked (h : ∀ e, (entry e s).state ≠ .free) : quoteTaken p tag q busy s = saleAnswer tag 1 .cardWritesBlocked s := by
  have none : freeEntry s = none := find_fours_none fun e => decide_eq_false (h e)
  simp only [quoteTaken, quoteRefusal_open opened, reads, stage, none, if_true]

theorem quoteTaken_noCard {e : Fin 4} (free : (entry e s).state = .free) (off : (periph (cardAddr p) s).state ≠ .online) :
    quoteTaken p tag q busy s = saleAnswer tag 1 .noCard s := by
  have down : online (cardAddr p) s = false := decide_eq_false off
  obtain ⟨i, found⟩ : ∃ i, freeEntry s = some i := by
    have listed : ∀ e : Fin 4, e ∈ fours := by decide
    exact Option.isSome_iff_exists.1 (List.find?_isSome.2 ⟨e, listed e, decide_eq_true free⟩)
  simp only [quoteTaken, quoteRefusal_open opened, reads, stage, found, down, if_true, Bool.false_eq_true, if_false]

end Reads

/-- A quote that reads no card is priced, and its session is QUOTED (R105, R106). -/
theorem quoteTaken_priced {r : QuoteResult} (plain : readsCard q = false)
    (priced : quotePlain s.fare.live s.fare.clock s.cash.unit q = .ok r) : quoteTaken p tag q busy s =
      notify 0 (.session p .quoted .priced) (enqueue ⟨0, tag, 1, .ok, .quote r, none⟩
        (onSess p (fun x => { Session.idle (x.serial + 1) with
          tag := tag, state := .quoted, req := some q, result := some r,
          quoteLife := some s.sales.timing.quoteLife }) s)) := by
  have accepted : quoteTaken p tag q busy s = acceptQuote p r (newSession p tag q s) := by
    simp only [quoteTaken, quoteRefusal_open opened, plain, priced, Bool.false_eq_true, if_false]
  rw [accepted, acceptQuote_eq]
  cases p <;> rfl

end Opened
end Quote
end Sys2Proof.Machine

namespace Sys2Proof.Proofs
open Sys2Proof Sys2Proof.Machine

/-- Settles O14: every check passes, and the price is at hand without a card. -/
theorem quotePricedAtOnce : Obligations.QuotePricedAtOnce := by
  intro tag p q r busy s h opened paper coins priced
  have plain : readsCard q = false := by rw [readsCard, paper, coins]; rfl
  rw [execQuote_taken h, quoteTaken_priced (s := takeFrame s) opened plain priced]
  rfl

/-- Settles O15: each check refuses once those before it have passed. -/
theorem quoteRefusalsInOrder : Obligations.QuoteRefusalsInOrder := by
  intro tag p q busy s
  refine ⟨execQuote_range, fun h => ?_⟩
  intro refused idle serves unlent room coins
  have checked {r : Result} (check : quoteRefusal p q (takeFrame s) = some r) : refused r :=
    execQuote_refused h (quoteTaken_refused check)
  refine ⟨fun state => checked (quoteRefusal_state state), fun idle mode => checked (quoteRefusal_mode idle mode),
    fun ⟨idle, serves⟩ lend => checked (quoteRefusal_lent idle serves lend),
    fun ⟨⟨idle, serves⟩, unlent⟩ full => checked (quoteRefusal_full idle serves unlent full),
    fun ⟨⟨⟨idle, serves⟩, unlent⟩, room⟩ pay off => checked (quoteRefusal_noCoins idle serves unlent room pay off),
    fun ⟨⟨⟨⟨idle, serves⟩, unlent⟩, room⟩, coins⟩ paper down =>
      checked (quoteRefusal_printer idle serves unlent room coins paper down),
    fun opened => ⟨fun r stage => execQuote_refused h (quoteTaken_stage1 (s := takeFrame s) opened stage),
      fun r plain stage price => execQuote_refused h
        (quoteTaken_unpriced (s := takeFrame s) opened plain ((quotePlain_stage1 stage).trans price)),
      fun reads stage => ⟨fun blocked => execQuote_refused h (quoteTaken_blocked (s := takeFrame s) opened reads stage blocked),
        fun e free off => execQuote_refused h (quoteTaken_noCard (s := takeFrame s) opened reads stage free off)⟩⟩⟩

end Sys2Proof.Proofs

namespace Sys2Proof.Machine

/-! ### INTERRUPTED records (R130, R149, R156) -/

/-- The figures of a rise are what the totals rise by (R156). -/
theorem addRise_raised (r : TotalRise) (t : Totals) :
    Raised r.change r.refund r.owed r.loaded r.debited r.sold r.free r.unresolved t (addRise r t) := by
  refine ⟨rfl, rfl, rfl, rfl, rfl, rfl, rfl, addRise_sales r t, ?_, ?_⟩
  · simp only [addRise, Bool.and_eq_true]
    split <;> simp
  · simp only [addRise]
    split <;> simp

section Interrupt
variable {p : Position} {x : Session} {s : State}

theorem interrupt_none (h : hadMoney (sess p s) = false) : interrupt p s = s := if_neg (by rw [h]; nofun)

theorem interrupt_some (h : hadMoney (sess p s) = true) : interrupt p s =
    append (some p) (.interrupted (interruptedRec (sess p s))) (addTotals (interruptedRise (sess p s)) s) := if_pos h

theorem hadMoney_false (h : x.state = .idle ∨ x.state = .reading ∨ x.state = .quoted) : hadMoney x = false := by
  obtain h | h | h := h <;> rw [hadMoney, h]

theorem hadMoney_true (h : x.state = .collecting ∨ x.state = .issuing ∨ x.state = .payingOut ∨ x.state = .refunding) :
    hadMoney x = true := by
  obtain h | h | h | h := h <;> rw [hadMoney, h]

/-- The totals rise by the record's figures whether the journal has room for it or not. -/
theorem interrupt_running (h : hadMoney (sess p s) = true) :
    (interrupt p s).journal.running = addRise (interruptedRise (sess p s)) s.journal.running := by
  rw [interrupt_some h]
  by_cases room : (addTotals (interruptedRise (sess p s)) s).journal.records.length < Config.journalCapacity
  · rw [append_journal_room room]
    rfl
  · rw [append_journal_full room]
    rfl

theorem interrupt_room (h : hadMoney (sess p s) = true) (room : s.journal.records.length < 512) :
    (interrupt p s).journal.records =
      s.journal.records ++ [commonPart s.fare.clock s.journal.next (some p) (.interrupted (interruptedRec (sess p s)))] ∧
    (interrupt p s).journal.notWritten = s.journal.notWritten := by
  rw [interrupt_some h, append_journal_room (s := addTotals _ s) room]
  exact ⟨rfl, rfl⟩

theorem interrupt_full (h : hadMoney (sess p s) = true) (full : 512 ≤ s.journal.records.length) :
    (interrupt p s).journal.records = s.journal.records ∧
    (interrupt p s).journal.notWritten = s.journal.notWritten + 1 := by
  rw [interrupt_some h, append_journal_full (s := addTotals _ s) (Nat.not_lt.2 full)]
  exact ⟨rfl, rfl⟩

/-! #### The record's figures (R130) -/

theorem interruptedRec_coins (coins : x.payment = some .coins) : (interruptedRec x).debited = 0 ∧ (interruptedRec x).owed =
    x.credit - keptAtRestart x - x.changePaid - x.refundPaid + x.owed + x.cardOwed := by
  have pay : payOf x = .coins := congrArg (·.getD .coins) coins
  simp only [interruptedRec, owedAtRestart, pay]
  exact ⟨rfl, rfl⟩

theorem interruptedRec_stored (stored : x.payment = some .storedValue) : (interruptedRec x).debited = debitedAtRestart x ∧
    (interruptedRec x).owed = debitedAtRestart x - keptAtRestart x - x.creditedBack + x.owed + x.cardOwed := by
  have pay : payOf x = .storedValue := congrArg (·.getD .coins) stored
  simp only [interruptedRec, owedAtRestart, pay]
  exact ⟨rfl, rfl⟩

theorem interruptedRec_priced {q : QuoteResult} (result : x.result = some q) : (interruptedRec x).product = q.product ∧
    (interruptedRec x).price = q.price ∧ (interruptedRec x).free = q.free := by
  simp only [interruptedRec, priceOf, isFree, result, and_self]

/-- A write that was not made debited nothing. -/
theorem debitedAtRestart_unmade (h : (∃ f, x.write = .notDone f) ∨ (x.write = .none ∧ x.stage ≠ .cardWrite)) :
    debitedAtRestart x = 0 := by
  obtain ⟨f, write⟩ | ⟨write, stage⟩ := h <;> rw [debitedAtRestart, write]
  exact if_neg stage

/-- A write that was made, or is not known not to have been, debited the price. -/
theorem debitedAtRestart_sent {q : QuoteResult} (result : x.result = some q)
    (h : x.write = .done ∨ x.write = .foreign ∨ x.write = .torn ∨ (x.write = .none ∧ x.stage = .cardWrite)) :
    debitedAtRestart x = q.price := by
  have price : priceOf x = q.price := by rw [priceOf, result]
  obtain write | write | write | ⟨write, stage⟩ := h <;> rw [debitedAtRestart, write, price]
  exact if_pos stage

theorem payOf_stored : payOf x = .storedValue ↔ x.payment = some .storedValue := by
  cases h : x.payment <;> simp [payOf, h]

/-- The rise of the totals, in the figures of the record (R156). -/
theorem interruptedRise_raised (x : Session) (t : Totals) :
    Raised x.changePaid x.refundPaid (interruptedRec x).owed (if x.write = .done then x.loaded else 0)
      (if x.payment = some .storedValue then (interruptedRec x).debited - x.creditedBack else 0)
      (if x.issued then x.result.map (·.product) else none) (interruptedRec x).free false t (addRise (interruptedRise x) t) := by
  have debited : (interruptedRise x).debited =
      if x.payment = some .storedValue then (interruptedRec x).debited - x.creditedBack else 0 := by
    by_cases stored : x.payment = some .storedValue
    · obtain ⟨figure, -⟩ := interruptedRec_stored stored
      rw [if_pos stored, figure]
      exact if_pos (payOf_stored.2 stored)
    · rw [if_neg stored]
      exact if_neg (mt payOf_stored.1 stored)
  rw [← debited]
  exact addRise_raised (interruptedRise x) t

end Interrupt
end Sys2Proof.Machine

namespace Sys2Proof.Proofs
open Sys2Proof Sys2Proof.Machine

/-- Settles O11: the record is `interruptedRec` of the session, and the totals rise by its figures. -/
theorem interruptedSessionIsRecorded : Obligations.InterruptedSessionIsRecorded := by
  intro p s x kept
  refine ⟨fun before => interrupt_none (hadMoney_false before), fun past => ?_⟩
  have money : hadMoney x = true := hadMoney_true past
  refine ⟨interruptedRec x, rfl, rfl, rfl, rfl, rfl, rfl, rfl, rfl, rfl, interruptedRec_coins, fun q => interruptedRec_priced,
    fun q stored result => ?_, ?_, interrupt_room money, interrupt_full money⟩
  · obtain ⟨debited, owed⟩ := interruptedRec_stored stored
    rw [debited]
    exact ⟨owed, debitedAtRestart_unmade, debitedAtRestart_sent result⟩
  · rw [interrupt_running money]
    exact interruptedRise_raised x s.journal.running

end Sys2Proof.Proofs

namespace Sys2Proof.Machine

/-! ### The service door (R128, R129, R186, R196) -/

/-! #### A lend reclaimed (R186) -/

section Reclaim
variable {c c' : ReclaimCause} {d : Lend} {s : State}

theorem reclaim_unlent (h : s.link.lend = none) : reclaim c s = s := by simp only [reclaim, h]

theorem reclaim_notified (h : s.link.lend = some d) (phase : d.phase = .lent) :
    reclaim c s = notify 1 (.linkReclaim d.addr c false)
      { s with link := { s.link with lend := some { d with phase := .reclaiming c } } } := by
  simp only [reclaim, h, phase]
  rfl

theorem reclaim_lent (h : s.link.lend = some d) (phase : d.phase = .lent) :
    (reclaim c s).link.lend = some { d with phase := .reclaiming c } := by
  rw [reclaim_notified h phase, notify_link]

theorem reclaim_again (h : s.link.lend = some d) (phase : d.phase = .reclaiming c') : reclaim c s = s := by
  simp only [reclaim, h, phase]

/-- A reclaim changes the lend, and the port by its notice alone. -/
theorem reclaim_eq (c : ReclaimCause) (s : State) : ∃ ns n, reclaim c s = { s with
    link := { s.link with lend := (reclaim c s).link.lend }, port := { s.port with notices := ns, lost := n } } := by
  cases lend : s.link.lend with
  | none =>
    rw [reclaim_unlent lend]
    exact ⟨_, _, rfl⟩
  | some d =>
    cases phase : d.phase with
    | lent =>
      obtain ⟨-, ns, n, port⟩ := notify_masksOnly 1 (.linkReclaim d.addr c false)
        { s with link := { s.link with lend := some { d with phase := .reclaiming c } } }
      refine ⟨ns, n, ?_⟩
      rw [reclaim_notified lend phase, ← port]
      rfl
    | reclaiming c' =>
      rw [reclaim_again lend phase]
      exact ⟨_, _, rfl⟩

end Reclaim

/-! #### The sessions at the opening (R128) -/

/-- What the sessions leave as it is when the door opens. -/
structure DoorKept where
  fare : Fare
  cash : Cash
  deny : List CardId
  lend : Option Lend
  mode : Mode
  doorOpen : Bool
  doorLine : Bool

def doorKept (s : State) : DoorKept :=
  ⟨s.fare, s.cash, s.cards.deny, s.link.lend, s.port.mode, s.port.doorOpen, s.doorLine⟩

/-- The session has taken nothing: it is QUOTED or READING, or collects with no credit and no coin outstanding. -/
def TookNothing (p : Position) (s : State) : Prop := (sess p s).state = .quoted ∨ (sess p s).state = .reading ∨
  (sess p s).state = .collecting ∧ (sess p s).credit = 0 ∧ currentList p s = []

section Sessions
variable {p : Position} {r : EndReason} {s t : State}

theorem Controlled.doorKept (h : Controlled p s t) : doorKept t = Machine.doorKept s :=
  (congrArg (fun u => Machine.doorKept u) h.aside :)

theorem enqueue_doorKept (a : Answer) (s : State) : doorKept (enqueue a s) = doorKept s := by
  simp only [doorKept, enqueue, onPort]
  split <;> rfl

theorem cancelCollecting_controlled (h : Controlled p s t) : Controlled p s (cancelCollecting p r t) :=
  controlled_ite (release_controlled h) (enterRefund_controlled h)

/-- At the opening of the door p's controller acts, after the answer of a QUOTE that reads a card. -/
theorem doorSession_controlled (p : Position) (s : State) :
    Controlled p s (doorSession p s) ∨ Controlled p (answerQuote p .outOfService s) (doorSession p s) := by
  unfold doorSession
  split
  case h_1 => exact .inr (endReading_controlled (.refl p _))
  case h_2 => exact .inl (release_controlled (.refl p s))
  case h_3 => exact .inl (cancelCollecting_controlled (.refl p s))
  all_goals exact .inl (.refl p s)

theorem doorSession_doorKept (p : Position) (s : State) : doorKept (doorSession p s) = doorKept s := by
  obtain h | h := doorSession_controlled p s
  · exact h.doorKept
  · exact h.doorKept.trans (enqueue_doorKept _ s)

theorem doorSession_coins (p : Position) (s : State) : (doorSession p s).coins = s.coins := by
  obtain h | h := doorSession_controlled p s
  · exact h.coins
  · exact h.coins

theorem doorSession_other (p : Position) (s : State) : sess p.other (doorSession p s) = sess p.other s := by
  obtain h | h := doorSession_controlled p s
  · exact h.sess_other
  · exact h.sess_other

theorem doorSession_ends (h : TookNothing p s) : (sess p (doorSession p s)).state = .idle := by
  obtain quoted | reading | ⟨collecting, credit, settled⟩ := h
  · simp only [doorSession, quoted]
    exact release_sess p _ s
  · simp only [doorSession, reading]
    exact release_sess p _ _
  · have none : pledged p s = 0 := by rw [pledged, credit, settled]; rfl
    simp only [doorSession, collecting]
    rw [cancelCollecting_empty credit none]
    exact release_sess p _ s

/-- Both sessions in turn: each has its own state alone to go by. -/
theorem doorSessions_end (h : TookNothing p s) : (sess p (doorSession .B (doorSession .A s))).state = .idle := by
  cases p with
  | A =>
    rw [show sess .A (doorSession .B (doorSession .A s)) = _ from doorSession_other .B _]
    exact doorSession_ends h
  | B =>
    have same : sess .B (doorSession .A s) = sess .B s := doorSession_other .A s
    have settled : currentList .B (doorSession .A s) = currentList .B s :=
      currentList_same (doorSession_coins .A s) (by rw [same]) (by rw [same])
    exact doorSession_ends (by rwa [TookNothing, same, settled])

end Sessions

/-! #### The door's changes -/

section Door
variable {busy : Bool} {s : State}

/-- The opening of the door, before its lend is reclaimed. -/
def doorOpening (s : State) : State := doorSession .B (doorSession .A (setDoor true (setDoorLine true s)))

theorem doorOpened_runs (on : s.power = true) (closed : s.port.doorOpen = false) :
    exec (.doorOpened busy) s = .next (served busy (reclaim .door (doorOpening s))) :=
  congrArg Host.Outcome.next (if_pos ⟨on, closed⟩)

theorem doorClosed_runs (on : s.power = true) (opened : s.port.doorOpen = true) :
    exec (.doorClosed busy) s = .next (served busy (reclaim .door (setDoor false (setDoorLine false s)))) :=
  congrArg Host.Outcome.next (if_pos ⟨on, opened⟩)

theorem doorOpening_doorKept (s : State) : doorKept (doorOpening s) = doorKept (setDoor true (setDoorLine true s)) :=
  (doorSession_doorKept .B _).trans (doorSession_doorKept .A _)

theorem served_only (busy : Bool) (s : State) : OnlyServed s (served busy s) := onlyServed_of_unserved (served_unserved busy s)

theorem served_lend (busy : Bool) (s : State) : (served busy s).link.lend = s.link.lend := by
  obtain ⟨-, -, -, -, -, -, -, -, -, -, -, -, -, -, -, -, -, -, lend, -⟩ := served_only busy s
  exact lend

/-- A lend in phase LENT is reclaimed, and one that is being reclaimed is left as it is. -/
theorem reclaimed_lend {u : State} (busy : Bool) (same : u.link.lend = s.link.lend) :
    (s.link.lend = none → (served busy (reclaim .door u)).link.lend = none) ∧
    (∀ d, s.link.lend = some d → d.phase = .lent →
      (served busy (reclaim .door u)).link.lend = some { d with phase := .reclaiming .door }) ∧
    (∀ d c, s.link.lend = some d → d.phase = .reclaiming c → (served busy (reclaim .door u)).link.lend = some d) := by
  rw [served_lend, ← same]
  refine ⟨fun unlent => ?_, fun d held phase => reclaim_lent held phase, fun d c held phase => ?_⟩
  · rw [reclaim_unlent unlent, unlent]
  · rw [reclaim_again held phase, held]

/-- What the reclaim and the serving that follows leave. -/
theorem reclaimed_keeps (busy : Bool) (s : State) : (served busy (reclaim .door s)).port.mode = s.port.mode ∧
    (served busy (reclaim .door s)).port.doorOpen = s.port.doorOpen ∧ (served busy (reclaim .door s)).doorLine = s.doorLine ∧
    (served busy (reclaim .door s)).sales = s.sales ∧ (served busy (reclaim .door s)).fare = s.fare ∧
    (served busy (reclaim .door s)).cash = s.cash ∧ (served busy (reclaim .door s)).cards = s.cards ∧
    (served busy (reclaim .door s)).journal = s.journal ∧ (served busy (reclaim .door s)).change.tubes = s.change.tubes ∧
    (served busy (reclaim .door s)).change.box = s.change.box ∧ (served busy (reclaim .door s)).change.resv = s.change.resv := by
  obtain ⟨-, -, doorLine, fare, cash, tubes, box, resv, -, cards, sales, journal, -, mode, doorOpen, -⟩ :=
    served_only busy (reclaim .door s)
  rw [mode, doorOpen, doorLine, sales, fare, cash, cards, journal, tubes, box, resv]
  obtain ⟨ns, n, e⟩ := reclaim_eq .door s
  rw [e]
  exact ⟨rfl, rfl, rfl, rfl, rfl, rfl, rfl, rfl, rfl, rfl, rfl⟩

end Door
end Sys2Proof.Machine

namespace Sys2Proof.Proofs
open Sys2Proof Sys2Proof.Machine

/-- Settles O12: the door's change at the port, the sessions in turn, and the lend reclaimed as the door's change leaves it. -/
theorem doorDecidesTheMode : Obligations.DoorDecidesTheMode := by
  intro busy s on
  refine ⟨fun closed => ?_, fun opened => ?_⟩
  · have kept := doorOpening_doorKept s
    obtain ⟨mode, doorOpen, doorLine, sales, fare, cash, cards, -⟩ := reclaimed_keeps busy (doorOpening s)
    have ends (p : Position) (h : TookNothing p s) : (sess p (served busy (reclaim .door (doorOpening s)))).state = .idle := by
      rw [sess_of_sales p sales]
      exact doorSessions_end (s := setDoor true (setDoorLine true s)) h
    refine ⟨_, doorOpened_runs on closed, mode.trans (congrArg DoorKept.mode kept), doorOpen.trans (congrArg DoorKept.doorOpen kept),
      doorLine.trans (congrArg DoorKept.doorLine kept), fun p quotes => ends p (quotes.imp_right .inl),
      fun p collecting credit settled => ends p (.inr (.inr ⟨collecting, credit, settled⟩)),
      reclaimed_lend busy (congrArg DoorKept.lend kept), fare.trans (congrArg DoorKept.fare kept),
      cash.trans (congrArg DoorKept.cash kept), ?_⟩
    rw [cards]
    exact congrArg DoorKept.deny kept
  · obtain ⟨mode, doorOpen, doorLine, rest⟩ := reclaimed_keeps busy (setDoor false (setDoorLine false s))
    exact ⟨_, doorClosed_runs on opened, mode, doorOpen, doorLine, reclaimed_lend busy rfl, rest⟩

end Sys2Proof.Proofs

namespace Sys2Proof.Machine

/-! ### A write left unresolved (R116, R123, R125) -/

section Unwritten
variable {p : Position} {e : Fin 4} {r : QuoteResult} {x : Session} {busy : Bool} {s : State}

theorem payOf_coins : payOf x = .coins ↔ x.payment ≠ some .storedValue := by
  rw [ne_eq, ← payOf_stored]
  cases payOf x <;> simp

/-- The record of a session whose write is taken as not done, or left unresolved: its customer value is owed (R114, R116). -/
def unwritten (reason : EndReason) (x : Session) : Session :=
  { x with
    endReason := some reason, owed := x.owed + customerValue x
    debited := if payOf x = .coins then x.debited else priceOf x }

/-- The change is paid, or the session ends (R114, R116). -/
theorem endUnwritten_eq (p : Position) (reason : EndReason) (s : State) : endUnwritten p reason s =
    if payOf (sess p s) = .coins ∧ (0 < (sess p s).change ∨ 0 < (sess p s).further)
    then enterPayingOut p (onSess p (unwritten reason) s) else wantEnd p (onSess p (unwritten reason) s) := by
  have owes : setEnd p reason (onSess p (fun x =>
      if payOf x = .coins then { x with owed := x.owed + x.due }
      else { x with debited := priceOf x, owed := x.owed + priceOf x }) s) = onSess p (unwritten reason) s := by
    rw [setEnd, onSess_onSess]
    refine onSess_congr ?_
    dsimp only [unwritten, customerValue]
    split <;> rfl
  unfold endUnwritten
  dsimp only
  rw [owes, sess_onSess_self]
  rfl

/-! #### The tear window (R116) -/

theorem tearWindowExpiry_runs (on : s.power = true) (torn : (sess p s).stage = .torn) (runs : (sess p s).tearWindow ≠ none) :
    exec (.tearWindowExpiry p busy) s = .next (served busy (stopWaiting p s)) :=
  expiry_runs on (decide_eq_true torn) (Option.isSome_iff_ne_none.2 runs)

/-- The record of a session that waits no more for its torn write. -/
def unresolved (x : Session) : Session :=
  unwritten .writeUnresolved { x with entry := none, pending := true, tearWindow := none, stage := .none }

/-- The session and the entry it no longer waits for, before the session ends. -/
def givenUp (p : Position) (e : Fin 4) (s : State) : State :=
  onSess p unresolved (onEntry e (fun x => { x with owner := none }) s)

theorem givenUp_sess : sess p (givenUp p e s) = unresolved (sess p s) := sess_onSess_self p _ _

theorem givenUp_currentList : currentList p (givenUp p e s) = currentList p s :=
  currentList_same rfl (by rw [givenUp_sess]; rfl) (by rw [givenUp_sess]; rfl)

/-- With no change to pay the session ends. -/
theorem stopWaiting_ends (own : (sess p s).entry = some e)
    (ends : (sess p s).payment = some .storedValue ∨ ((sess p s).change = 0 ∧ (sess p s).further = 0)) :
    stopWaiting p s = wantEnd p (givenUp p e s) := by
  rw [stopWaiting, own]
  dsimp only
  rw [endUnwritten_eq, sess_onSess_self, onSess_onSess, if_neg]
  · rfl
  · rintro ⟨coins, more⟩
    obtain stored | ⟨change, further⟩ := ends
    · exact payOf_coins.1 coins stored
    · exact more.elim (fun h => h.ne' change) fun h => h.ne' further

/-- The entry has no owner any more, and so the session's end leaves it. -/
theorem givenUp_entry : entry e (wantEnd p (givenUp p e s)) = { entry e s with owner := none } := by
  have unowned : entry e (givenUp p e s) = { entry e s with owner := none } := entry_onEntry_self e _ s
  rw [(wantEnd_controlled (.refl p _)).controls.unowned (by rw [unowned]), unowned]

section Priced
variable (result : (sess p s).result = some r)
include result

/-- What is owed for the write (R88, R116). -/
theorem unresolved_owed : (unresolved (sess p s)).owed =
    (sess p s).owed + (if (sess p s).payment = some .storedValue then r.price else (sess p s).due) := by
  show _ + (if payOf (sess p s) = .coins then (sess p s).due else priceOf (sess p s)) = _
  by_cases stored : (sess p s).payment = some .storedValue
  · rw [if_neg fun coins => payOf_coins.1 coins stored, if_pos stored, priceOf, result]
  · rw [if_pos (payOf_coins.2 stored), if_neg stored]

theorem unresolved_debited (stored : (sess p s).payment = some .storedValue) : (unresolved (sess p s)).debited = r.price := by
  show (if payOf (sess p s) = .coins then (sess p s).debited else priceOf (sess p s)) = _
  rw [if_neg fun coins => payOf_coins.1 coins stored, priceOf, result]

theorem saleRec_unresolved : (saleRec .writeUnresolved (unresolved (sess p s))).price = r.price ∧
    (saleRec .writeUnresolved (unresolved (sess p s))).pending = true := by
  have priced : (unresolved (sess p s)).result = some r := result
  simp only [saleRec, priced, true_and]
  rfl

end Priced

/-- The close of a session that gave its write up, with its SALE record (R125, R156). -/
theorem givenUp_recorded (kept : (sess p s).refunded = false) (room : s.journal.records.length < 512) :
    Recorded p (.sale (saleRec .writeUnresolved (unresolved (sess p s))))
      (saleRise false .writeUnresolved (unresolved (sess p s))) s (closeSession p (givenUp p e s)) := by
  have recorded := closeSession_sale (p := p) (s := givenUp p e s)
  rw [givenUp_sess] at recorded
  exact recorded kept room

/-- The totals rise by the record's figures, one unresolved write among them, and count no sale (R156). -/
theorem unresolved_raised (priced : x.result = some r) (charged : r.free = false) (t : Totals) :
    Raised x.changePaid x.refundPaid (x.owed + x.cardOwed) (if x.write = .done then x.loaded else 0)
      (if x.payment = some .storedValue then x.debited - x.creditedBack else 0) none false true t
      (addRise (saleRise false .writeUnresolved x) t) := by
  have rise := addRise_sale .writeUnresolved x t
  rwa [if_neg (show EndReason.writeUnresolved ≠ .sold by decide), if_congr payOf_stored rfl rfl, decide_eq_true rfl,
    isFree_false fun q h => by cases priced.symm.trans h; exact charged] at rise

end Unwritten
end Sys2Proof.Machine

namespace Sys2Proof.Proofs
open Sys2Proof Sys2Proof.Machine

/-- Settles O39: the session gives its write up, and is held for its coins or closes with its record. -/
theorem tearWindowGivesUp : Obligations.TearWindowGivesUp := by
  intro p e r busy s on torn issuing runs own result charged kept owed ends
  have expires : exec (.tearWindowExpiry p busy) s = .next (served busy (stopWaiting p s)) := tearWindowExpiry_runs on torn runs
  have left (settles : ends) : entry e (served busy (stopWaiting p s)) = { entry e s with owner := none } := by
    rw [entry, served_cards, stopWaiting_ends own settles]
    exact givenUp_entry
  refine ⟨fun settles out => ?_, fun settles settled room => ?_⟩
  · have holds : stopWaiting p s = onSess p (fun x => { x with stage := .held }) (givenUp p e s) := by
      rw [stopWaiting_ends own settles, wantEnd_holds (by rwa [givenUp_currentList])]
    have session : sess p (served busy (stopWaiting p s)) = { unresolved (sess p s) with stage := .held } := by
      rw [sess_of_sales p (served_sales busy _), holds, sess_onSess_self, givenUp_sess]
    refine ⟨_, expires, ?_⟩
    rw [session, left settles, served_journal, holds]
    exact ⟨unresolved_owed result, rfl, rfl, rfl, rfl, rfl, issuing, rfl, rfl⟩
  · have closes : stopWaiting p s = closeSession p (givenUp p e s) := by
      rw [stopWaiting_ends own settles, wantEnd_closes (by rwa [givenUp_currentList])]
    have recorded := givenUp_recorded (e := e) kept room
    rw [← closes] at recorded
    obtain ⟨rec, length, last, pos, seq, body⟩ := recorded.last
    obtain ⟨-, -, running⟩ := recorded
    obtain ⟨reason, credit, changePaid, refundPaid, owes, cardOwed⟩ := saleRec_figures .writeUnresolved (unresolved (sess p s))
    obtain ⟨debited, back, -⟩ := saleRec_priced (x := unresolved (sess p s)) .writeUnresolved result
    obtain ⟨price, pending⟩ := saleRec_unresolved result
    refine ⟨_, rec, saleRec .writeUnresolved (unresolved (sess p s)), expires, ?_, left settles, ?_, ?_, pos, seq, body, reason,
      pending, owes.trans (unresolved_owed result), price, credit, fun stored => debited.trans (unresolved_debited result stored), ?_⟩
    · rw [sess_of_sales p (served_sales busy _), closes]
      exact (closeSession_ends p _).1
    · rw [served_journal, length]
    · rw [served_journal, last]
    · rw [served_journal, running, changePaid, refundPaid, owes, cardOwed, debited, back]
      exact unresolved_raised (x := unresolved (sess p s)) result charged s.journal.running

end Sys2Proof.Proofs

namespace Sys2Proof.Machine

/-! ### A LINE taken, and a job cut (R139, R143) -/

section Printing
variable {i k : Fin 8} {j : Job} {g : Progress} {age : Nat} {text : Text} {busy : Bool} {s t : State}

theorem activeJob_of_print (h : t.print = s.print) : activeJob t = activeJob s := by
  simp only [activeJob, eightSlots, slotOf, h]

section Active
variable (active : activeJob s = some (i, j, g))
include active

theorem progress_active : progress s = some g := by simp only [progress, active]

/-- While a job is printed no other is begun (R137). -/
theorem tryBegin_active : tryBegin s = s := if_pos (.inl (by rw [active]; rfl))

/-- A LINE that the printer has taken (R139). -/
theorem lineTaken_active : lineTaken g.serial s = setSlot i (.active j { g with taken := g.taken + 1, ready := some (now s) }) s := by
  simp only [lineTaken, progress_active active, if_true, onProgress, active]

/-- The CUT_DONE of a job whose CUT has been sent ends it PRINTED (R139, R143). -/
theorem cutDone_ends (cut : g.cutSent = true) :
    cutDone s = some (printDone j .printed (countPrinted j.kind (setSlot i .free s)), ticketEnd j true) := by
  simp only [cutDone, active, cut, if_true]

theorem cutDone_uncut (uncut : g.cutSent = false) : cutDone s = none := by
  simp only [cutDone, active, uncut, Bool.false_eq_true, if_false]

end Active

/-- The job in slot `k`, if it is the one being printed. -/
def activeAt (s : State) (k : Fin 8) : Option (Fin 8 × Job × Progress) :=
  match slotOf k s with
  | .active j g => some (k, j, g)
  | _ => none

theorem activeJob_eq (s : State) : activeJob s = eights.findSome? (activeAt s) := List.findSome?_map

theorem activeAt_slot (slot : slotOf k s = .active j g) : activeAt s k = some (k, j, g) := by
  simp only [activeAt, slot]

theorem eq_of_activeAt (at_k : activeAt s k = some (i, j, g)) : k = i := by
  unfold activeAt at at_k
  split at at_k
  · cases at_k
    rfl
  · cases at_k

/-- The progress of the job in progress moves, and it stays the one in progress. -/
theorem activeJob_setSlot (active : activeJob s = some (i, j, g)) (g' : Progress) :
    activeJob (setSlot i (.active j g') s) = some (i, j, g') := by
  have inSlot := activeAt_slot (activeJob_slot active)
  rw [activeJob_eq] at active ⊢
  obtain ⟨before, k, after, all, found, none⟩ := List.findSome?_eq_some_iff.1 active
  obtain rfl := eq_of_activeAt found
  refine List.findSome?_eq_some_iff.2 ⟨before, k, after, all, activeAt_slot (slotOf_setSlot_self k _ s), fun m early => ?_⟩
  have other : m ≠ k := by
    rintro rfl
    rw [none m early] at inSlot
    cases inSlot
  rw [← none m early, activeAt, slotOf_setSlot_ne other]
  rfl

/-- A status like the last one, of a printer that reports no fault, is noted as an answer after any lend (R138, R142). -/
theorem takeStatus_again (active : activeJob s = some (i, j, g)) (last : s.print.last = some .ready) :
    takeStatus .ready s = (onPrint (fun u => { u with last := some .ready, stale := false }) s, []) := by
  have printing : activeJob (onPrint (fun u => { u with last := some .ready, stale := false }) s) = some (i, j, g) := active
  rw [takeStatus]
  dsimp only [statusFault]
  rw [if_neg (by simp [last]), tryBegin_active printing]

theorem statusAnswer_line (on : running s = true) (line : s.link.line = .window ⟨age, .line g.serial text⟩) :
    exec (.statusAnswer .ready busy) s =
      .next (served busy (handTickets (takeStatus .ready (lineTaken g.serial (heard .printer s))))) := by
  have answers : fits (.line g.serial text) .printer 140 = true := rfl
  have taken := receive_fits (busy := busy) (f := statusTaken .ready) on line answers
  rw [countAnswered_heard rfl] at taken
  exact (congrArg Host.Outcome.next taken :)

/-- A LINE of the job in progress, answered READY by a printer that was READY (R139). -/
theorem line_taken (active : activeJob s = some (i, j, g)) (on : running s = true)
    (line : s.link.line = .window ⟨age, .line g.serial text⟩) (last : s.print.last = some .ready) :
    exec (.statusAnswer .ready busy) s = .next (settle busy (masks none { heard .printer s with
      print := { s.print with
        slots := vset s.print.slots i (.active j { g with taken := g.taken + 1, ready := some s.port.moment })
        stale := false } })) := by
  have listening : activeJob (heard .printer s) = some (i, j, g) := active
  have again := takeStatus_again
    (activeJob_setSlot listening { g with taken := g.taken + 1, ready := some (now (heard .printer s)) }) last
  rw [statusAnswer_line on line, lineTaken_active listening, again, served, handTickets, List.foldl_nil, ← last]
  rfl

/-- What the end of a job PRINTED leaves (R139). -/
theorem printed_leaves (i : Fin 8) (j : Job) (s : State) :
    let u := printDone j .printed (countPrinted j.kind (setSlot i .free s))
    slotOf i u = .free ∧ vget u.print.printed (kindIndex j.kind) = vget s.print.printed (kindIndex j.kind) + 1 ∧
      (∀ k, k ≠ i → slotOf k u = slotOf k s) ∧ u.sales = s.sales ∧ u.journal = s.journal ∧ u.change = s.change := by
  obtain ⟨print, sales⟩ := printDone_blocks j .printed (countPrinted j.kind (setSlot i .free s))
  refine ⟨?_, ?_, fun k other => ?_, sales, printDone_journal _ _ _, printDone_change _ _ _⟩
  · rw [slotOf, print]
    exact slotOf_setSlot_self i _ s
  · rw [print]
    exact vget_vset_self _ _ _
  · rw [slotOf, print]
    exact slotOf_setSlot_ne other _ s

end Printing

/-! ### The cut limit (R139, R140, R141) -/

section CutLimit
variable {i k : Fin 8} {j : Job} {g : Progress} {p : Position} {busy : Bool} {s u : State}

theorem Controls.fare {t : State} (h : Controls s t) : t.fare = s.fare := (congrArg State.fare h.aside :)

theorem Controls.tubes {t : State} (h : Controls s t) : t.change.tubes = s.change.tubes :=
  (congrArg (fun u => u.change.tubes) h.aside :)

theorem tryBegin_keeps (s : State) : (tryBegin s).print.failed = s.print.failed ∧ (tryBegin s).print.void = s.print.void := by
  unfold tryBegin
  split
  · exact ⟨rfl, rfl⟩
  · split
    · exact ⟨rfl, rfl⟩
    · split <;> exact ⟨rfl, rfl⟩

theorem tryBegin_sales (s : State) : (tryBegin s).sales = s.sales := (congrArg State.sales (tryBegin_eq s) :)

theorem tryBegin_cards (s : State) : (tryBegin s).cards = s.cards := (congrArg State.cards (tryBegin_eq s) :)

/-- A job is begun in its own slot: a FREE one stays FREE. -/
theorem tryBegin_free (free : slotOf i s = .free) : slotOf i (tryBegin s) = .free := by
  unfold tryBegin
  split
  · exact free
  · split
    · exact free
    · split
      · exact free
      · rename_i k l chosen
        have other : i ≠ k := by
          rintro rfl
          have waits := chooseJob_waiting chosen
          rw [free] at waits
          cases waits
        exact (slotOf_setSlot_ne other _ s).trans free

theorem onProgress_free {f : Progress → Progress} (free : slotOf i s = .free) : slotOf i (onProgress f s) = .free := by
  unfold onProgress
  split
  · rename_i k j g active
    have other : i ≠ k := by
      rintro rfl
      rw [activeJob_slot active] at free
      cases free
    exact (slotOf_setSlot_ne other _ s).trans free
  · exact free

theorem Served.free {t : State} (h : Served s t) (free : slotOf i s = .free) : slotOf i t = .free := by
  refine h.keeps (I := fun u => slotOf i u = .free) (fun {u v} c hs => ?_) free
  cases c with
  | contention b => rwa [slotOf, raiseFault_print]
  | progress f => exact onProgress_free hs
  | finish => rwa [slotOf, finish_print]
  | link _ step => exact hs
  | periph b _ step => exact hs
  | dispense f => exact hs

theorem served_free (free : slotOf i s = .free) : slotOf i (served busy s) = .free :=
  (settle_served busy _).free (by rwa [slotOf, masks_print])

theorem noteJob_cards (j : Job) (s : State) : (noteJob j s).cards = s.cards := by
  unfold noteJob
  split
  · exact note_cards _ _ _
  · exact note_cards _ _ _
  · rfl
  · rfl

theorem printDone_cards (j : Job) (o : JobOutcome) (s : State) : (printDone j o s).cards = s.cards := by
  unfold printDone
  dsimp only
  split <;> rfl

theorem jobFailed_cards (j : Job) (s : State) : (jobFailed j s).cards = s.cards :=
  (printDone_cards _ _ _).trans (noteJob_cards _ _)

/-- JAM is raised and the job in progress has failed, before its end reaches a session (R139, R140). -/
def limitFailed (i : Fin 8) (j : Job) (g : Progress) (s : State) : State :=
  jobFailed j (activeDropped i j g (raiseFault .printer .jam s))

/-- What the failure of a job at its cut limit leaves: JAM, the count, the void stub due, and the slot FREE. -/
structure FailedAtLimit (i : Fin 8) (j : Job) (g : Progress) (s u : State) : Prop where
  jam : (periph .printer u).flags.jam = true
  count : vget u.print.failed (kindIndex j.kind) = vget s.print.failed (kindIndex j.kind) + 1
  void : 0 < g.taken → u.print.void ≠ none
  tubes : u.change.tubes = s.change.tubes
  fare : u.fare = s.fare
  free : slotOf i u = .free

theorem activeDropped_controlled (i : Fin 8) (j : Job) (g : Progress) (s : State) : Controlled .A s (activeDropped i j g s) := by
  have freed : Controlled .A s (setSlot i .free s) := setSlot_controlled (.refl _ _) fun _ => not_busy_free
  unfold activeDropped
  split
  · exact onPrint_controlled freed fun _ => ⟨rfl, rfl, rfl⟩
  · exact freed

theorem limitFailed_controlled (i : Fin 8) (j : Job) (g : Progress) (s : State) :
    Controlled .A (raiseFault .printer .jam s) (limitFailed i j g s) :=
  jobFailed_controlled (activeDropped_controlled i j g _)

theorem limitFailed_failed (i : Fin 8) (j : Job) (g : Progress) (s : State) : FailedAtLimit i j g s (limitFailed i j g s) := by
  have controlled := limitFailed_controlled i j g s
  obtain ⟨⟨n, printed⟩, -⟩ := jobFailed_blocks j (activeDropped i j g (raiseFault .printer .jam s))
  obtain ⟨counted, -, void⟩ := activeDropped_blocks i j g (raiseFault .printer .jam s)
  have print : (limitFailed i j g s).print = _ := printed
  refine ⟨?_, ?_, ?_, ?_, ?_, ?_⟩
  · rw [controlled.controls.periph, raiseFault_periph, if_pos rfl]
    rfl
  · rw [print, counted, raiseFault_print]
    exact vget_vset_self _ _ _
  · rw [print]
    exact void
  · rw [controlled.tubes, raiseFault_change]
  · rw [controlled.controls.fare, raiseFault_fare]
  · rw [limitFailed, jobFailed_slot, activeDropped_slot, if_pos rfl]

theorem limitFailed_blocks (i : Fin 8) (j : Job) (g : Progress) (s : State) : (limitFailed i j g s).sales = s.sales ∧
    (limitFailed i j g s).cards = s.cards ∧ (limitFailed i j g s).coins = s.coins := by
  obtain ⟨-, sales⟩ := jobFailed_blocks j (activeDropped i j g (raiseFault .printer .jam s))
  obtain ⟨-, dropped, -⟩ := activeDropped_blocks i j g (raiseFault .printer .jam s)
  refine ⟨(sales.trans dropped).trans (raiseFault_sales _ _ s), ?_, ?_⟩
  · rw [limitFailed, jobFailed_cards, activeDropped]
    split <;> exact raiseFault_cards _ _ s
  · rw [(limitFailed_controlled i j g s).coins, raiseFault_coins]

/-- What the sessions do afterwards with the print unit left as it is changes nothing of it. -/
theorem FailedAtLimit.handed {v : State} (h : FailedAtLimit i j g s u) (controls : Controls u v) (print : v.print = u.print) :
    FailedAtLimit i j g s v := by
  obtain ⟨jam, count, void, tubes, fare, free⟩ := h
  refine ⟨?_, by rwa [print], by rwa [print], ?_, ?_, by rwa [slotOf, print]⟩
  · rwa [controls.periph]
  · rwa [controls.tubes]
  · rwa [controls.fare]

/-- Nor does the beginning of the next job, nor the serving that ends the step. -/
theorem FailedAtLimit.begun (h : FailedAtLimit i j g s u) : FailedAtLimit i j g s (tryBegin u) := by
  obtain ⟨jam, count, void, tubes, fare, free⟩ := h
  obtain ⟨failed, due⟩ := tryBegin_keeps u
  refine ⟨?_, by rwa [failed], by rwa [due], ?_, ?_, tryBegin_free free⟩
  · rw [tryBegin_eq]
    exact jam
  · rw [tryBegin_eq]
    exact tubes
  · rw [tryBegin_eq]
    exact fare

theorem FailedAtLimit.served (h : FailedAtLimit i j g s u) (busy : Bool) : FailedAtLimit i j g s (served busy u) := by
  obtain ⟨jam, count, void, tubes, fare, free⟩ := h
  refine ⟨(served_periph busy u .printer).flag (f := Flags.jam) jam fun _ => .inr rfl, ?_, ?_, ?_, ?_, served_free free⟩
  · rwa [served_failed]
  · rwa [served_void]
  · rwa [served_tubes]
  · rwa [served_fare]

theorem cutLimitExpiry_does (busy : Bool) (s : State) : exec (.cutLimitExpiry busy) s =
    expiry (cutLimitRuns s) (fun u => tryBegin (handTickets (cutLimitOut u))) busy s := by
  rfl

theorem cutLimitExpiry_idle (active : activeJob s = some (i, j, g)) (stopped : g.limit = false) :
    exec (.cutLimitExpiry busy) s = .next s := by
  have still : cutLimitRuns s = false := by rw [cutLimitRuns, progress_active active]; exact stopped
  rw [cutLimitExpiry_does, expiry, still, Bool.and_false, if_neg Bool.false_ne_true]

theorem cutLimitExpiry_fails (on : s.power = true) (active : activeJob s = some (i, j, g)) (runs : g.limit = true) :
    exec (.cutLimitExpiry busy) s =
      .next (served busy (tryBegin ((ticketEnd j false).foldl ticketEnded (limitFailed i j g s)))) := by
  have again : activeJob (raiseFault .printer .jam s) = some (i, j, g) := by
    rw [activeJob_of_print (raiseFault_print _ _ s), active]
  have fails : cutLimitOut s = (limitFailed i j g s, ticketEnd j false) := by
    rw [cutLimitOut, again, failActive_some again, limitFailed]
  have running : cutLimitRuns s = true := by rw [cutLimitRuns, progress_active active]; exact runs
  rw [cutLimitExpiry_does, expiry_occurs on running, fails, handTickets, Machine.served]

/-- A failed job that no session waits for ends alone. -/
theorem cutLimitExpiry_alone (on : s.power = true) (active : activeJob s = some (i, j, g)) (runs : g.limit = true)
    (alone : (ticketEnd j false).foldl ticketEnded (limitFailed i j g s) = limitFailed i j g s) :
    ∃ t, exec (.cutLimitExpiry busy) s = .next t ∧ FailedAtLimit i j g s t ∧ t.sales = s.sales ∧ t.cards = s.cards := by
  obtain ⟨sales, cards, -⟩ := limitFailed_blocks i j g s
  refine ⟨_, cutLimitExpiry_fails on active runs, ?_⟩
  rw [alone]
  refine ⟨(limitFailed_failed i j g s).begun.served busy, ?_, ?_⟩
  · rw [served_sales, tryBegin_sales, sales]
  · rw [served_cards, tryBegin_cards, cards]

theorem ticketEnd_other (kind : j.kind ≠ .ticket) (ok : Bool) : ticketEnd j ok = [] := by
  unfold ticketEnd
  split
  · exact absurd ‹_› kind
  · rfl

theorem ticketEnd_ticket (kind : j.kind = .ticket) (pos : j.pos = some p) (ok : Bool) : ticketEnd j ok = [(p, ok)] := by
  simp only [ticketEnd, kind, pos]

/-! #### A ticket's session, refunded (R118) -/

/-- What the record of a session says as its refund is wanted (R121). -/
def refundNoted (r : EndReason) (x : Session) : Session :=
  { x with endReason := some r, refunded := true, stage := .refundWait, inactivity := none, tearWindow := none }

/-- While a coin is outstanding the refund waits, and only the session, its reservations and the notices change (R121). -/
theorem enterRefund_waits {r : EndReason} (out : currentList p s ≠ []) : (enterRefund p r s).print = s.print ∧
    sess p (enterRefund p r s) = { refundNoted r (sess p s) with state := .refunding } := by
  obtain ⟨f, cover⟩ : ∃ f : Reserve → Reserve, (if (sess p s).state = .collecting then dropToCover p s else s) = onResv p f s := by
    split
    · exact ⟨_, rfl⟩
    · exact ⟨id, by cases p <;> rfl⟩
  have wanted : enterRefund p r s =
      listMoved p (enter p .refunding (.ended r) (onSess p (refundNoted r) (onResv p f s))) := by
    rw [← cover]
    rfl
  have session : sess p (enter p .refunding (.ended r) (onSess p (refundNoted r) (onResv p f s))) =
      { refundNoted r (sess p s) with state := .refunding } := by
    cases p <;> rfl
  have same : currentList p (enter p .refunding (.ended r) (onSess p (refundNoted r) (onResv p f s))) = currentList p s := by
    refine currentList_same rfl ?_ ?_
    · rw [session]
      rfl
    · rw [session, eq_false (busy_of_currentList out)]
      exact eq_false nofun
  rw [wanted, listMoved_waits (by rwa [same])]
  exact ⟨rfl, session⟩

/-- What the record of a session says of the ticket that failed (R118). -/
def ticketLost (x : Session) : Session := { x with ticket := .failed, stage := .none, slot := none }

/-- The record of a session whose ticket failed, as it waits for its coins before its refund. -/
def ticketRefunds (x : Session) : Session := { refundNoted .ticketFailed (ticketLost x) with state := .refunding }

/-- A session paid in coins whose ticket failed, with a coin still to come, waits to refund it (R118). -/
theorem ticketFailed_refunds (coins : (sess p s).payment = some .coins) (charged : isFree (sess p s) = false)
    (out : currentList p s ≠ []) :
    (ticketFailed p s).print = s.print ∧ sess p (ticketFailed p s) = ticketRefunds (sess p s) := by
  have session := sess_onSess_self p ticketLost s
  have charges : ¬ isFree (sess p (onSess p ticketLost s)) = true := by
    rw [session, show isFree (ticketLost (sess p s)) = false from charged]
    exact Bool.false_ne_true
  have inCoins : payOf (sess p (onSess p ticketLost s)) = .coins := by
    rw [session]
    exact congrArg (·.getD Payment.coins) coins
  have refunds : ticketFailed p s = enterRefund p .ticketFailed (onSess p ticketLost s) :=
    (if_neg charges).trans (if_pos inCoins)
  have same : currentList p (onSess p ticketLost s) = currentList p s :=
    currentList_same rfl (by rw [session]; rfl) (by rw [session]; rfl)
  obtain ⟨print, refunded⟩ := enterRefund_waits (r := .ticketFailed) (by rwa [same])
  rw [refunds, print, refunded, session]
  exact ⟨rfl, rfl⟩

end CutLimit
end Sys2Proof.Machine

namespace Sys2Proof.Proofs
open Sys2Proof Sys2Proof.Machine

/-- Settles O52: a LINE and a CUT of the job in progress, then the cut limit, by who waits for the job that fails. -/
theorem printerAnswersAndCutLimit : Obligations.PrinterAnswersAndCutLimit := by
  intro i j g age text busy s active failed
  have fails {t : State} (h : FailedAtLimit i j g s t) : failed t := ⟨h.jam, h.count, h.void, h.tubes, h.fare⟩
  refine ⟨line_taken active, fun cut => ⟨_, cutDone_ends active cut, printed_leaves i j s⟩, cutDone_uncut active,
    fun _ => cutLimitExpiry_idle active, fun on runs other => ?_,
    fun p on runs kind pos => ⟨fun elsewhere => ?_, fun stage coins charged out => ?_⟩⟩
  · obtain ⟨t, runs, left, sales, cards⟩ := cutLimitExpiry_alone (busy := busy) on active runs (by rw [ticketEnd_other other]; rfl)
    exact ⟨t, runs, fails left, left.free, sales, cards⟩
  · obtain ⟨sales, -⟩ := limitFailed_blocks i j g s
    have alone : (ticketEnd j false).foldl ticketEnded (limitFailed i j g s) = limitFailed i j g s := by
      rw [ticketEnd_ticket kind pos]
      exact if_pos (by rwa [sess_of_sales p sales])
    obtain ⟨t, runs, left, sales, cards⟩ := cutLimitExpiry_alone (busy := busy) on active runs alone
    exact ⟨t, runs, fails left, left.free, sales, cards⟩
  · obtain ⟨sales, -, coinsKept⟩ := limitFailed_blocks i j g s
    have session : sess p (limitFailed i j g s) = sess p s := sess_of_sales p sales
    have hands : (ticketEnd j false).foldl ticketEnded (limitFailed i j g s) = ticketFailed p (limitFailed i j g s) := by
      rw [ticketEnd_ticket kind pos]
      exact if_neg (not_not.2 (by rw [session, stage]))
    obtain ⟨print, refunds⟩ := ticketFailed_refunds (s := limitFailed i j g s) (by rwa [session]) (by rwa [session])
      (by rwa [currentList_of_same coinsKept sales])
    have left := ((limitFailed_failed i j g s).handed (ticketFailed_controlled (.refl p _)).controls print).begun.served busy
    refine ⟨_, cutLimitExpiry_fails on active runs, ?_⟩
    rw [hands]
    refine ⟨fails left, left.free, ?_⟩
    rw [sess_of_sales p ((served_sales busy _).trans (tryBegin_sales _)), refunds, session]
    rfl

end Sys2Proof.Proofs

namespace Sys2Proof.Machine

/-! ### The journal's numbers (R146, R147, R153) -/

/-- The numbers of a list of at most 512 records run consecutively up to the next number less 1 (R146). -/
def Consecutive (numbers : List (BitVec 32)) (next : BitVec 32) : Prop :=
  numbers.length ≤ Config.journalCapacity ∧
  ∀ i, ∀ h : i < numbers.length, numbers[i]'h = next - BitVec.ofNat 32 (numbers.length - i)

theorem journalOk_iff {j : Journal} : JournalOk j ↔ Consecutive (j.records.map (·.seq)) j.next := by
  simp only [JournalOk, Consecutive, List.length_map, List.getElem_map]

theorem Consecutive.nil (next : BitVec 32) : Consecutive [] next := ⟨Nat.zero_le _, fun _ h => absurd h (Nat.not_lt_zero _)⟩

/-- A record that takes the next number moves every older one a place further from the new next number. -/
theorem Consecutive.append {numbers : List (BitVec 32)} {next : BitVec 32} (h : Consecutive numbers next)
    (room : numbers.length < Config.journalCapacity) : Consecutive (numbers ++ [next]) (next + 1) := by
  obtain ⟨-, number⟩ := h
  refine ⟨by rw [List.length_append]; exact room, fun i hi => ?_⟩
  rw [List.length_append, List.length_singleton] at hi ⊢
  obtain older | rfl : i < numbers.length ∨ i = numbers.length := by omega
  · rw [List.getElem_append_left older, number i older, Nat.sub_add_comm older.le, BitVec.ofNat_add]
    bv_omega
  · simp

/-- The records that stay keep their places from the newest. -/
theorem Consecutive.drop {numbers : List (BitVec 32)} {next : BitVec 32} (h : Consecutive numbers next) (n : Nat) :
    Consecutive (numbers.drop n) next := by
  obtain ⟨bounded, number⟩ := h
  refine ⟨((List.drop_sublist n _).length_le).trans bounded, fun i hi => ?_⟩
  rw [List.length_drop] at hi
  rw [List.getElem_drop, number (n + i) (by omega), List.length_drop, Nat.sub_sub]

/-- Records are numbered from the wiped, the appended and the confirmed ones alone. -/
theorem Move.keeps_journalOk {s t : State} (m : Move s t) (h : JournalOk s.journal) : JournalOk t.journal := by
  cases m with
  | unwatched same =>
    have numbers : t.journal.records.map (·.seq) = s.journal.records.map (·.seq) := congrArg Watched.numbers same
    have next : t.journal.next = s.journal.next := congrArg Watched.next same
    rwa [journalOk_iff, numbers, next, ← journalOk_iff]
  | wipe => exact journalOk_iff.2 (.nil 0)
  | record pos body _ room =>
    rw [journalOk_iff] at h ⊢
    rw [onJournal_journal, List.map_append]
    exact h.append (by rwa [List.length_map])
  | confirm n =>
    rw [journalOk_iff] at h ⊢
    rw [onJournal_journal, List.map_drop]
    exact h.drop n
  | answer | notice | serve | take | keep | mode | door | doorLine | powerLoss | clear | tick | setTime | timing | linkTiming
  | deny | entries | write | list | passes => exact h

end Sys2Proof.Machine

namespace Sys2Proof.Proofs
open Sys2Proof Sys2Proof.Machine

/-- Settles O57: every step is a sequence of moves; a record that joins takes the next number, and records leave at the oldest
end. -/
theorem journalStaysConsecutive : Obligations.JournalStaysConsecutive :=
  fun _ _ ok h => step_keeps (I := fun s => JournalOk s.journal) Move.keeps_journalOk h ok

end Sys2Proof.Proofs

namespace Sys2Proof.Machine

/-! ### The end of a start (R159, R166, R167, R171, R174, R192) -/

/-- The device link, the sale link port and what the arbiter chooses from are as a start leaves them before the transmit line and
the idle device line are served. -/
structure Started (s : State) : Prop where
  link : s.link = Link.start
  port : s.port = Port.start s.doorLine
  print : s.print = PrintUnit.start
  reads : s.cards.reads = Pair.both .none
  dispense : s.change.dispense = none

theorem started_clearUnretained (s : State) : Started (clearUnretained s) := ⟨rfl, rfl, rfl, rfl, rfl⟩

section Started
variable {busy : Bool} {s : State}

theorem standIn_noRead {p : Position} (h : readOf p s = .none) : standIn p s = s := by
  have quiet : readRetry p s = none := by rw [readRetry, h]
  unfold standIn
  rw [quiet]
  split
  · rename_i none; cases none
  · rfl

theorem Started.standIns (h : Started s) : standIn .B (standIn .A s) = s := by
  have none (p : Position) : readOf p s = .none := by rw [readOf, h.reads, Pair.get_both]
  rw [standIn_noRead (none .A), standIn_noRead (none .B)]

/-- No peripheral is ONLINE after a start. -/
theorem Started.eventDue (h : Started s) : eventDue s = false := by
  simp only [Machine.eventDue, online, periph, h.link]
  rfl

theorem Started.periph (h : Started s) (a : Addr) : periph a s = Peripheral.start := by
  rw [Machine.periph, h.link]
  exact vget_vfill 6 _ _

theorem Started.progress (h : Started s) : progress s = none := by
  have free : eightSlots s = eights.map (fun i => (i, Slot.free)) :=
    List.map_congr_left fun i _ => by rw [slotOf, h.print]; exact congrArg (Prod.mk i) (vget_vfill 8 _ i)
  rw [Machine.progress, activeJob, free, h.print]
  rfl

/-- No WRITE is outstanding and nothing is lent after a start. -/
theorem Started.mayGo (h : Started s) (level : Nat) (f : LinkFrame) : mayGo level f s = true := by
  have held (p : Position) : writeHeld p s = false := by rw [writeHeld, h.link]; cases p <;> rfl
  have free (a : Addr) : writeOutAt a s = false := by
    unfold writeOutAt
    split
    · exact held _
    · rfl
  simp only [Machine.mayGo, free, lent, h.link]
  rfl

/-- After a start the six ANNOUNCEs are due, of one age (R167, R171). -/
theorem Started.level5 (h : Started s) : level5 s = allAddrs.map (fun a => ⟨0, .announce a⟩) := by
  have frame (a : Addr) : pollFrame a s = .announce a := by simp only [pollFrame, online, h.periph]; rfl
  rw [Machine.level5, ← List.filterMap_eq_map]
  exact List.filterMap_congr fun a _ => by rw [h.periph, frame]; rfl

/-- Of what is ready after a start, the ANNOUNCE of address 1 goes first (R174). -/
theorem Started.choose (h : Started s) : choose s = some ⟨0, .announce .valA⟩ := by
  have first : level1 s = [] := by rw [level1, h.link]; rfl
  have second : level2 s = [] := by rw [level2, h.dispense]
  have third : level3 s = [] := by rw [level3, h.link]; rfl
  have fourth : level4 s = [] := by rw [level4, h.progress]
  have polls : oldestReady 5 s (Machine.level5 s) = some ⟨0, .announce .valA⟩ := by
    simp only [h.level5, allAddrs, List.map, oldestReady, h.mayGo]
    rfl
  simp only [Machine.choose, first, second, third, fourth, polls, oldestReady]

/-- The ANNOUNCE finds the line free. -/
theorem Started.sends (h : Started s) :
    onLink (fun l => { l with line := .sending ⟨0, .announce .valA⟩ }) (unready ⟨0, .announce .valA⟩ s) =
      { s with link := startedLink false } := by
  simp only [unready, onPeriph, onLink, h.link]
  rfl

/-- The ANNOUNCE finds a frame begun on the line (R166). -/
theorem Started.defers (h : Started s) : defer ⟨0, .announce .valA⟩ s =
    { s with link := startedLink true, port := (notify 1 (.deviceFault .valA .contention) s).port } := by
  have quiet : anyWriteOut s = false := by rw [anyWriteOut, writeHeld, writeHeld, h.link]; rfl
  have clear : flagGet (Machine.periph .valA (onCounters .valA (fun c => { c with deferrals := bump16 c.deferrals }) s)).flags
      .contention = false := by
    rw [onCounters, periph_onPeriph_self, h.periph]
    rfl
  rw [defer, quiet, raiseFault, frameAddr, clear]
  simp only [onCounters, onPeriph, onLink, notify, onPort, h.link]
  rfl

/-- A start ends with the first ANNOUNCE on the line, or with a frame found there, and with the notice of that on the transmit
line (R166, R167, R192). -/
theorem Started.settle (h : Started s) :
    settle busy s = { s with link := startedLink busy, port := startedPort busy s.doorLine } := by
  have line : s.link.line = .idle := by rw [h.link]; rfl
  rw [Machine.settle, arbitrate, h.standIns, handOut, line, h.eventDue, h.choose]
  cases busy with
  | false =>
    refine (congrArg finish h.sends).trans ?_
    rw [finish_eq, finish_port, h.port]
    rfl
  | true =>
    refine (congrArg finish h.defers).trans ?_
    rw [finish_eq, finish_port, notify, onPort, h.port]
    rfl

end Started

/-! ### The cold start (R162) -/

/-- The retained store as a cold start leaves it (R162). -/
def wiped (cause : StartCause) (s : State) : State :=
  { s with fare := Fare.cold, cash := Cash.cold, change := ChangeStore.cold, cards := Cards.cold, journal := Journal.cold cause }

theorem coldStart_eq (cause : StartCause) (busy : Bool) (s : State) : coldStart cause busy s =
    { clearUnretained (wiped cause s) with link := startedLink busy, port := startedPort busy s.doorLine } :=
  (started_clearUnretained (wiped cause s)).settle

/-! ### The warm restart (R161) -/

section Warm
variable {p : Position} {s : State}

/-- A record handed to the journal changes no other block but those of its notices and of JOURNAL_OVERRUN (R149, R151). -/
theorem append_blocks (pos : Option Position) (b : RecordBody) (s : State) :
    ∃ link port, append pos b s = { s with journal := (append pos b s).journal, link := link, port := port } := by
  unfold append raiseOverrun
  dsimp only
  split
  · split <;> exact ⟨_, _, rfl⟩
  · split <;> exact ⟨_, _, rfl⟩

/-- What a journal keeps of its shifts and of the marker (R157, R160). -/
def Journal.shifts (j : Journal) : Totals × BitVec 16 × Bool := (j.latched, j.latchCount, j.marker)

theorem append_shifts (pos : Option Position) (b : RecordBody) (s : State) :
    (append pos b s).journal.shifts = s.journal.shifts := by
  by_cases room : s.journal.records.length < Config.journalCapacity
  · rw [append_journal_room room]; rfl
  · rw [append_journal_full room]; rfl

theorem interrupt_blocks (p : Position) (s : State) :
    ∃ link port, interrupt p s = { s with journal := (interrupt p s).journal, link := link, port := port } := by
  unfold interrupt
  split
  · exact append_blocks (some p) _ (addTotals _ s)
  · exact ⟨_, _, rfl⟩

theorem interrupt_shifts (p : Position) (s : State) : (interrupt p s).journal.shifts = s.journal.shifts := by
  unfold interrupt
  split
  · exact append_shifts (some p) _ (addTotals _ s)
  · rfl

/-- The state after the INTERRUPTED records of both positions (R130, R161 step 1). -/
def interrupted (s : State) : State := interrupt .B (interrupt .A s)

theorem interrupted_blocks (s : State) :
    ∃ link port, interrupted s = { s with journal := (interrupted s).journal, link := link, port := port } := by
  obtain ⟨_, _, first⟩ := interrupt_blocks .A s
  obtain ⟨link, port, second⟩ := interrupt_blocks .B (interrupt .A s)
  exact ⟨link, port, second.trans
    (congrArg (fun u : State => { u with journal := (interrupted s).journal, link := link, port := port }) first)⟩

theorem interrupted_shifts (s : State) : (interrupted s).journal.shifts = s.journal.shifts :=
  (interrupt_shifts .B _).trans (interrupt_shifts .A s)

/-- A slot holds a WAITING or ACTIVE job of the kind against the record with the number. -/
def slotHas (k : JobKind) (q : BitVec 32) (x : Slot) : Bool :=
  match x with
  | .waiting j => decide (j.kind = k ∧ j.seq = some q)
  | .active j _ => decide (j.kind = k ∧ j.seq = some q)
  | .free => false
  | .reserved _ => false

theorem jobFor_eq (k : JobKind) (q : BitVec 32) (s : State) : jobFor k q s = s.print.slots.toList.any (slotHas k q) := rfl

/-- The record with the print notes of the jobs that the slots hold against it (R134, R161 step 2). -/
def notedBy (xs : List Slot) (r : Record) : Record :=
  { r with receiptNote := r.receiptNote || xs.any (slotHas .receipt r.seq)
           slipNote := r.slipNote || xs.any (slotHas .owedSlip r.seq) }

theorem notedBy_nil (r : Record) : notedBy [] r = r := by simp [notedBy]

theorem notedBy_cons (x : Slot) (xs : List Slot) (r : Record) : notedBy (x :: xs) r = notedBy xs (notedBy [x] r) := by
  simp [notedBy, Bool.or_assoc]

/-- The records are changed one by one, and the print unit somehow. -/
def Noted (f : Record → Record) (s t : State) : Prop :=
  ∃ print, t = { s with journal := { s.journal with records := s.journal.records.map f }, print := print }

theorem Noted.refl {f : Record → Record} (h : ∀ r ∈ s.journal.records, f r = r) : Noted f s s :=
  ⟨s.print, by rw [List.map_congr_left h, List.map_id']⟩

theorem Noted.trans {f g : Record → Record} {t u : State} (h : Noted f s t) (k : Noted g t u) : Noted (g ∘ f) s u := by
  obtain ⟨_, rfl⟩ := h
  obtain ⟨print, rfl⟩ := k
  exact ⟨print, by rw [← List.map_map]⟩

/-- A note reaches the record with its number, where there is one (R143). -/
theorem note_noted {slip : Bool} {q : Option (BitVec 32)} {f : Record → Record} (hit : ∀ r, q = some r.seq →
      f r = if slip then { r with slipNote := true } else { r with receiptNote := true })
    (miss : ∀ r, q ≠ some r.seq → f r = r) : Noted f s (note slip q s) := by
  have lost {u : PrintUnit} (none : ∀ r ∈ s.journal.records, q ≠ some r.seq) : Noted f s { s with print := u } :=
    ⟨u, by rw [List.map_congr_left fun r hr => miss r (none r hr), List.map_id']⟩
  unfold note
  split
  · exact lost fun _ _ => nofun
  · rename_i q
    split
    · refine ⟨s.print, ?_⟩
      have mark (r : Record) : f r =
          if r.seq = q then (if slip then { r with slipNote := true } else { r with receiptNote := true }) else r := by
        by_cases own : r.seq = q
        · rw [if_pos own, hit r (congrArg some own.symm)]
        · rw [if_neg own, miss r fun e => own (Option.some.inj e).symm]
      rw [funext mark]
      rfl
    · rename_i absent
      refine lost fun r hr e => absent (List.any_eq_true.2 ⟨r, hr, ?_⟩)
      exact decide_eq_true (Option.some.inj e).symm

theorem noteJob_noted (j : Job) : Noted (notedBy [.waiting j]) s (noteJob j s) := by
  have has (k : JobKind) (r : Record) : [Slot.waiting j].any (slotHas k r.seq) = decide (j.kind = k ∧ j.seq = some r.seq) := by
    simp [slotHas]
  unfold noteJob
  split
  · rename_i kind
    exact note_noted (fun r own => by simp [notedBy, has, kind, own]) fun r other => by simp [notedBy, has, kind, other]
  · rename_i kind
    exact note_noted (fun r own => by simp [notedBy, has, kind, own]) fun r other => by simp [notedBy, has, kind, other]
  · rename_i kind
    exact .refl fun r _ => by simp [notedBy, has, kind]
  · rename_i kind
    exact .refl fun r _ => by simp [notedBy, has, kind]

theorem noteSlot_noted (x : Slot) : Noted (notedBy [x]) s (noteSlot s x) := by
  unfold noteSlot
  split
  · exact noteJob_noted _
  · exact noteJob_noted _
  · exact .refl fun r _ => by simp [notedBy, slotHas]
  · exact .refl fun r _ => by simp [notedBy, slotHas]

theorem foldl_noteSlot_noted (xs : List Slot) : ∀ s, Noted (notedBy xs) s (xs.foldl noteSlot s) := by
  induction xs with
  | nil => exact fun _ => .refl fun r _ => notedBy_nil r
  | cons x xs ih =>
    intro s
    rw [show notedBy (x :: xs) = notedBy xs ∘ notedBy [x] from funext (notedBy_cons x xs)]
    exact (noteSlot_noted x).trans (ih _)

/-- The retained state after the INTERRUPTED records, the print notes where main power was present, and the new states of the
pending-write entries (R161 steps 1 to 3). -/
def retained (powered : Bool) (s : State) : State :=
  onCards (fun c => { c with entries := vmap restartEntry c.entries })
    (if powered then noteQueue (interrupted s) else interrupted s)

/-- The notes made at a warm restart. -/
def restartNotes (powered : Bool) (s : State) : Record → Record :=
  if powered then notedBy s.print.slots.toList else id

theorem retained_blocks (powered : Bool) (s : State) : ∃ print link port, retained powered s =
    { s with cards := { s.cards with entries := vmap restartEntry s.cards.entries }
             journal := { (interrupted s).journal with
               records := (interrupted s).journal.records.map (restartNotes powered s) }
             print := print, link := link, port := port } := by
  obtain ⟨link, port, first⟩ := interrupted_blocks s
  have same : (interrupted s).print = s.print := by rw [first]
  have noted : Noted (restartNotes powered s) (interrupted s)
      (if powered then noteQueue (interrupted s) else interrupted s) := by
    cases powered with
    | false => exact .refl fun _ _ => rfl
    | true =>
      rw [restartNotes, ← same]
      exact foldl_noteSlot_noted _ _
  obtain ⟨print, second⟩ := noted
  refine ⟨print, link, port, ?_⟩
  rw [retained, second]
  exact congrArg (fun u : State => { u with
    cards := { u.cards with entries := vmap restartEntry u.cards.entries }
    journal := { (interrupted s).journal with records := (interrupted s).journal.records.map (restartNotes powered s) }
    print := print }) first

theorem warmStart_eq (cause : StartCause) (powered busy : Bool) (s : State) : warmStart cause powered busy s =
    { clearUnretained (retained powered s) with
      journal := { (retained powered s).journal with lastStart := ⟨false, cause⟩ }
      link := startedLink busy
      port := startedPort busy (retained powered s).doorLine } := by
  have started : Started
      (onJournal (fun j => { j with lastStart := ⟨false, cause⟩ }) (clearUnretained (retained powered s))) :=
    ⟨rfl, rfl, rfl, rfl, rfl⟩
  exact started.settle

end Warm
end Sys2Proof.Machine

namespace Sys2Proof.Proofs
open Sys2Proof Sys2Proof.Machine

/-- Settles O8: the retained store is wiped, the rest is as after every start, and the start ends with the first ANNOUNCE. -/
theorem coldStartLeaves : Obligations.ColdStartLeaves := by
  intro cause busy s
  rw [coldStart_eq]
  refine ⟨rfl, rfl, rfl, rfl, rfl, rfl, rfl, rfl, fun i => ?_, rfl, rfl, vget_vfill 8 _, fun e => ?_, rfl, rfl, rfl, rfl,
    rfl, rfl, fun c => ?_, rfl, fun p => ?_, rfl, rfl, rfl, rfl, rfl⟩
  · have cold : tube i (clearUnretained (wiped cause s)) = Tube.cold := vget_vfill 6 _ i
    exact ⟨congrArg Tube.state cold, congrArg Tube.count cold, congrArg Tube.ctype cold, congrArg Tube.capacity cold,
      congrArg Tube.routedIn cold, congrArg Tube.paidOut cold, congrArg Tube.added cold, congrArg Tube.removed cold,
      congrArg Tube.writtenOff cold, congrArg Tube.estimate cold⟩
  · exact congrArg PendingEntry.state (vget_vfill 4 _ e)
  · exact congrArg CoinType.value (vget_vfill 8 _ c)
  · cases p <;> exact ⟨rfl, rfl, rfl, rfl⟩

/-- Settles O10: the INTERRUPTED records, the print notes and the entries' new states, then the rest as after every start. -/
theorem warmRestartKeepsAndClears : Obligations.WarmRestartKeepsAndClears := by
  intro cause powered busy s
  obtain ⟨print, link, port, kept⟩ := retained_blocks powered s
  obtain ⟨latched, count, marker⟩ : (interrupted s).journal.latched = s.journal.latched ∧
      (interrupted s).journal.latchCount = s.journal.latchCount ∧ (interrupted s).journal.marker = s.journal.marker := by
    simpa [Journal.shifts] using interrupted_shifts s
  rw [warmStart_eq, kept]
  refine ⟨rfl, rfl, rfl, rfl, rfl, rfl, rfl, fun p => ?_, rfl, rfl, rfl, rfl, rfl, ⟨rfl, rfl, rfl, ?_, ?_⟩, rfl, latched,
    count, marker, rfl⟩
  · cases p <;> exact ⟨rfl, rfl, rfl⟩
  · rintro rfl
    exact List.map_id _
  · rintro rfl
    simp only [jobFor_eq]
    rfl

/-- Settles O7: the two lines, and the start that the backup-lost line and the marker choose. -/
theorem resetLineAndMainPower : Obligations.ResetLineAndMainPower := by
  intro busy s
  have powersUp (lost holds : Bool) (off : s.power = false) :
      exec (.powerUp lost holds busy) s = .next (powerUpStart lost holds busy s) := by
    refine congrArg Host.Outcome.next (if_neg ?_)
    rw [off]; nofun
  refine ⟨rfl, rfl, fun on held => congrArg Host.Outcome.next (if_pos ⟨on, held⟩),
    fun off holds => ⟨?_, fun marker => ?_, fun marker => ?_, ?_⟩⟩
  · exact powersUp true holds off
  · rw [powersUp _ _ off, powerUpStart, marker]; rfl
  · rw [powersUp _ _ off, powerUpStart, marker]; rfl
  · rw [powersUp _ _ off, powerUpStart, Bool.and_false]; rfl

/-- Settles O9: a cold start from the reset state gives it back, and each invariant holds of what a start leaves. -/
theorem resetIsFirstPowerUp : Obligations.ResetIsFirstPowerUp := by
  refine ⟨?_, journalOk_iff.2 (.nil 0), ⟨List.Pairwise.nil, Nat.zero_le _⟩, entriesOk_cold, ?_, settingsOk_start, ?_, ?_,
    laneOk_start, laneOk_start, Nat.zero_le _⟩
  · exact congrArg Host.Outcome.next (coldStart_eq .markerLost false { State.reset with power := false })
  · exact ⟨Nat.zero_le _, Nat.zero_le _, Nat.zero_le _⟩
  · exact ⟨Nat.zero_le _, Nat.zero_le _, Nat.zero_le _, fun waits => absurd rfl waits⟩
  · exact ⟨iff_of_false nofun nofun, fun _ => rfl⟩

end Sys2Proof.Proofs

namespace Sys2Proof.Machine

/-! ### The journal's requests and records (R147, R149, R151–R153, R157) -/

section JournalRequests
variable {tag : Byte} {s : State}

theorem bothIdle_iff : bothIdle s = true ↔ ∀ p, (sess p s).state = .idle := by
  simp only [bothIdle, Bool.and_eq_true, decide_eq_true_eq]
  exact ⟨fun ⟨a, b⟩ p => by cases p <;> assumption, fun h => ⟨h .A, h .B⟩⟩

theorem bothIdle_false : bothIdle s = false ↔ ∃ p, (sess p s).state ≠ .idle := by
  rw [← Bool.not_eq_true, bothIdle_iff, not_forall]

/-! #### Appending (R147, R149, R151) -/

/-- The state in which a record has joined the journal. -/
def recorded (pos : Option Position) (body : RecordBody) (s : State) : State :=
  { s with journal := { s.journal with
    records := s.journal.records ++ [commonPart s.fare.clock s.journal.next pos body], next := s.journal.next + 1 } }

section Append
variable {pos : Option Position} {body : RecordBody}

theorem recorded_length : (recorded pos body s).journal.records.length = s.journal.records.length + 1 :=
  List.length_append

/-- All that can become of a record handed to the journal. -/
theorem append_eq : append pos body s =
    if s.journal.records.length < Config.journalCapacity then
      if (recorded pos body s).journal.records.length = Config.journalLevel then
        notify 2 (.journalLevel (recorded pos body s).journal.records.length (oldestSeq (recorded pos body s).journal)
          (s.journal.next + 1 - 1)) (recorded pos body s)
      else recorded pos body s
    else raiseOverrun { s with journal := { s.journal with notWritten := s.journal.notWritten + 1 } } := rfl

theorem append_plain (room : s.journal.records.length < Config.journalCapacity)
    (below : s.journal.records.length + 1 ≠ Config.journalLevel) : append pos body s = recorded pos body s := by
  rw [append_eq, if_pos room, recorded_length, if_neg below]

theorem append_level (level : s.journal.records.length + 1 = Config.journalLevel) : append pos body s =
    notify 2 (.journalLevel Config.journalLevel (oldestSeq (recorded pos body s).journal) s.journal.next)
      (recorded pos body s) := by
  have room : s.journal.records.length < Config.journalCapacity := by
    rw [Config.journalLevel] at level
    rw [Config.journalCapacity]
    omega
  rw [append_eq, if_pos room, recorded_length, if_pos level, level, BitVec.add_sub_cancel]

theorem append_noRoom (full : 512 ≤ s.journal.records.length) : append pos body s =
    raiseOverrun { s with journal := { s.journal with notWritten := s.journal.notWritten + 1 } } :=
  if_neg (Nat.not_lt.2 full)

end Append

/-! #### The oldest number (R153) -/

theorem oldestSeq_nil {j : Journal} (empty : j.records = []) : oldestSeq j = j.next := by rw [oldestSeq, empty]

theorem oldestSeq_cons {j : Journal} {r : Record} {rs : List Record} (held : j.records = r :: rs) : oldestSeq j = r.seq := by
  rw [oldestSeq, held]

/-! #### Confirming (R153) -/

/-- With d the distance back from the newest of n records, the record d places before the newest has the confirmed number. -/
theorem JournalOk.confirmed {j : Journal} (ok : JournalOk j) {q : BitVec 32} (held : distance j q < j.records.length) :
    ∃ r, j.records[j.records.length - distance j q - 1]? = some r ∧ r.seq = q := by
  obtain ⟨-, number⟩ := ok
  have place : j.records.length - distance j q - 1 < j.records.length := by omega
  refine ⟨_, List.getElem?_eq_getElem place, ?_⟩
  have back : j.records.length - (j.records.length - distance j q - 1) = distance j q + 1 := by omega
  rw [number _ place, back, BitVec.ofNat_add, distance, BitVec.ofNat_toNat, BitVec.setWidth_eq]
  bv_omega

/-- The answer of CONFIRM_JOURNAL carries the count of the records then held and the oldest number. -/
theorem confirmAnswer_eq (r : Result) (rs : List Record) :
    finish (confirmAnswer tag r { takeFrame s with journal := { s.journal with records := rs } }) =
      answeredOnly 1 tag 15 r (.confirmed rs.length (match rs with | [] => s.journal.next | x :: _ => x.seq))
        { takeFrame s with journal := { s.journal with records := rs } } := by
  cases rs <;> rfl

section Confirm
variable {q : BitVec 32} (h : takes (.confirmJournal tag q) s = true)
include h

theorem execConfirmJournal_held (held : distance s.journal q < s.journal.records.length) :
    execConfirmJournal tag q s = .next (finish (confirmAnswer tag .ok (confirmThrough q (takeFrame s)))) := by
  rw [execConfirmJournal, request_taken h, takeFrame_journal, if_pos held]

theorem execConfirmJournal_older (older : s.journal.records.length ≤ distance s.journal q)
    (near : distance s.journal q < 2147483648) :
    execConfirmJournal tag q s = .next (finish (confirmAnswer tag .ok (takeFrame s))) := by
  rw [execConfirmJournal, request_taken h, takeFrame_journal, if_neg (Nat.not_lt.2 older), if_pos near]

theorem execConfirmJournal_newer (newer : 2147483648 ≤ distance s.journal q)
    (bounded : s.journal.records.length ≤ Config.journalCapacity) :
    execConfirmJournal tag q s = .next (finish (confirmAnswer tag .range (takeFrame s))) := by
  have beyond : s.journal.records.length ≤ distance s.journal q := by
    rw [Config.journalCapacity] at bounded
    omega
  rw [execConfirmJournal, request_taken h, takeFrame_journal, if_neg (Nat.not_lt.2 beyond), if_neg (Nat.not_lt.2 newer)]

end Confirm

/-! #### Closing a shift (R157) -/

theorem execCloseShift_taken (h : takes (.closeShift tag) s = true) : execCloseShift tag s = .next (finish
    (if bothIdle s = false then mgmt tag 17 .busy .empty (takeFrame s)
     else if 496 ≤ s.journal.records.length then mgmt tag 17 .journalFull .empty (takeFrame s)
     else mgmt tag 17 .ok (.shift s.journal.next (s.journal.latchCount + 1)) (closeShift (takeFrame s)))) := request_taken h

/-! #### Reading (R152) -/

/-- The bytes of records in their layouts (R152, section 9.7). -/
def recordBytes (l : List Record) : Nat := (l.map (fun r => 14 + kindLength r.body)).sum

theorem recordBytes_cons (r : Record) (l : List Record) : recordBytes (r :: l) = 14 + kindLength r.body + recordBytes l :=
  List.sum_cons

/-- The records that fit are the longest beginning of the list that does. -/
theorem fitting_spec : ∀ (rs : List Record) (room : Nat), fitting room rs <+: rs ∧ recordBytes (fitting room rs) ≤ room ∧
    (fitting room rs = rs ∨ ∃ r, fitting room rs ++ [r] <+: rs ∧ room < recordBytes (fitting room rs ++ [r])) := by
  intro rs
  induction rs with
  | nil => exact fun room => ⟨List.nil_prefix, Nat.zero_le _, .inl rfl⟩
  | cons r rs ih =>
    intro room
    unfold fitting
    dsimp only
    split
    · rename_i fits
      obtain ⟨pre, within, rest⟩ := ih (room - (14 + kindLength r.body))
      refine ⟨List.cons_prefix_cons.2 ⟨rfl, pre⟩, by rw [recordBytes_cons]; omega, ?_⟩
      obtain all | ⟨next, pre', tooLong⟩ := rest
      · exact .inl (by rw [all])
      · refine .inr ⟨next, List.cons_prefix_cons.2 ⟨rfl, pre'⟩, ?_⟩
        rw [List.cons_append, recordBytes_cons]
        omega
    · rename_i tooLong
      refine ⟨List.nil_prefix, Nat.zero_le _, .inr ⟨r, ⟨rs, rfl⟩, ?_⟩⟩
      rw [List.nil_append, recordBytes_cons]
      omega

/-- A page holds the oldest records: all, n of them, or as many as the answer body takes (R152). -/
theorem journalPage_spec (n : Nat) (rs : List Record) : journalPage n rs <+: rs ∧ (journalPage n rs).length ≤ n ∧
    recordBytes (journalPage n rs) ≤ 1024 - Config.readJournalHead ∧
    (journalPage n rs = rs ∨ (journalPage n rs).length = n ∨ ∃ r, journalPage n rs ++ [r] <+: rs ∧
      1024 - Config.readJournalHead < recordBytes (journalPage n rs ++ [r])) := by
  obtain ⟨pre, within, rest⟩ := fitting_spec (rs.take n) (Config.saleBody - Config.readJournalHead)
  have first : rs.take n <+: rs := List.take_prefix n rs
  refine ⟨pre.trans first, pre.length_le.trans (List.length_take_le n rs), within, ?_⟩
  obtain all | ⟨r, pre', tooLong⟩ := rest
  · obtain short | long := Nat.le_total rs.length n
    · exact .inl (all.trans (List.take_of_length_le short))
    · exact .inr (.inl (by rw [journalPage, all, List.length_take_of_le long]))
  · exact .inr (.inr ⟨r, pre'.trans first, tooLong⟩)

theorem execReadJournal_taken {n : Nat} (h : takes (.readJournal tag n) s = true) : execReadJournal tag n s = .next (finish
    (if n < 1 ∨ 64 < n then mgmt tag 14 .range .empty (takeFrame s)
     else mgmt tag 14 .ok (.journal s.journal.records.length s.journal.notWritten (journalPage n s.journal.records))
       (takeFrame s))) := request_taken h

section ReadTable
variable {src : TableSource} {table index : Nat} (h : takes (.readTable tag src table index) s = true)
include h

theorem execReadTable_none (none : readTableBytes src table index s = none) :
    execReadTable tag src table index s = .next (answeredOnly 1 tag 4 .range .empty (takeFrame s)) := by
  rw [execReadTable, request_taken h, show readTableBytes src table index (takeFrame s) = _ from none]
  rfl

theorem execReadTable_some {bs : List Byte} (some : readTableBytes src table index s = some bs) :
    execReadTable tag src table index s = .next (answeredOnly 1 tag 4 .ok (.table bs) (takeFrame s)) := by
  rw [execReadTable, request_taken h, show readTableBytes src table index (takeFrame s) = _ from some]
  rfl

end ReadTable

end JournalRequests
end Sys2Proof.Machine

namespace Sys2Proof.Proofs
open Sys2Proof Sys2Proof.Machine

/-- Settles O32: a record off the level, at it, and one that finds the journal full, with JOURNAL_OVERRUN raised already or
not. -/
theorem recordsAreAppended : Obligations.RecordsAreAppended := by
  intro pos body s c r t full
  refine ⟨fun room below => append_plain room fun level => below (Nat.succ.inj level), fun r0 rs records level => ?_,
    fun none raised => ?_, fun none clear => ?_⟩
  · have oldest : oldestSeq (recorded pos body s).journal = r0.seq := oldestSeq_cons (congrArg (· ++ [r]) records)
    rw [append_level (congrArg Nat.succ level), oldest]
    rfl
  · exact (append_noRoom none).trans (if_pos raised)
  · exact (append_noRoom none).trans (if_neg (Bool.eq_false_iff.1 clear))

/-- Settles O30: by the distance back from the newest record, which is that record's place. -/
theorem confirmJournal : Obligations.ConfirmJournal := by
  intro tag q s h ok d count answer
  refine ⟨fun held => ?_, ok.confirmed, fun older near => ?_, fun newer => ?_⟩
  · exact (execConfirmJournal_held h held).trans (congrArg Host.Outcome.next (confirmAnswer_eq .ok _))
  · exact (execConfirmJournal_older h older near).trans (congrArg Host.Outcome.next (confirmAnswer_eq .ok s.journal.records))
  · exact (execConfirmJournal_newer h newer ok.1).trans (congrArg Host.Outcome.next (confirmAnswer_eq .range s.journal.records))

/-- Settles O31: a session under way, the journal at its gate, and the shift closed. -/
theorem closeShiftLatches : Obligations.CloseShiftLatches := by
  intro tag s h
  have taken : exec (.closeShift tag) s = _ := execCloseShift_taken h
  refine ⟨fun busy => ?_, fun idle => ⟨fun full => ?_, fun room => ?_⟩⟩
  · rw [taken, if_pos (bothIdle_false.2 busy)]
    rfl
  · rw [taken, bothIdle_iff.2 idle, if_neg nofun, if_pos full]
    rfl
  · rw [taken, bothIdle_iff.2 idle, if_neg nofun, if_neg (Nat.not_le.2 room)]
    rfl

/-- Settles O25: each read answers from the state that the request's frame has left; a journal page is the longest beginning of
the records that its two limits allow. -/
theorem readsChangeNothing : Obligations.ReadsChangeNothing := by
  intro tag s
  refine ⟨fun h => request_taken h, fun src table index h => ?_, fun n h => ⟨fun out => ?_, fun low high => ?_⟩,
    fun h => ⟨totalsReport s, request_taken h, ?_⟩, fun h => ⟨statusReport (takeFrame s), request_taken h, ?_⟩⟩
  · exact ⟨execReadTable_none h, fun bs => execReadTable_some h⟩
  · have taken : exec (.readJournal tag n) s = _ := execReadJournal_taken h
    rw [taken, if_pos out]
    rfl
  · have taken : exec (.readJournal tag n) s = _ := execReadJournal_taken h
    rw [taken, if_neg (by omega)]
    exact ⟨journalPage n s.journal.records, rfl, journalPage_spec n _⟩
  · refine ⟨rfl, rfl, rfl, rfl, fun i => vget_vtab _ i, rfl, rfl, rfl, rfl, rfl, fun p => ?_⟩
    cases p <;> exact ⟨rfl, rfl⟩
  · refine ⟨rfl, rfl, rfl, rfl, rfl, fun p => ?_, fun a => vget_vmap _ _ _, rfl, oldestSeq_nil, fun x xs => oldestSeq_cons, rfl,
      rfl, rfl, rfl, rfl, rfl, rfl, rfl, rfl, rfl, rfl⟩
    cases p <;> rfl

end Sys2Proof.Proofs

namespace Sys2Proof.Machine

/-! ### Requested starts, and frames that match no request (R163, R164, R190, R192) -/

section FactoryClear
variable {s : State}

theorem mem_fours (e : Fin 4) : e ∈ fours := by revert e; decide

theorem lent_iff : lent s = true ↔ s.link.lend ≠ none := Option.isSome_iff_ne_none

theorem entries_any_iff :
    fours.any (fun e => decide ((entry e s).state ≠ .free)) = true ↔ ∃ e, (entry e s).state ≠ .free := by
  simp only [List.any_eq_true, mem_fours, true_and, decide_eq_true_eq]

/-- Both sessions are IDLE and no lend is in force, as FACTORY_CLEAR asks (R163). -/
def Quiet (s : State) : Prop := (∀ p, (sess p s).state = .idle) ∧ s.link.lend = none

/-- The journal and the pending-write table are empty, as FACTORY_CLEAR asks (R163). -/
def Settled (s : State) : Prop := s.journal.records = [] ∧ ∀ e, (entry e s).state = .free

theorem busy_iff : bothIdle s = false ∨ lent s = true ↔ ¬ Quiet s := by
  rw [Quiet, not_and_or, ← bothIdle_iff, lent_iff, Bool.not_eq_true]

theorem unsettled_iff :
    s.journal.records ≠ [] ∨ fours.any (fun e => decide ((entry e s).state ≠ .free)) = true ↔ ¬ Settled s := by
  rw [Settled, not_and_or, entries_any_iff, not_forall]

theorem factoryRefusal_closed (closed : s.port.mode ≠ .serviceOpen) : factoryRefusal s = some .protectedReq := if_pos closed

theorem factoryRefusal_busy (opened : s.port.mode = .serviceOpen) (busy : ¬ Quiet s) : factoryRefusal s = some .busy := by
  rw [factoryRefusal, if_neg (not_not.2 opened), if_pos (busy_iff.2 busy)]

theorem factoryRefusal_state (opened : s.port.mode = .serviceOpen) (quiet : Quiet s) (unsettled : ¬ Settled s) :
    factoryRefusal s = some .state := by
  rw [factoryRefusal, if_neg (not_not.2 opened), if_neg (mt busy_iff.1 (not_not.2 quiet)), if_pos (unsettled_iff.2 unsettled)]

theorem factoryRefusal_none (opened : s.port.mode = .serviceOpen) (quiet : Quiet s) (settled : Settled s) :
    factoryRefusal s = none := by
  rw [factoryRefusal, if_neg (not_not.2 opened), if_neg (mt busy_iff.1 (not_not.2 quiet)),
    if_neg (mt unsettled_iff.1 (not_not.2 settled))]

variable {tag : Byte} (h : takes (.factoryClear tag) s = true)
include h

theorem execFactoryClear_refused {r : Result} (refusal : factoryRefusal s = some r) :
    execFactoryClear tag s = .next (answeredOnly 1 tag 27 r .empty (takeFrame s)) := by
  rw [execFactoryClear, request_taken h, show factoryRefusal (takeFrame s) = some r from refusal]
  rfl

theorem execFactoryClear_asks (passed : factoryRefusal s = none) :
    execFactoryClear tag s = .next (finish (askStart tag 27 .factoryClear (takeFrame s))) := by
  rw [execFactoryClear, request_taken h, show factoryRefusal (takeFrame s) = none from passed]

end FactoryClear

section FrameHead
variable {s : State} {f : RxFrame} {rest : List RxFrame} {c : Instr}

theorem takes_iff : takes c s = true ↔ running s = true ∧ s.port.startReq = none ∧ s.port.answers.length < 16 ∧
    headIs c s.port.rx = true := by
  simp only [takes, Bool.and_eq_true, decide_eq_true_eq, Option.isNone_iff_eq_none, and_assoc]
  rfl

/-- A request is taken with a frame at the head of the buffer only where the frame is its own. -/
theorem takes_head (rx : s.port.rx = f :: rest) (taken : takes c s = true) :
    requestHead c = some (f.channel, f.tag, f.kind) ∧ spells f c = true := by
  obtain ⟨-, -, -, head⟩ := takes_iff.1 taken
  exact headIs_cons (rest := rest) (by rwa [← rx])

theorem headIs_own (head : requestHead c = some (f.channel, f.tag, f.kind)) (own : spells f c = true) :
    headIs c (f :: rest) = true := by
  simp [headIs, head, own]

theorem requestIn_ne_unknown {channel tag kind : Byte} : requestIn f ≠ some (.unknownRequest channel tag kind) := by
  intro spelled
  unfold requestIn at spelled
  split at spelled
  · cases spelled
  · rename_i other _
    split at spelled
    · cases spelled
      exact other _ _ _ rfl
    · cases spelled
  · cases spelled

/-- The request that a frame's body spells is taken from that frame, a CASH_CONFIG by its layout instead (R190, section 9.7). -/
theorem spells_requestIn (spelled : requestIn f = some c) (other : ¬ (f.channel = 1 ∧ f.kind = 7)) : spells f c = true := by
  obtain ⟨head, plain⟩ := requestIn_some spelled
  unfold spells
  split
  · simp only [requestHead, Option.some.injEq, Prod.mk.injEq] at head
    obtain ⟨channel, -, kind⟩ := head
    exact absurd ⟨channel.symm, kind.symm⟩ other
  · exact absurd spelled requestIn_ne_unknown
  · exact decide_eq_true (by rw [spelled, plain])

/-- Every frame is the request its body spells, or the refusal of one that matches no request (R190). -/
theorem exists_headIs (f : RxFrame) (rest : List RxFrame) : ∃ c, headIs c (f :: rest) = true := by
  by_cases fits : knownKind f.channel.toNat f.kind.toNat = true ∧ bodyFits f = true
  · obtain ⟨-, fits⟩ := fits
    by_cases cash : f.channel = 1 ∧ f.kind = 7
    · obtain ⟨channel, kind⟩ := cash
      exact ⟨.cashConfig f.tag f.body false, headIs_own (by rw [channel, kind]; rfl) (decide_eq_true rfl)⟩
    · rw [bodyFits, if_neg cash, Option.isSome_iff_exists] at fits
      obtain ⟨c, spelled⟩ := fits
      exact ⟨c, headIs_own (requestIn_some spelled).1 (spells_requestIn spelled cash)⟩
  · refine ⟨.unknownRequest f.channel f.tag f.kind, headIs_own rfl ?_⟩
    simp only [spells, Bool.or_eq_true, Bool.not_eq_true']
    rwa [not_and_or, Bool.not_eq_true, Bool.not_eq_true] at fits

end FrameHead
end Sys2Proof.Machine

namespace Sys2Proof.Proofs
open Sys2Proof Sys2Proof.Machine

/-- Settles O35: a requested start and the checks before it, then the frame at the head of the buffer. -/
theorem startsAndUnknownRequests : Obligations.StartsAndUnknownRequests := by
  intro tag s asked refused quiet settled
  refine ⟨fun h => request_taken h, ⟨fun closed h => ?_, fun opened busy h => ?_, fun opened idle held h => ?_,
      fun opened idle clear h => execFactoryClear_asks h (factoryRefusal_none opened idle clear)⟩,
    fun channel kind h => ⟨fun unknown => ?_, fun known => ?_⟩, fun f rest rx => ⟨fun c channel tag' kind head other => ?_,
      fun channel tag' kind known fits => ?_, fun body busy other => ?_, fun channel kind => ?_, fun runs free room => ?_⟩⟩
  · exact execFactoryClear_refused h (factoryRefusal_closed closed)
  · exact execFactoryClear_refused h (factoryRefusal_busy opened busy)
  · exact execFactoryClear_refused h (factoryRefusal_state opened idle held)
  · refine (request_taken h).trans ?_
    rw [unknown]
    rfl
  · refine (request_taken h).trans ?_
    rw [known]
    rfl
  · refine Bool.eq_false_iff.2 fun taken => ?_
    cases head.symm.trans (takes_head rx taken).1
    simp at other
  · refine Bool.eq_false_iff.2 fun taken => ?_
    obtain ⟨head, own⟩ := takes_head rx taken
    cases head
    simp [spells, known, fits] at own
  · refine Bool.eq_false_iff.2 fun taken => other ?_
    exact of_decide_eq_true (takes_head rx taken).2
  · rw [bodyFits, if_pos ⟨channel, kind⟩, decide_eq_true_iff]
  · obtain ⟨c, head⟩ := exists_headIs f rest
    exact ⟨c, takes_iff.2 ⟨runs, free, room, by rwa [rx]⟩⟩

end Sys2Proof.Proofs

namespace Sys2Proof.Machine

/-! ### Lending the device link (R184, R186, R187) -/

section LendCheck
variable {a : Addr} {limit : Nat} {s : State}

/-! #### The checks of LEND_LINK (R184) -/

/-- A WRITE waits or is outstanding at a card module: sent and unanswered, ready, or on the line (R184). -/
theorem writePending_iff : writePending s = true ↔ (∃ p, s.link.writeOut.get p ≠ none) ∨
    (∃ c ∈ s.link.cardReady, ∃ w, c.cmd = .write w) ∨ ∃ age p w, s.link.line = .sending ⟨age, .card p (.write w)⟩ := by
  have out : ((s.link.writeOut.get .A).isSome || (s.link.writeOut.get .B).isSome) = true ↔ ∃ p, s.link.writeOut.get p ≠ none := by
    rw [Bool.or_eq_true, Option.isSome_iff_ne_none, Option.isSome_iff_ne_none]
    exact ⟨fun h => h.elim (⟨.A, ·⟩) (⟨.B, ·⟩), fun ⟨p, h⟩ => by cases p <;> simp [h]⟩
  rw [writePending, Bool.or_eq_true, Bool.or_eq_true, out, or_assoc, List.any_eq_true]
  refine or_congr_right (or_congr ?_ ?_)
  · refine exists_congr fun c => and_congr_right fun _ => ?_
    cases c.cmd <;> simp
  · split
    · rename_i line
      simp [line]
    · rename_i other
      simpa using other

/-- Nothing of the controller's own is under way: no sale, no verdict, no DISPENSE and no WRITE (R184). -/
def LendQuiet (s : State) : Prop :=
  (∀ p, (sess p s).state = .idle ∧ (lane p s).list = [] ∧ (resv p s).waiting = none ∧ s.link.writeOut.get p = none) ∧
  s.change.dispense = none ∧ (∀ c ∈ s.link.cardReady, ∀ w, c.cmd ≠ .write w) ∧
  ∀ age p w, s.link.line ≠ .sending ⟨age, .card p (.write w)⟩

theorem forall_position {P : Position → Prop} : (∀ p, P p) ↔ P .A ∧ P .B :=
  ⟨fun h => ⟨h .A, h .B⟩, fun ⟨a, b⟩ p => by cases p <;> assumption⟩

/-- What LEND_LINK answers BUSY for is that something is under way. -/
theorem lendBusy_iff : (bothIdle s = false ∨ dispensePending s = true ∨ writePending s = true ∨ (lane .A s).list ≠ [] ∨
    (lane .B s).list ≠ []) ↔ ¬ LendQuiet s := by
  have waits : dispensePending s = true ↔ s.change.dispense ≠ none ∨ (resv .A s).waiting ≠ none ∨ (resv .B s).waiting ≠ none := by
    simp only [dispensePending, Bool.or_eq_true, Option.isSome_iff_ne_none, or_assoc]
  rw [iff_not_comm, bothIdle_false, waits, writePending_iff, LendQuiet]
  simp only [not_or, not_exists, not_and, not_not, forall_position]
  tauto

/-- The limit lies in its range (R184). -/
def LimitInRange (limit : Nat) : Prop := 10 ≤ limit ∧ limit ≤ 900

theorem not_limit_out (inRange : LimitInRange limit) : ¬ (limit < 10 ∨ 900 < limit) := by
  unfold LimitInRange at inRange
  omega

theorem not_lent (unlent : s.link.lend = none) : ¬ lent s = true := mt lent_iff.1 (not_not.2 unlent)

theorem not_offline (on : (periph a s).state = .online) : ¬ online a s = false := fun off => of_decide_eq_false off on

/-- The checks of LEND_LINK at one of the six addresses, in their order. -/
theorem lendCheck_addr : lendCheck (addrNumber a) limit s =
    if limit < 10 ∨ 900 < limit then .error .range
    else if lent s then .error .state
    else if online a s = false then .error .peripheralMissing
    else if bothIdle s = false ∨ dispensePending s = true ∨ writePending s = true ∨ (lane .A s).list ≠ [] ∨
        (lane .B s).list ≠ [] then .error .busy
    else .ok a := by
  rw [lendCheck, addrOf_addrNumber]

theorem lendCheck_noAddr {n : Nat} (out : n = 0 ∨ 6 < n) : lendCheck n limit s = .error .range := by
  rw [lendCheck, addrOf_eq_none out]

theorem lendCheck_range (out : ¬ LimitInRange limit) : lendCheck (addrNumber a) limit s = .error .range := by
  rw [lendCheck_addr, if_pos (by unfold LimitInRange at out; omega)]

variable (inRange : LimitInRange limit)
include inRange

theorem lendCheck_lent (held : s.link.lend ≠ none) : lendCheck (addrNumber a) limit s = .error .state := by
  rw [lendCheck_addr, if_neg (not_limit_out inRange), if_pos (lent_iff.2 held)]

variable (unlent : s.link.lend = none)
include unlent

theorem lendCheck_missing (off : (periph a s).state ≠ .online) :
    lendCheck (addrNumber a) limit s = .error .peripheralMissing := by
  rw [lendCheck_addr, if_neg (not_limit_out inRange), if_neg (not_lent unlent),
    if_pos (show online a s = false from decide_eq_false off)]

variable (on : (periph a s).state = .online)
include on

theorem lendCheck_busy (busy : ¬ LendQuiet s) : lendCheck (addrNumber a) limit s = .error .busy := by
  rw [lendCheck_addr, if_neg (not_limit_out inRange), if_neg (not_lent unlent), if_neg (not_offline on),
    if_pos (lendBusy_iff.2 busy)]

theorem lendCheck_granted (quiet : LendQuiet s) : lendCheck (addrNumber a) limit s = .ok a := by
  rw [lendCheck_addr, if_neg (not_limit_out inRange), if_neg (not_lent unlent), if_neg (not_offline on),
    if_neg (mt lendBusy_iff.1 (not_not.2 quiet))]

end LendCheck

section LendRequests
variable {tag : Byte} {n limit : Nat} {busy : Bool} {a : Addr} {d : Lend} {s : State}

/-! #### The requests (R184, R186) -/

theorem execLendLink_refused {r : Result} (h : takes (.lendLink tag n limit busy) s = true)
    (refusal : lendCheck n limit s = .error r) :
    execLendLink tag n limit s busy = .next (answeredOnly 1 tag 19 r .empty (takeFrame s)) := by
  rw [execLendLink, request_taken h, show lendCheck n limit (takeFrame s) = .error r from refusal]
  rfl

theorem execLendLink_grants (h : takes (.lendLink tag n limit busy) s = true) (passed : lendCheck n limit s = .ok a) :
    execLendLink tag n limit s busy =
      .next (settle busy (grantLend a limit (mgmt tag 19 .ok .empty (takeFrame s)))) := by
  rw [execLendLink, request_taken h, show lendCheck n limit (takeFrame s) = .ok a from passed]
  rfl

theorem execReturnLink_refused (h : takes (.returnLink tag busy) s = true) (unlent : s.link.lend = none) :
    execReturnLink tag s busy = .next (answeredOnly 1 tag 20 .state .empty (takeFrame s)) := by
  rw [execReturnLink, request_taken h, takeFrame_link, unlent]
  rfl

theorem execReturnLink_ends (h : takes (.returnLink tag busy) s = true) (held : s.link.lend = some d) :
    execReturnLink tag s busy = .next (settle busy (endLend d (mgmt tag 20 .ok .empty (takeFrame s)))) := by
  rw [execReturnLink, request_taken h, takeFrame_link, held]
  rfl

end LendRequests

section Frames
variable {s t : State}

/-! #### What the pieces of a lend's beginning and end leave alone -/

theorem lend_of_unserved (h : unserved t = unserved s) : t.link.lend = s.link.lend :=
  (congrArg (fun u => u.link.lend) h :)

theorem blocks_of_unserved (h : unserved t = unserved s) : t.sales = s.sales ∧ t.fare = s.fare ∧ t.cash = s.cash ∧
    t.cards = s.cards ∧ t.journal = s.journal :=
  ⟨congrArg Unserved.sales h, congrArg Unserved.fare h, congrArg Unserved.cash h, congrArg Unserved.cards h,
    congrArg Unserved.journal h⟩

theorem enqueue_unserved (x : Answer) (s : State) : unserved (enqueue x s) = unserved s := by
  simp only [unserved, enqueue, onPort]
  split <;> rfl

theorem foldl_enqueue_unserved {g : QueuedPass → Answer} (fs : List QueuedPass) (s : State) :
    unserved (fs.foldl (fun s f => enqueue (g f) s) s) = unserved s := by
  induction fs generalizing s with
  | nil => rfl
  | cons f fs ih => exact (ih _).trans (enqueue_unserved _ s)

theorem removePass_unserved (cond : QueuedPass → Bool) (r : Result) (s : State) :
    unserved (removePass cond r s) = unserved s :=
  (foldl_enqueue_unserved _ _).trans rfl

/-- No frame that was to be removed is left. -/
theorem removePass_passQueue {cond : QueuedPass → Bool} {r : Result} {f : QueuedPass}
    (h : f ∈ (removePass cond r s).link.passQueue) : cond f = false := by
  obtain ⟨port, e⟩ := removePass_eq cond r s
  rw [e] at h
  simpa using (List.mem_filter.1 h).2

theorem removePass_change (cond : QueuedPass → Bool) (r : Result) (s : State) : (removePass cond r s).change = s.change := by
  obtain ⟨port, e⟩ := removePass_eq cond r s
  rw [e]

theorem tryBegin_unserved (s : State) : unserved (tryBegin s) = unserved s := by
  unfold tryBegin
  split
  · rfl
  · split
    · rfl
    · split <;> rfl

theorem sendMask_masksOnly (p : Position) (m : BitVec 8) (s : State) : MasksOnly s (sendMask p m s) := by
  by_cases on : (periph (valAddr p) s).state = .online
  · have up : online (valAddr p) s = true := decide_eq_true on
    have waits := waitInhibit_masksOnly (s := s) (x := takeSet m s (s.link.inhibit.get p)) (.inl up)
    by_cases out : inhibitOut p s = true
    · rw [sendMask_inExchange on out]
      exact waits.trans (keepInhibit_masksOnly (.inl up))
    · rw [sendMask_waiting on (Bool.eq_false_iff.2 out)]
      exact waits
  · rw [sendMask_offline on]
    exact .refl s

theorem resendMasks_masksOnly (s : State) : MasksOnly s (resendMasks s) :=
  (masks_masksOnly none s).trans ((sendMask_masksOnly .A _ _).trans (sendMask_masksOnly .B _ _))

theorem resendMasks_unserved (s : State) : unserved (resendMasks s) = unserved s := by
  simp only [resendMasks, sendMask_unserved, masks_unserved]

theorem resendMasks_change (s : State) : (resendMasks s).change = s.change := by
  simp only [resendMasks, sendMask_change, masks_change]

theorem MasksOnly.passQueue (m : MasksOnly s t) : t.link.passQueue = s.link.passQueue := by
  obtain ⟨⟨i, k, link, -⟩, -⟩ := m
  rw [link]

theorem MasksOnly.periph (m : MasksOnly s t) (a : Addr) : periph a t = Machine.periph a s := by
  obtain ⟨⟨i, k, link, -⟩, -⟩ := m
  rw [Machine.periph, link]
  rfl

end Frames

section Granted
variable {a : Addr} {limit level : Nat} {busy : Bool} {r : ReadyFrame} {s : State}

/-! #### The line during a lend (R185) -/

/-- Levels 2 to 5 send nothing during a lend. -/
theorem oldestReady_lent (held : s.link.lend ≠ none) (own : level ≠ 1 ∧ level ≠ 6) (xs : List ReadyFrame) :
    oldestReady level s xs = none := by
  have stays (f : LinkFrame) : mayGo level f s = false := by
    simp [mayGo, lent_iff.2 held, own]
  induction xs with
  | nil => rfl
  | cons x xs ih => rw [oldestReady, stays, ih]

/-- During a lend a VERDICT, an INHIBIT or a pass-through frame is chosen. -/
theorem choose_lent (held : s.link.lend ≠ none) (chosen : choose s = some r) : r ∈ level1 s ∨ level6 s = some r := by
  simp only [choose, oldestReady_lent held (by decide : 2 ≠ 1 ∧ 2 ≠ 6), oldestReady_lent held (by decide : 3 ≠ 1 ∧ 3 ≠ 6),
    oldestReady_lent held (by decide : 4 ≠ 1 ∧ 4 ≠ 6), oldestReady_lent held (by decide : 5 ≠ 1 ∧ 5 ≠ 6)] at chosen
  split at chosen
  · cases chosen
    exact .inl (oldestReady_mem ‹_›)
  · exact .inr chosen

theorem unready_change_lent (held : s.link.lend ≠ none) (chosen : choose s = some r) : (unready r s).change = s.change := by
  obtain h | h := choose_lent held chosen
  · obtain h | h := List.mem_append.1 h
    · obtain ⟨v, -, rfl⟩ := List.mem_map.1 h
      rfl
    · simp only [List.mem_filterMap, Option.map_eq_some_iff] at h
      obtain ⟨p, -, m, -, rfl⟩ := h
      rfl
  · simp only [level6, Option.map_eq_some_iff] at h
    obtain ⟨f, -, rfl⟩ := h
    rfl

/-- No DISPENSE goes out during a lend. -/
theorem handOut_change_lent (held : s.link.lend ≠ none) : (handOut busy s).change = s.change := by
  unfold handOut
  split
  · split
    · rfl
    · split
      · rfl
      · split
        · exact defer_change _ s
        · exact unready_change_lent held ‹_›
  all_goals rfl

theorem settle_change_lent (held : s.link.lend ≠ none) : (settle busy s).change = s.change := by
  have still : (standIn .B (standIn .A s)).link.lend = s.link.lend :=
    lend_of_unserved ((standIn_unserved _ .B).trans (standIn_unserved s .A))
  rw [settle, arbitrate, finish_change, handOut_change_lent (by rwa [still]), standIn_change, standIn_change]

/-! #### The granted lend (R184) -/

theorem grantLend_unserved (a : Addr) (limit : Nat) (s : State) :
    unserved (grantLend a limit s) = unserved (onLink (fun l => { l with lend := some ⟨a, limit, .lent⟩ }) s) := by
  rw [grantLend, removePass_unserved, resendMasks_unserved, holdPrint, onProgress_unserved]

theorem grantLend_change (a : Addr) (limit : Nat) (s : State) : (grantLend a limit s).change = s.change := by
  rw [grantLend, removePass_change, resendMasks_change, holdPrint, onProgress_change]
  rfl

/-- Only frames to the lent peripheral stay in the pass-through queue. -/
theorem grantLend_passQueue {f : QueuedPass} (h : f ∈ (grantLend a limit s).link.passQueue) : f.addr = a := by
  rw [grantLend] at h
  simpa using removePass_passQueue h

/-- The lend is in force, no frame to another peripheral waits, and the sales, the money and the records are as they were. -/
def LendGranted (a : Addr) (limit : Nat) (s t : State) : Prop :=
  t.link.lend = some ⟨a, limit, .lent⟩ ∧ (∀ f ∈ t.link.passQueue, f.addr = a) ∧ t.sales = s.sales ∧ t.fare = s.fare ∧
  t.cash = s.cash ∧ t.cards = s.cards ∧ t.journal = s.journal ∧ t.change = s.change

theorem grantLend_granted (a : Addr) (limit : Nat) (busy : Bool) (s : State) :
    LendGranted a limit s (settle busy (grantLend a limit s)) := by
  have granted := grantLend_unserved a limit s
  have held : (grantLend a limit s).link.lend = some ⟨a, limit, .lent⟩ := lend_of_unserved granted
  have kept := (settle_unserved _ busy).trans granted
  obtain ⟨sales, fare, cash, cards, journal⟩ := blocks_of_unserved kept
  refine ⟨lend_of_unserved kept, fun f waits => ?_, sales, fare, cash, cards, journal, ?_⟩
  · exact grantLend_passQueue ((settle_served busy _).passQueue.subset waits)
  · rw [settle_change_lent (by rw [held]; nofun), grantLend_change]

end Granted

section Ended
variable {d : Lend} {busy : Bool} {s t u : State}

/-! #### The end of a lend (R187) -/

/-- The lend is over and no frame of it waits; the fare engine, the cash tables and the deny list are as they were. -/
def LendEnded (s t : State) : Prop :=
  t.link.lend = none ∧ (∀ f ∈ t.link.passQueue, f.unfiltered = false) ∧ t.fare = s.fare ∧ t.cash = s.cash ∧
  t.cards.deny = s.cards.deny

theorem LendEnded.serve (h : LendEnded s t) (kept : unserved u = unserved t)
    (queue : u.link.passQueue.Sublist t.link.passQueue) : LendEnded s u := by
  obtain ⟨lend, passes, fare, cash, deny⟩ := h
  have deny' : u.cards.deny = t.cards.deny := (congrArg (fun x => x.cards.deny) kept :)
  exact ⟨(lend_of_unserved kept).trans lend, fun f hf => passes f (queue.subset hf), (congrArg Unserved.fare kept).trans fare,
    (congrArg Unserved.cash kept).trans cash, deny'.trans deny⟩

/-- What the session controllers do at the end of a ticket leaves the end of the lend alone. -/
theorem LendEnded.controls (h : LendEnded s t) (c : Controls t u) : LendEnded s u := by
  obtain ⟨lend, passes, fare, cash, deny⟩ := h
  have kept := c.untouched
  have lend' : u.link.lend = t.link.lend := (congrArg (fun x => x.link.lend) c.aside :)
  have queue : u.link.passQueue = t.link.passQueue := congrArg Untouched.passQueue kept
  exact ⟨lend'.trans lend, by rwa [queue], (congrArg Untouched.fare kept).trans fare,
    (congrArg Untouched.cash kept).trans cash, (congrArg Untouched.deny kept).trans deny⟩

theorem LendEnded.settle (h : LendEnded s t) : LendEnded s (settle busy t) :=
  h.serve (settle_unserved t busy) (settle_served busy t).passQueue

theorem LendEnded.served (h : LendEnded s t) : LendEnded s (served busy t) :=
  h.serve (served_unserved busy t) (served_passQueue busy t)

theorem LendEnded.notify (h : LendEnded s t) (cls : Nat) (b : NoticeBody) : LendEnded s (notify cls b t) :=
  h.serve (notify_unserved t cls b) (List.Sublist.refl _)

/-- The record is cleared, its frames are gone from the queue and every poll is due, before the print unit goes on. -/
def lendCleared (d : Lend) (s : State) : State :=
  allPollsDue d.addr (removePass (fun f => f.unfiltered) .tooLate (onLink (fun l => { l with lend := none }) s))

theorem endLend_eq (d : Lend) (s : State) :
    endLend d s = resendMasks (handTickets (resumePrint (decide (d.addr = .printer)) (lendCleared d s))) := rfl

theorem allPollsDue_unserved (a : Addr) (s : State) : unserved (allPollsDue a s) = unserved s := rfl

theorem allPollsDue_announceNext (a : Addr) (s : State) : (periph a (allPollsDue a s)).announceNext = true := by
  have due : periph a (allPollsDue a s) =
      fallDue s.port.moment (periph a (onPeriph a (fun x => { x with announceNext := true }) s)) := vget_vmap _ _ _
  rw [due, periph_onPeriph_self]
  rfl

theorem lendCleared_ended (d : Lend) (s : State) : LendEnded s (lendCleared d s) := by
  obtain ⟨port, e⟩ := removePass_eq (fun f => f.unfiltered) .tooLate (onLink (fun l => { l with lend := none }) s)
  rw [lendCleared, e]
  exact ⟨rfl, fun f waits => by simpa using (List.mem_filter.1 waits).2, rfl, rfl, rfl⟩

/-- The print unit that fails its job, or goes on with it (R142). -/
theorem LendEnded.resumePrint (h : LendEnded s t) (wasPrinter : Bool) : LendEnded s (resumePrint wasPrinter t).1 := by
  cases wasPrinter with
  | true =>
    exact (h.controls (failActive_controlled (always := true) (failStub_controlled (.refl .A t))).controls :)
  | false =>
    refine h.serve ((tryBegin_unserved _).trans (onProgress_unserved t _)) ?_
    show (tryBegin (onProgress _ t)).link.passQueue.Sublist _
    rw [tryBegin_eq]
    simp

theorem endLend_ended (d : Lend) (s : State) : LendEnded s (endLend d s) := by
  have handed := ((lendCleared_ended d s).resumePrint (decide (d.addr = .printer))).controls (handTickets_controls _)
  rw [endLend_eq]
  refine handed.serve (resendMasks_unserved _) ?_
  rw [(resendMasks_masksOnly _).passQueue]

/-! #### The end of a lend of another peripheral than the printer -/

section NotPrinter
variable (other : d.addr ≠ .printer)
include other

/-- No job ends, so no session goes on. -/
theorem endLend_resumes :
    endLend d s = resendMasks (tryBegin (onProgress (fun g => { g with limit := g.cutAnswered }) (lendCleared d s))) := by
  rw [endLend_eq, decide_eq_false other]
  rfl

theorem endLend_unserved : unserved (endLend d s) = unserved (onLink (fun l => { l with lend := none }) s) := by
  rw [endLend_resumes other, resendMasks_unserved, tryBegin_unserved, onProgress_unserved, lendCleared, allPollsDue_unserved,
    removePass_unserved]

/-- The lent peripheral's next poll is an ANNOUNCE. -/
theorem endLend_announceNext : (periph d.addr (endLend d s)).announceNext = true := by
  rw [endLend_resumes other, (resendMasks_masksOnly _).periph, tryBegin_eq, periph, onProgress_link]
  exact allPollsDue_announceNext _ _

end NotPrinter
end Ended

section Announce
variable {a b : Addr} {r : ReadyFrame} {busy : Bool} {s : State}

/-! #### The ANNOUNCE after a lend (R187) -/

theorem onPeriph_announceNext {f : Peripheral → Peripheral} (same : ∀ x, (f x).announceNext = x.announceNext) :
    (periph a (onPeriph b f s)).announceNext = (periph a s).announceNext := by
  rw [onPeriph_periph]
  split
  · rw [same, ‹a = b›]
  · rfl

theorem raiseFault_announceNext (f : Flag) : (periph a (raiseFault b f s)).announceNext = (periph a s).announceNext := by
  rw [raiseFault_periph]
  split
  · rw [‹a = b›]
  · rfl

theorem standIn_announceNext (p : Position) : (periph a (standIn p s)).announceNext = (periph a s).announceNext := by
  have taken : (periph a (onPeriph (cardAddr p) (fun x => { x with pollDue := none }) s)).announceNext =
      (periph a s).announceNext := onPeriph_announceNext fun _ => rfl
  obtain e | ⟨age, c, -, -, ⟨-, e⟩ | ⟨-, -, e⟩⟩ := standIn_cases p s <;> rw [e]
  · exact taken
  · exact taken

theorem defer_announceNext : (periph a (defer r s)).announceNext = (periph a s).announceNext := by
  have counted : (periph a (onCounters (frameAddr r.frame) (fun c => { c with deferrals := bump16 c.deferrals }) s)).announceNext =
      (periph a s).announceNext := onPeriph_announceNext fun _ => rfl
  unfold defer
  dsimp only
  split
  · exact counted
  · exact (raiseFault_announceNext .contention).trans counted

/-- Only the sending of its ANNOUNCE forgets that one is to come. -/
theorem unready_announceNext (other : r.frame ≠ .announce a) :
    (periph a (unready r s)).announceNext = (periph a s).announceNext := by
  unfold unready
  split
  case h_1 => exact onPeriph_announceNext fun _ => rfl
  case h_2 b frame =>
    have apart : a ≠ b := fun e => other (by rw [frame, e])
    rw [periph_onPeriph_ne apart]
  case h_7 => rw [periph, onProgress_link]; rfl
  case h_8 => rw [periph, onProgress_link]; rfl
  all_goals rfl

/-- An ANNOUNCE that is to come still is, or it is on the line. -/
theorem settle_announceNext (due : (periph a s).announceNext = true) : (periph a (settle busy s)).announceNext = true ∨
    ∃ age, (settle busy s).link.line = .sending ⟨age, .announce a⟩ := by
  have ready : (periph a (standIn .B (standIn .A s))).announceNext = true := by
    rw [standIn_announceNext, standIn_announceNext, due]
  rw [settle, arbitrate, periph, finish_link]
  generalize standIn .B (standIn .A s) = u at ready
  unfold handOut
  split
  · split
    · exact .inl ready
    · split
      · exact .inl ready
      · rename_i r _
        split
        · exact .inl (defer_announceNext.trans ready)
        · by_cases sent : r.frame = .announce a
          · obtain ⟨age, frame⟩ := r
            cases sent
            exact .inr ⟨age, rfl⟩
          · exact .inl ((unready_announceNext sent).trans ready)
  all_goals exact .inl ready

end Announce

section Expiries
variable {busy : Bool} {d : Lend} {c : ReclaimCause} {s : State}

/-! #### The lend limit and the reclaim grace (R186) -/

theorem expiry_off {f : State → State} {occurs : Bool} (off : occurs = false) : expiry occurs f busy s = .next s := by
  rw [expiry, off, Bool.and_false]
  rfl

variable (held : s.link.lend = some d)
include held

theorem lendRuns_eq : lendRuns s = decide (d.phase = .lent) := by simp only [lendRuns, held]

theorem graceRuns_eq : graceRuns s = decide (d.phase ≠ .lent) := by simp only [graceRuns, held]

theorem lendLimitExpiry_reclaims (on : s.power = true) (phase : d.phase = .lent) :
    exec (.lendLimitExpiry busy) s = .next (settle busy (masks none (notify 1 (.linkReclaim d.addr .limit false)
      { s with link := { s.link with lend := some { d with phase := .reclaiming .limit } } }))) := by
  refine (expiry_occurs on ((lendRuns_eq held).trans (decide_eq_true phase))).trans ?_
  rw [reclaim_notified held phase]

theorem reclaimGraceExpiry_idle (phase : d.phase = .lent) : exec (.reclaimGraceExpiry busy) s = .next s :=
  expiry_off ((graceRuns_eq held).trans (decide_eq_false (not_not.2 phase)))

variable (phase : d.phase = .reclaiming c)
include phase

theorem lendLimitExpiry_idle : exec (.lendLimitExpiry busy) s = .next s :=
  expiry_off ((lendRuns_eq held).trans (decide_eq_false (by rw [phase]; nofun)))

theorem reclaimGraceExpiry_ends (on : s.power = true) : exec (.reclaimGraceExpiry busy) s =
    .next (served busy (notify 1 (.linkReclaim d.addr c true) (endLend d s))) := by
  refine (expiry_occurs on ((graceRuns_eq held).trans (decide_eq_true (by rw [phase]; nofun)))).trans ?_
  simp only [graceOver, held, phase]
  rfl

end Expiries
end Sys2Proof.Machine

namespace Sys2Proof.Proofs
open Sys2Proof Sys2Proof.Machine

/-- Settles O34: the checks in order, the lend granted, and its end by RETURN_LINK, by the limit and by the grace. -/
theorem lendAndReturn : Obligations.LendAndReturn := by
  refine ⟨fun tag a limit busy s => ?_, fun s d busy on held => ⟨fun phase => ?_, fun c phase => ?_⟩⟩
  · refine ⟨fun n out h => execLendLink_refused h (lendCheck_noAddr out),
      fun out h => execLendLink_refused h (lendCheck_range out),
      fun inRange held h => execLendLink_refused h (lendCheck_lent inRange held),
      fun inRange unlent off h => execLendLink_refused h (lendCheck_missing inRange unlent off),
      fun inRange unlent on active h => execLendLink_refused h (lendCheck_busy inRange unlent on active),
      fun inRange unlent on quiet h => ?_, fun h => ⟨execReturnLink_refused h, fun d held => ?_⟩⟩
    · exact ⟨_, execLendLink_grants h (lendCheck_granted inRange unlent on quiet), grantLend_granted a limit busy _⟩
    · obtain ⟨unlent, passes, fare, cash, deny⟩ := (endLend_ended d (mgmt tag 20 .ok .empty (takeFrame s))).settle (busy := busy)
      refine ⟨_, execReturnLink_ends h held, unlent, passes, fare, cash, deny, fun other => ?_⟩
      obtain ⟨sales, -, -, cards, journal⟩ := blocks_of_unserved ((settle_unserved _ busy).trans (endLend_unserved other))
      exact ⟨sales, cards, journal, settle_announceNext (endLend_announceNext other)⟩
  · exact ⟨lendLimitExpiry_reclaims held on phase, reclaimGraceExpiry_idle held phase⟩
  · exact ⟨lendLimitExpiry_idle held phase, _, reclaimGraceExpiry_ends held phase on,
      ((endLend_ended d s).notify 1 (.linkReclaim d.addr c true)).served⟩

end Sys2Proof.Proofs

namespace Sys2Proof.Machine

/-! ### The notice queue (R194, R195) -/

section Notices
variable {b : NoticeBody} {m : Notice} {ns ns' xs ys : List Notice} {c : Nat} {s : State}

theorem replaceFirst_none (h : ∀ n ∈ ns, replaces b n.body = false) : replaceFirst b ns = none := by
  induction ns with
  | nil => rfl
  | cons n ns ih =>
    obtain ⟨hn, hns⟩ := List.forall_mem_cons.1 h
    simp [replaceFirst, hn, ih hns]

theorem replaceFirst_at (before : ∀ n ∈ xs, replaces b n.body = false) (hit : replaces b m.body = true) :
    replaceFirst b (xs ++ m :: ys) = some (xs ++ { m with body := b } :: ys) := by
  induction xs with
  | nil => simp [replaceFirst, hit]
  | cons n xs ih =>
    obtain ⟨hn, hxs⟩ := List.forall_mem_cons.1 before
    simp [replaceFirst, hn, ih hxs]

theorem replaceFirst_length (h : replaceFirst b ns = some ns') : ns'.length = ns.length := by
  induction ns generalizing ns' with
  | nil => cases h
  | cons n ns ih =>
    unfold replaceFirst at h
    split at h
    · cases h
      rfl
    · obtain ⟨rest, hrest, rfl⟩ := Option.map_eq_some_iff.1 h
      rw [List.length_cons, List.length_cons, ih hrest]

theorem replaceLast_none (h : ∀ n ∈ ns, replaces b n.body = false) : replaceLast b ns = none := by
  rw [replaceLast, replaceFirst_none fun n hn => h n (List.mem_reverse.1 hn), Option.map_none]

/-- The notice nearest the tail of its kind and position takes the new contents in its place. -/
theorem replaceLast_at (hit : replaces b m.body = true) (after : ∀ n ∈ ys, replaces b n.body = false) :
    replaceLast b (xs ++ m :: ys) = some (xs ++ { m with body := b } :: ys) := by
  have reversed : (xs ++ m :: ys).reverse = ys.reverse ++ m :: xs.reverse := by simp
  rw [replaceLast, reversed, replaceFirst_at (fun n hn => after n (List.mem_reverse.1 hn)) hit]
  simp

theorem replaceLast_length (h : replaceLast b ns = some ns') : ns'.length = ns.length := by
  obtain ⟨rev, hrev, rfl⟩ := Option.map_eq_some_iff.1 h
  rw [List.length_reverse, replaceFirst_length hrev, List.length_reverse]

theorem notify_room (room : s.port.notices.length < Config.noticeCapacity) :
    (notify c b s).port = { s.port with notices := s.port.notices ++ [⟨c, s.port.moment, b⟩] } := if_pos room

theorem notify_replaced (full : ¬ s.port.notices.length < Config.noticeCapacity)
    (found : replaceLast b s.port.notices = some ns) : (notify c b s).port = { s.port with notices := ns } := by
  simp only [notify, onPort_port, if_neg full, found]

theorem notify_dropped (full : ¬ s.port.notices.length < Config.noticeCapacity)
    (none : replaceLast b s.port.notices = none) : (notify c b s).port = { s.port with lost := s.port.lost + 1 } := by
  simp only [notify, onPort_port, if_neg full, none]

/-- A notice changes the queue of notices and the count of those lost, and the queue keeps its size (R194, R195). -/
theorem notify_bounded (c : Nat) (b : NoticeBody) (bounded : s.port.notices.length ≤ Config.noticeCapacity) :
    ∃ ns n, (notify c b s).port = { s.port with notices := ns, lost := n } ∧ ns.length ≤ Config.noticeCapacity := by
  by_cases room : s.port.notices.length < Config.noticeCapacity
  · exact ⟨_, _, notify_room room, by rw [List.length_append]; exact room⟩
  · cases found : replaceLast b s.port.notices with
    | none => exact ⟨_, _, notify_dropped room found, bounded⟩
    | some ns => exact ⟨_, _, notify_replaced room found, by rw [replaceLast_length found]; exact bounded⟩

end Notices

/-! ### The answer queue and the transmit line (R192, R194) -/

section Transmit
variable {x : Answer} {rest : List Answer} {n : Notice} {t : Port} {s : State}

theorem enqueue_room (room : s.port.answers.length < Config.answerCapacity) (empty : s.port.overflow = []) :
    (enqueue x s).port = { s.port with answers := s.port.answers ++ [x] } := if_pos ⟨room, empty⟩

theorem enqueue_waits (full : Config.answerCapacity ≤ s.port.answers.length ∨ s.port.overflow ≠ []) :
    (enqueue x s).port = { s.port with overflow := s.port.overflow ++ [x] } :=
  if_neg fun ⟨room, empty⟩ => full.elim (Nat.not_le.2 room) fun some => some empty

theorem nextFrame_answer (h : t.answers = x :: rest) :
    nextFrame t = { t with tx := .answer x, answers := rest ++ t.overflow.take 1, overflow := t.overflow.drop 1 } := by
  simp only [nextFrame, h]

theorem nextFrame_notice (empty : t.answers = []) (h : firstNotice t.notices = some n) :
    nextFrame t =
      { t with tx := .notice t.nextNotice n, notices := t.notices.erase n, nextNotice := t.nextNotice + 1 } := by
  simp only [nextFrame, empty, h]

theorem nextFrame_idle (empty : t.answers = []) (h : firstNotice t.notices = none) : nextFrame t = t := by
  simp only [nextFrame, empty, h]

theorem finish_port_idle (idle : s.port.tx = .idle) :
    (finish s).port = { nextFrame s.port with moment := (nextFrame s.port).moment + 1 } := by
  simp only [finish_port, idle]

theorem finish_port_busy (busy : s.port.tx ≠ .idle) : (finish s).port = { s.port with moment := s.port.moment + 1 } := by
  rw [finish_port]
  cases h : s.port.tx with
  | idle => exact absurd h busy
  | answer => rfl
  | notice => rfl

end Transmit

/-! ### The notice that goes first (R194) -/

section First
variable {c : Nat} {n : Notice} {ns : List Notice}

theorem firstOfClass_some (h : firstOfClass c ns = some n) : n ∈ ns ∧ n.cls = c := by
  induction ns with
  | nil => cases h
  | cons m ns ih =>
    unfold firstOfClass at h
    split at h
    · split at h
      · split at h
        · rename_i found
          cases h
          have cls := List.find?_some found
          simp only [Bool.and_eq_true, decide_eq_true_eq] at cls
          exact ⟨List.mem_cons_of_mem _ (List.mem_of_find?_eq_some found), cls.1.1⟩
        · cases h
          exact ⟨List.mem_cons_self, ‹_›⟩
      · cases h
        exact ⟨List.mem_cons_self, ‹_›⟩
    · obtain ⟨mem, cls⟩ := ih h
      exact ⟨List.mem_cons_of_mem _ mem, cls⟩

theorem firstOfClass_none (h : firstOfClass c ns = none) : ∀ m ∈ ns, m.cls ≠ c := by
  induction ns with
  | nil => nofun
  | cons m ns ih =>
    unfold firstOfClass at h
    split at h
    · split at h
      · split at h <;> cases h
      · cases h
    · exact List.forall_mem_cons.2 ⟨‹_›, ih h⟩

/-- No queued notice has a class below c. -/
def NoneBelow (c : Nat) (ns : List Notice) : Prop := ∀ m ∈ ns, c ≤ m.cls

theorem NoneBelow.next (h : NoneBelow c ns) (none : firstOfClass c ns = none) : NoneBelow (c + 1) ns :=
  fun m hm => Nat.lt_of_le_of_ne (h m hm) (firstOfClass_none none m hm).symm

theorem NoneBelow.first (h : NoneBelow c ns) (found : firstOfClass c ns = some n) : n ∈ ns ∧ ∀ m ∈ ns, n.cls ≤ m.cls := by
  obtain ⟨mem, cls⟩ := firstOfClass_some found
  exact ⟨mem, cls ▸ h⟩

/-- Of notices of the classes 0–3 the first is of the lowest class queued, and one of them there is. -/
theorem firstNotice_lowest (classes : ∀ m ∈ ns, m.cls ≤ 3) :
    (∀ n, firstNotice ns = some n → n ∈ ns ∧ ∀ m ∈ ns, n.cls ≤ m.cls) ∧ (ns ≠ [] → (firstNotice ns).isSome = true) := by
  have below0 : NoneBelow 0 ns := fun _ _ => Nat.zero_le _
  unfold firstNotice
  split
  · exact ⟨fun n h => by cases h; exact below0.first ‹_›, fun _ => rfl⟩
  · have below1 := below0.next ‹_›
    split
    · exact ⟨fun n h => by cases h; exact below1.first ‹_›, fun _ => rfl⟩
    · have below2 := below1.next ‹_›
      split
      · exact ⟨fun n h => by cases h; exact below2.first ‹_›, fun _ => rfl⟩
      · have below3 := below2.next ‹_›
        split
        · exact ⟨fun n h => by cases h; exact below3.first ‹_›, fun _ => rfl⟩
        · have below4 := below3.next ‹_›
          have empty : ns = [] := List.eq_nil_iff_forall_not_mem.2 fun m hm =>
            absurd (classes m hm) (Nat.not_le.2 (below4 m hm))
          exact ⟨by simp [empty], fun h => absurd empty h⟩

end First

/-! ### Every step keeps the port's queues bounded and the mode to the door (R189, R192, R194, R196) -/

section PortOk
variable {s t : State} {u : Port}

theorem PortOk.enqueue (h : PortOk s.port) (x : Answer) : PortOk (enqueue x s).port := by
  obtain ⟨rx, answers, notices, waits⟩ := h
  by_cases full : Config.answerCapacity ≤ s.port.answers.length ∨ s.port.overflow ≠ []
  · rw [enqueue_waits full]
    exact ⟨rx, answers, notices, fun _ => full.elim answers.antisymm waits⟩
  · obtain ⟨room, empty⟩ := not_or.1 full
    rw [enqueue_room (Nat.not_le.1 room) (not_not.1 empty)]
    exact ⟨rx, by rw [List.length_append]; exact Nat.not_le.1 room, notices, fun some => absurd some empty⟩

theorem PortOk.notify (h : PortOk s.port) (c : Nat) (b : NoticeBody) : PortOk (notify c b s).port := by
  obtain ⟨rx, answers, notices, waits⟩ := h
  obtain ⟨ns, n, e, bounded⟩ := notify_bounded c b notices
  rw [e]
  exact ⟨rx, answers, bounded, waits⟩

/-- The place of an answer that goes is taken by one that waits outside the queue. -/
theorem PortOk.nextFrame (h : PortOk u) : PortOk (nextFrame u) := by
  obtain ⟨rx, answers, notices, waits⟩ := h
  cases queued : u.answers with
  | nil =>
    cases first : firstNotice u.notices with
    | none => rw [nextFrame_idle queued first]; exact ⟨rx, answers, notices, waits⟩
    | some n =>
      rw [nextFrame_notice queued first]
      exact ⟨rx, answers, List.length_erase_le.trans notices, waits⟩
  | cons x rest =>
    rw [nextFrame_answer queued]
    rw [queued] at answers waits
    rw [List.length_cons] at answers waits
    refine ⟨rx, ?_, notices, fun left => ?_⟩
    · have one := List.length_take_le 1 u.overflow
      rw [List.length_append]
      omega
    · have some : u.overflow ≠ [] := fun none => left (by simp [none])
      have one : (u.overflow.take 1).length = 1 := by
        rw [List.length_take, Nat.min_eq_left (List.length_pos_iff.2 some)]
      rw [List.length_append, one]
      exact waits some

theorem portOk_start (isOpen : Bool) : PortOk (Port.start isOpen) :=
  ⟨Nat.zero_le _, Nat.zero_le _, Nat.zero_le _, fun h => absurd rfl h⟩

/-- The queues of the port are within their sizes, and the mode follows the door. -/
structure PortInOrder (s : State) : Prop where
  queues : PortOk s.port
  door : DoorOk s

/-- Only the watched parts count. -/
theorem PortInOrder.of_watched (e : watched t = watched s) (h : PortInOrder s) : PortInOrder t := by
  obtain ⟨queues, door⟩ := h
  have rx : t.port.rx = s.port.rx := congrArg Watched.rx e
  have answers : t.port.answers = s.port.answers := congrArg Watched.answers e
  have overflow : t.port.overflow = s.port.overflow := congrArg Watched.overflow e
  have notices : t.port.notices = s.port.notices := congrArg Watched.notices e
  have mode : t.port.mode = s.port.mode := congrArg Watched.mode e
  have doorOpen : t.port.doorOpen = s.port.doorOpen := congrArg Watched.doorOpen e
  have power : t.power = s.power := congrArg Watched.power e
  have doorLine : t.doorLine = s.doorLine := congrArg Watched.doorLine e
  exact ⟨by rwa [PortOk, rx, answers, overflow, notices], by rwa [DoorOk, mode, doorOpen, power, doorLine]⟩

/-- An update of the queues alone leaves the mode and the door. -/
theorem DoorOk.of_port {f : Port → Port} (h : DoorOk s) (mode : (f s.port).mode = s.port.mode)
    (doorOpen : (f s.port).doorOpen = s.port.doorOpen) : DoorOk (onPort f s) := by
  rw [DoorOk, onPort_port, mode, doorOpen]
  exact h

theorem nextFrame_door (u : Port) : (nextFrame u).mode = u.mode ∧ (nextFrame u).doorOpen = u.doorOpen := by
  unfold nextFrame
  split
  · exact ⟨rfl, rfl⟩
  · split <;> exact ⟨rfl, rfl⟩

/-- Where the port takes the door's state, the mode follows it. -/
theorem doorOk_taken (isOpen : Bool) :
    (if isOpen then Mode.serviceOpen else .outOfService) = .serviceOpen ↔ isOpen = true := by
  cases isOpen <;> decide

theorem Move.keeps_portInOrder (m : Move s t) (h : PortInOrder s) : PortInOrder t := by
  obtain ⟨rx, answers, notices, waits⟩ := h.queues
  obtain ⟨mode, line⟩ := h.door
  cases m with
  | unwatched same => exact h.of_watched same
  | answer x => exact ⟨h.queues.enqueue x, h.door.of_port (by split <;> rfl) (by split <;> rfl)⟩
  | notice c b =>
    obtain ⟨ns, n, e, -⟩ := notify_bounded c b notices
    exact ⟨h.queues.notify c b, by rw [DoorOk, e]; exact ⟨mode, line⟩⟩
  | serve => exact ⟨h.queues.nextFrame, h.door.of_port (nextFrame_door _).1 (nextFrame_door _).2⟩
  | take => exact ⟨⟨(List.drop_sublist _ _).length_le.trans rx, answers, notices, waits⟩, mode, line⟩
  | keep f _ room => exact ⟨⟨by simpa using room, answers, notices, waits⟩, mode, line⟩
  | mode m _ closed target =>
    have shut : s.port.doorOpen ≠ true := fun opened => closed (mode.2 opened)
    exact ⟨h.queues, ⟨fun opened => absurd opened target, fun opened => absurd opened shut⟩, line⟩
  | door isOpen => exact ⟨h.queues, doorOk_taken isOpen, fun _ => rfl⟩
  | doorLine isOpen _ known => exact ⟨h.queues, mode, known⟩
  | powerLoss => exact ⟨h.queues, mode, nofun⟩
  | clear => exact ⟨portOk_start _, doorOk_taken _, fun _ => rfl⟩
  | wipe | record | confirm | tick | setTime | timing | linkTiming | deny | entries | write | list | passes =>
    exact ⟨h.queues, mode, line⟩

end PortOk
end Sys2Proof.Machine

namespace Sys2Proof.Proofs
open Sys2Proof Sys2Proof.Machine

/-- Settles O59: every step is a sequence of moves, and each kind of move keeps the queues' sizes and the mode to the door. -/
theorem portStaysBounded : Obligations.PortStaysBounded := by
  intro s t queues door h
  obtain ⟨queues', door'⟩ := step_keeps Move.keeps_portInOrder h ⟨queues, door⟩
  exact ⟨queues', door'⟩

/-- Settles O4: the four things a free or taken line does, the first notice's class, and an answer inside or outside the queue. -/
theorem answersGoBeforeNotices : Obligations.AnswersGoBeforeNotices := by
  refine ⟨fun s => ⟨finish_eq s, fun a rest idle queued => ?_, fun n idle none first => ?_, fun idle none empty => ?_,
    finish_port_busy⟩, fun ns => firstNotice_lowest, fun a s => ⟨rfl, enqueue_room, enqueue_waits⟩⟩
  · rw [finish_port_idle idle, nextFrame_answer queued]
  · rw [finish_port_idle idle, nextFrame_notice none first]
  · rw [finish_port_idle idle, nextFrame_idle none (by rw [empty]; rfl)]

/-- Settles O6: a notice joins a queue with room; a full one replaces the notice nearest the tail, or drops. -/
theorem fullNoticeQueue : Obligations.FullNoticeQueue := by
  refine fun cls b s => ⟨notify_room, fun xs m ys full queue hit after => ?_, fun full none => ?_⟩
  · exact notify_replaced (Nat.not_lt.2 full) (by rw [queue]; exact replaceLast_at hit after)
  · exact notify_dropped (Nat.not_lt.2 full) (replaceLast_none none)

end Sys2Proof.Proofs

namespace Sys2Proof.Machine

/-! ### Frames of the sale link received and sent (R188, R189, R192) -/

section SaleFrames
variable {ch tag kind : Byte} {body bs : List Byte} {f : RxFrame} {a : Answer} {busy : Bool} {s : State}

theorem saleFrameBytes_length : (saleFrameBytes ch tag kind body).length = body.length + 7 := by
  simp only [saleFrameBytes, List.length_append, List.length_cons, beBytes_length]
  omega

/-- The length field of a frame, behind its channel, tag and kind. -/
theorem saleFrameBytes_lengthField (fits : body.length ≤ 1024) :
    fieldAt (saleFrameBytes ch tag kind body) 3 2 = body.length := by
  have behind : (saleFrameBytes ch tag kind body).drop 3 =
      beBytes 2 body.length ++ (body ++ beBytes 2 (crc16 (ch :: tag :: kind :: (beBytes 2 body.length ++ body))).toNat) := by
    simp only [saleFrameBytes, List.cons_append, List.drop_succ_cons, List.drop_zero, List.append_assoc]
  rw [fieldAt, behind, List.take_left' (beBytes_length _ _), beNat_beBytes, Nat.mod_eq_of_lt (by omega)]

/-- A frame made as R188 gives is received as it was made. -/
theorem receivedFrame_saleFrameBytes (fits : body.length ≤ 1024) :
    receivedFrame (saleFrameBytes ch tag kind body) = .kept ⟨ch, tag, kind, body⟩ := by
  unfold receivedFrame
  simp only [saleCheckRight_bytes, Bool.true_eq_false, if_false, saleFrameBytes_lengthField fits, saleFrameBytes_length,
    ne_eq, not_true_eq_false, if_neg (Nat.not_lt.2 fits : ¬ Config.saleBody < body.length)]
  simp [saleFrameBytes, beBytes]

theorem receivedFrame_unchecked (wrong : saleCheckRight bs = false) : receivedFrame bs = .checkError := if_pos wrong

section Received
variable (on : s.power = true) (high : s.resetHeld = false)
include on high

theorem saleFrameReceived_kept (whole : receivedFrame bs = .kept f) (room : s.port.rx.length < 2) :
    exec (.saleFrameReceived bs) s = .next (finish { s with port := { s.port with rx := s.port.rx ++ [f] } }) := by
  have kept : rxFrame bs s = onPort (fun t => { t with rx := t.rx ++ [f] }) s := by
    simp only [rxFrame, high, whole, if_neg (Nat.not_le.2 room : ¬ Config.rxCapacity ≤ s.port.rx.length), Bool.false_eq_true,
      if_false]
  rw [exec, execSaleFrameReceived, if_pos on, kept]
  rfl

theorem saleFrameReceived_overrun (whole : receivedFrame bs = .kept f) (full : 2 ≤ s.port.rx.length) :
    exec (.saleFrameReceived bs) s = .next (finish { s with port := { s.port with
      counters := { s.port.counters with overruns := s.port.counters.overruns + 1 } } }) := by
  have counted : rxFrame bs s = onSaleCounters (fun c => { c with overruns := c.overruns + 1 }) s := by
    simp only [rxFrame, high, whole, if_pos (show Config.rxCapacity ≤ s.port.rx.length from full), Bool.false_eq_true,
      if_false]
  rw [exec, execSaleFrameReceived, if_pos on, counted]
  rfl

theorem saleFrameReceived_checkError (wrong : receivedFrame bs = .checkError) :
    exec (.saleFrameReceived bs) s = .next (finish { s with port := { s.port with
      counters := { s.port.counters with checkErrors := s.port.counters.checkErrors + 1 } } }) := by
  have counted : rxFrame bs s = onSaleCounters (fun c => { c with checkErrors := c.checkErrors + 1 }) s := by
    simp only [rxFrame, high, wrong, Bool.false_eq_true, if_false]
  rw [exec, execSaleFrameReceived, if_pos on, counted]
  rfl

end Received

theorem saleFrameSent_on (on : s.power = true) : exec (.saleFrameSent busy) s = .next (txSent busy s) :=
  congrArg Host.Outcome.next (if_pos on)

theorem txSent_answer (sent : s.port.tx = .answer a) (plain : a.start = none) : txSent busy s =
    finish { s with port := { s.port with
      tx := .idle, counters := { s.port.counters with answersSent := s.port.counters.answersSent + 1 } } } := by
  simp only [txSent, sent, plain]
  rfl

theorem txSent_start {c : StartCause} (sent : s.port.tx = .answer a) (asks : a.start = some c) :
    txSent busy s = requestedStart c busy s := by
  simp only [txSent, sent, asks]

theorem txSent_notice {no : BitVec 16} {n : Notice} (sent : s.port.tx = .notice no n) : txSent busy s =
    finish { s with port := { s.port with
      tx := .idle, counters := { s.port.counters with noticesSent := s.port.counters.noticesSent + 1 } } } := by
  simp only [txSent, sent]
  rfl

end SaleFrames

/-! ### The staged bank (R199–R201) -/

section Staged
variable {tag : Byte} {table index : Nat} {body : List Byte} {r : Result} {b : Bank} {s : State}

theorem takeFrame_act_waits (waits : s.fare.act ≠ none) : (takeFrame s).fare.act.isSome = true := Option.isSome_iff_ne_none.2 waits

theorem takeFrame_act_free (free : s.fare.act = none) : ¬ (takeFrame s).fare.act.isSome = true := fun waits =>
  Option.isSome_iff_ne_none.1 waits free

section Load
variable (h : takes (.loadTable tag table index body) s = true)
include h

theorem loadTable_pending (waits : s.fare.act ≠ none) :
    exec (.loadTable tag table index body) s = .next (answeredOnly 1 tag 1 .activationPending .empty (takeFrame s)) := by
  rw [exec, execLoadTable, request_taken h, if_pos (takeFrame_act_waits waits)]
  rfl

theorem loadTable_refused (free : s.fare.act = none) (refused : loadInto table index body s.fare.staged = .error r) :
    exec (.loadTable tag table index body) s = .next (answeredOnly 1 tag 1 r .empty (takeFrame s)) := by
  rw [exec, execLoadTable, request_taken h, if_neg (takeFrame_act_free free), takeFrame_fare, refused]
  rfl

theorem loadTable_loads (free : s.fare.act = none) (loaded : loadInto table index body s.fare.staged = .ok b) :
    exec (.loadTable tag table index body) s = .next (answeredOnly 1 tag 1 .ok (.check (bankCheck b))
      { takeFrame s with fare := { s.fare with staged := b } }) := by
  rw [exec, execLoadTable, request_taken h, if_neg (takeFrame_act_free free), takeFrame_fare, loaded]
  rfl

end Load

section Clear
variable (h : takes (.clearStaged tag) s = true)
include h

theorem clearStaged_pending (waits : s.fare.act ≠ none) :
    exec (.clearStaged tag) s = .next (answeredOnly 1 tag 2 .activationPending .empty (takeFrame s)) := by
  rw [exec, execClearStaged, request_taken h, if_pos (takeFrame_act_waits waits)]
  rfl

theorem clearStaged_clears (free : s.fare.act = none) :
    exec (.clearStaged tag) s = .next (answeredOnly 1 tag 2 .ok (.check (bankCheck clearedBank))
      { takeFrame s with fare := { s.fare with staged := clearedBank } }) := by
  rw [exec, execClearStaged, request_taken h, if_neg (takeFrame_act_free free)]
  rfl

end Clear
end Staged

/-! ### Activation (R202, R204, R205) -/

section Activate
variable {tag : Byte} {check : BitVec 16} {time : ActTime} {d m : Nat} {s : State}

/-- The time of an ACTIVATE passes its two checks: it is NOW, or a minute of a day with the clock valid (R202). -/
def TimeServes (time : ActTime) (s : State) : Prop := ∀ d m, time = .day d m → m ≤ 1439 ∧ s.fare.clock.valid = true

theorem timeServes_now : TimeServes .now s := nofun

theorem timeServes_day (minute : m ≤ 1439) (valid : s.fare.clock.valid = true) : TimeServes (.day d m) s := by
  rintro _ _ ⟨⟩
  exact ⟨minute, valid⟩

theorem activateTime_serves (serves : TimeServes time s) : activateTime time s = none := by
  cases time with
  | now => rfl
  | day d m =>
    obtain ⟨minute, valid⟩ := serves d m rfl
    simp [activateTime, Nat.not_lt.2 minute, valid]

section Taken
variable (h : takes (.activate tag check time) s = true)
include h

theorem activate_badTime {r : Result} (refused : activateTime time s = some r) :
    exec (.activate tag check time) s = .next (answeredOnly 1 tag 5 r .empty (takeFrame s)) := by
  have refused' : activateTime time (takeFrame s) = some r := refused
  rw [exec, execActivate, request_taken h]
  simp only [refused']
  rfl

theorem activate_mismatch (serves : TimeServes time s) (other : bankCheck s.fare.staged ≠ check) :
    exec (.activate tag check time) s =
      .next (answeredOnly 1 tag 5 .checkMismatch (.check (bankCheck s.fare.staged)) (takeFrame s)) := by
  have serves' : activateTime time (takeFrame s) = none := activateTime_serves serves
  rw [exec, execActivate, request_taken h]
  simp only [serves']
  rw [if_pos (show bankCheck (takeFrame s).fare.staged ≠ check from other)]
  rfl

theorem activate_badTable {n t : Nat} (serves : TimeServes time s) (same : bankCheck s.fare.staged = check)
    (fails : consistency s.fare.staged s.cash.unit = some (n, t)) :
    exec (.activate tag check time) s = .next (answeredOnly 1 tag 5 .badTable (.badTable n t) (takeFrame s)) := by
  have serves' : activateTime time (takeFrame s) = none := activateTime_serves serves
  rw [exec, execActivate, request_taken h]
  simp only [serves', takeFrame_fare, takeFrame_cash, if_neg (not_not.2 same), fails]
  rfl

theorem activate_passes (serves : TimeServes time s) (same : bankCheck s.fare.staged = check)
    (passes : consistency s.fare.staged s.cash.unit = none) :
    exec (.activate tag check time) s = .next (finish (activateTaken tag check time (takeFrame s))) := by
  have serves' : activateTime time (takeFrame s) = none := activateTime_serves serves
  rw [exec, execActivate, request_taken h]
  simp only [serves', takeFrame_fare, takeFrame_cash, if_neg (not_not.2 same), passes]

end Taken

/-- The banks swapped at once, with their record and their notice, and the answer (R202, R205). -/
def swappedNow (tag : Byte) (check : BitVec 16) (time : ActTime) (late : Bool) (s : State) : State :=
  answeredOnly 1 tag 5 .ok (.swapped late)
    (notify 2 (.activation check time late) (append none (.tableActivated check time late)
      { takeFrame s with fare := { s.fare with live := s.fare.staged, staged := s.fare.live, liveCheck := check, act := none } }))

theorem swap_answered (late : Bool) (same : bankCheck s.fare.staged = check) :
    finish (mgmt tag 5 .ok (.swapped late) (swap time late (takeFrame s))) = swappedNow tag check time late s := by
  subst same
  rfl

theorem activateTaken_now (same : bankCheck s.fare.staged = check) :
    finish (activateTaken tag check .now (takeFrame s)) = swappedNow tag check .now false s := swap_answered false same

theorem activateTaken_reached (same : bankCheck s.fare.staged = check)
    (reached : d * 1440 + m ≤ s.fare.clock.day * 1440 + s.fare.clock.minute) :
    finish (activateTaken tag check (.day d m) (takeFrame s)) = swappedNow tag check (.day d m)
      (decide (d * 1440 + m < s.fare.clock.day * 1440 + s.fare.clock.minute)) s := by
  rw [← swap_answered _ same]
  exact congrArg finish (if_pos reached)

theorem activateTaken_later (later : s.fare.clock.day * 1440 + s.fare.clock.minute < d * 1440 + m) :
    finish (activateTaken tag check (.day d m) (takeFrame s)) = answeredOnly 1 tag 5 .ok .scheduled
      { takeFrame s with fare := { s.fare with act := some ⟨d, m, check⟩ } } :=
  congrArg finish (if_neg (Nat.not_le.2 later))

section Cancel
variable (h : takes (.cancelActivation tag) s = true)
include h

theorem cancelActivation_idle (idle : s.fare.act = none) :
    exec (.cancelActivation tag) s = .next (answeredOnly 1 tag 6 .state .empty (takeFrame s)) := by
  rw [exec, execCancelActivation, request_taken h, if_pos (by simp [idle])]
  rfl

theorem cancelActivation_cancels (waits : s.fare.act ≠ none) :
    exec (.cancelActivation tag) s = .next (answeredOnly 1 tag 6 .ok .empty
      { takeFrame s with fare := { s.fare with act := none } }) := by
  rw [exec, execCancelActivation, request_taken h, if_neg (by simp [waits])]
  rfl

end Cancel
end Activate
end Sys2Proof.Machine

namespace Sys2Proof.Proofs
open Sys2Proof Sys2Proof.Machine

/-- Settles O5: a whole frame is kept or overruns, a frame with a wrong check is counted, and a frame sent frees the line or
begins the start it asked for. -/
theorem saleFramesReceivedAndSent : Obligations.SaleFramesReceivedAndSent := by
  refine ⟨fun s on high => ⟨fun ch tag kind body fits room => ?_, fun ch tag kind body fits full => ?_, fun bs wrong => ?_⟩,
    fun busy s on => ⟨fun a sent plain => ?_, fun no n sent => ?_, fun a sent asks => ?_, fun a sent asks => ?_⟩⟩
  · exact saleFrameReceived_kept on high (receivedFrame_saleFrameBytes fits) room
  · exact saleFrameReceived_overrun on high (receivedFrame_saleFrameBytes fits) full
  · exact saleFrameReceived_checkError on high (receivedFrame_unchecked wrong)
  · rw [saleFrameSent_on on, txSent_answer sent plain]
  · rw [saleFrameSent_on on, txSent_notice sent]
  · rw [saleFrameSent_on on, txSent_start sent asks]
    rfl
  · rw [saleFrameSent_on on, txSent_start sent asks]
    rfl

/-- Settles O23: each request with an activation pending and without one; of a load, the failed checks and the loaded bank. -/
theorem bankLoading : Obligations.BankLoading :=
  fun _ _ _ _ _ => ⟨fun h => ⟨loadTable_pending h, fun _ => loadTable_refused h, fun _ => loadTable_loads h⟩,
    fun h => ⟨clearStaged_pending h, clearStaged_clears h⟩⟩

/-- Settles O26: the checks in order; an ACTIVATE that passes them swaps at a time that has come and schedules a later one. -/
theorem activationRequests : Obligations.ActivationRequests := by
  refine fun tag check s => ⟨⟨fun d m out h => activate_badTime h (if_pos out), fun d m minute unset h => ?_,
    fun time serves other h => activate_mismatch h serves other,
    fun time n t serves same fails h => activate_badTable h serves same fails, fun ⟨same, passes⟩ h => ?_,
    fun d m minute valid ⟨same, passes⟩ now h => ?_, fun d m minute valid ⟨same, passes⟩ past h => ?_,
    fun d m minute valid ⟨same, passes⟩ later h => ?_⟩, fun h => ⟨cancelActivation_idle h, cancelActivation_cancels h⟩⟩
  · exact activate_badTime h ((if_neg (Nat.not_lt.2 minute)).trans (if_pos unset))
  · rw [activate_passes h timeServes_now same passes, activateTaken_now same]
    rfl
  · rw [activate_passes h (timeServes_day minute valid) same passes, activateTaken_reached same now.le,
      decide_eq_false (Nat.not_lt.2 now.ge)]
    rfl
  · rw [activate_passes h (timeServes_day minute valid) same passes, activateTaken_reached same past.le, decide_eq_true past]
    rfl
  · rw [activate_passes h (timeServes_day minute valid) same passes, activateTaken_later later]

end Sys2Proof.Proofs

namespace Sys2Proof.Machine

/-! ### Reading parts of a run of bytes (section 9.7) -/

section Bytes
variable {bs xs : List Byte} {k l n off : Nat}

theorem fieldAt_slice : fieldAt bs off l = beNat (slice bs off l) := rfl

theorem drop_past (h : xs.length ≤ off) : (xs ++ bs).drop off = bs.drop (off - xs.length) := by
  rw [List.drop_append, List.drop_of_length_le h, List.nil_append]

theorem slice_head (h : xs.length = l) : slice (xs ++ bs) 0 l = xs := List.take_left' h

/-- What stands behind a run of bytes. -/
theorem slice_past (h : xs.length ≤ off) : slice (xs ++ bs) off l = slice bs (off - xs.length) l := by
  rw [slice, drop_past h, slice]

theorem fieldAt_past (h : xs.length ≤ off) : fieldAt (xs ++ bs) off l = fieldAt bs (off - xs.length) l := by
  rw [fieldAt_slice, slice_past h, fieldAt_slice]

/-- A number that ends a run of bytes. -/
theorem fieldAt_last (fits : n < 256 ^ k) : fieldAt (beBytes k n) 0 k = n := by
  simpa using fieldAt_head (bs := []) fits

/-- A single byte is its number. -/
theorem byte_beBytes (b : Byte) : [b] = beBytes 1 b.toNat := by simp [beBytes]

theorem beBytes_one_toNat (fits : n < 256) : (BitVec.ofNat 8 n).toNat = n := Nat.mod_eq_of_lt fits

theorem padText_full {t : Text} (h : t.length = n) : padText n t = t := List.take_left' h

theorem vtab_of_entries {α : Type} {m : Nat} {f : Fin m → α} {v : Vector α m} (h : ∀ i, f i = vget v i) : vtab f = v := by
  refine Vector.ext fun i hi => ?_
  have entry : vget (vtab f) ⟨i, hi⟩ = vget v ⟨i, hi⟩ := (vget_vtab f _).trans (h _)
  exact entry

end Bytes

/-! ### Tables of entries of one size -/

section Chunks
variable {α : Type} {f : α → List Byte} {n : Nat} (size : ∀ x, (f x).length = n)
include size

theorem chunks_length (xs : List α) : (xs.map f).flatten.length = n * xs.length := by
  induction xs with
  | nil => rfl
  | cons x xs ih =>
    rw [List.map_cons, List.flatten_cons, List.length_append, size, ih, List.length_cons]
    ring

/-- Entry i of a table of entries of one size. -/
theorem slice_chunks {xs : List α} {i : Nat} {x : α} (hx : xs[i]? = some x) (bs : List Byte) :
    slice ((xs.map f).flatten ++ bs) (n * i) n = f x := by
  induction xs generalizing i with
  | nil => cases hx
  | cons y ys ih =>
    rw [List.map_cons, List.flatten_cons, List.append_assoc]
    cases i with
    | zero =>
      cases hx
      exact slice_head (size x)
    | succ i =>
      rw [slice_past (by rw [size, Nat.mul_succ]; omega), size, Nat.mul_succ, Nat.add_sub_cancel]
      exact ih hx

theorem slice_entry {m : Nat} (v : Vector α m) (i : Fin m) (bs : List Byte) :
    slice ((v.toList.map f).flatten ++ bs) (n * i.val) n = f (vget v i) :=
  slice_chunks size (by simp [vget_eq]) bs

/-- The same for a table that nothing follows. -/
theorem slice_entry_all {m : Nat} (v : Vector α m) (i : Fin m) :
    slice (v.toList.map f).flatten (n * i.val) n = f (vget v i) := by
  simpa using slice_entry size v i []

theorem vector_length {m : Nat} (v : Vector α m) : (v.toList.map f).flatten.length = n * m := by
  rw [chunks_length size, Vector.length_toList]

/-- The entries behind a count byte. -/
theorem entriesOf_table {xs : List α} (few : xs.length < 256) :
    entriesOf (beBytes 1 xs.length ++ (xs.map f).flatten) n = xs.map f := by
  rw [entriesOf, fieldAt_head few]
  refine List.ext_getElem? fun i => ?_
  rw [List.getElem?_map, List.getElem?_map]
  by_cases hi : i < xs.length
  · rw [List.getElem?_range hi, List.getElem?_eq_getElem hi, Option.map_some, Option.map_some,
      slice_past (by rw [beBytes_length]; omega), beBytes_length, Nat.add_sub_cancel_left]
    simpa using slice_chunks size (List.getElem?_eq_getElem hi) []
  · rw [List.getElem?_eq_none (by rw [List.length_range]; omega), List.getElem?_eq_none (Nat.not_lt.1 hi)]
    rfl

end Chunks

/-- A check of every entry of a table read by its number. -/
theorem range_all {n : Nat} {g : Nat → Bool} (h : ∀ i : Fin n, g i.val = true) : (List.range n).all g = true :=
  List.all_eq_true.2 fun i hi => h ⟨i, List.mem_range.1 hi⟩

/-! ### Codes read back (section 9.7) -/

theorem productKindOf_code (k : ProductKind) : productKindOf (productKindCode k) = k := by cases k <;> rfl

theorem productKindCode_le (k : ProductKind) : productKindCode k ≤ 4 := by cases k <;> decide

theorem productKindCode_period {k : ProductKind} (h : productKindCode k = 3) : k = .period := by revert h; cases k <;> decide

theorem periphKindOf_code (k : PeriphKind) : periphKindOf (PeriphKind.code k) = k := by cases k <;> rfl

theorem periphKind_code_range (k : PeriphKind) : 1 ≤ PeriphKind.code k ∧ PeriphKind.code k ≤ 4 := by cases k <;> decide

theorem passVerdictOf_code (v : PassVerdict) : passVerdictOf (passVerdictCode v) = v := by cases v <;> rfl

theorem passVerdictCode_le (v : PassVerdict) : passVerdictCode v ≤ 3 := by cases v <;> decide

theorem dispositionOf_code (d : Disposition) : dispositionOf (dispositionCode d) = d := by cases d <;> rfl

theorem dispositionCode_le (d : Disposition) : dispositionCode d ≤ 2 := by cases d <;> decide

theorem tfieldOf_code (f : TField) : tfieldOf (tfieldCode f) = some f := by cases f <;> rfl

theorem tfieldCode_range (f : TField) : 1 ≤ tfieldCode f ∧ tfieldCode f ≤ 15 := by cases f <;> decide

/-! ### Products, classes, bands and card parameters read back -/

section Entries

/-- The ranges of a product (R199). -/
def ProductFits (x : Product) : Prop :=
  x.name.length = 20 ∧ x.mult ≤ 2048 ∧ x.flat < 65536 ∧ x.days < 256 ∧ (x.kind = .period → 1 ≤ x.days ∧ x.days ≤ 31)

/-- A product's flags byte: its two named bits (log 71). -/
def flagsCode (x : Product) : Nat := (if x.bandExempt then 1 else 0) + (if x.receiptRequired then 2 else 0)

theorem flagsCode_spec (x : Product) :
    flagsCode x < 256 ∧ (flagsCode x).testBit 0 = x.bandExempt ∧ (flagsCode x).testBit 1 = x.receiptRequired := by
  unfold flagsCode
  cases x.bandExempt <;> cases x.receiptRequired <;> decide

theorem productBytes_length (x : Product) : (productBytes x).length = 28 := by
  simp [productBytes, beBytes_length, padText]

/-- The fields of a product's bytes, in the order of section 9.7. -/
theorem productBytes_eq {x : Product} (named : x.name.length = 20) : productBytes x =
    beBytes 1 (productKindCode x.kind) ++ (x.name ++ (beBytes 2 x.mult ++ (beBytes 1 x.classes.toNat ++
      (beBytes 2 x.flat ++ (beBytes 1 x.days ++ beBytes 1 (flagsCode x)))))) := by
  simp only [productBytes, padText_full named, byte_beBytes, flagsCode, List.append_assoc]

theorem productBytes_fields {x : Product} (fits : ProductFits x) :
    fieldAt (productBytes x) 0 1 = productKindCode x.kind ∧ slice (productBytes x) 1 20 = x.name ∧
    fieldAt (productBytes x) 21 2 = x.mult ∧ fieldAt (productBytes x) 23 1 = x.classes.toNat ∧
    fieldAt (productBytes x) 24 2 = x.flat ∧ fieldAt (productBytes x) 26 1 = x.days ∧
    fieldAt (productBytes x) 27 1 = flagsCode x := by
  obtain ⟨named, mult, flat, days, -⟩ := fits
  obtain ⟨flags, -⟩ := flagsCode_spec x
  have kind := productKindCode_le x.kind
  have classes := x.classes.isLt
  rw [productBytes_eq named]
  simp only [fieldAt_past, slice_past, beBytes_length, named, Nat.reduceLeDiff, Nat.reduceSub, Nat.le_refl]
  exact ⟨fieldAt_head (by omega), slice_head named, fieldAt_head (by omega), fieldAt_head (by omega), fieldAt_head (by omega),
    fieldAt_head (by omega), fieldAt_last flags⟩

theorem productOf_productBytes {x : Product} (fits : ProductFits x) : productOf (productBytes x) = x := by
  obtain ⟨kind, name, mult, classes, flat, days, flags⟩ := productBytes_fields fits
  obtain ⟨-, exempt, receipt⟩ := flagsCode_spec x
  simp only [productOf, kind, name, mult, classes, flat, days, flags, exempt, receipt, productKindOf_code, BitVec.ofNat_toNat,
    BitVec.setWidth_eq]

theorem productInRange_productBytes {x : Product} (fits : ProductFits x) : productInRange (productBytes x) = true := by
  obtain ⟨kind, -, mult, -, -, days, -⟩ := productBytes_fields fits
  obtain ⟨-, multFits, -, -, period⟩ := fits
  simp only [productInRange, kind, mult, days, Bool.and_eq_true, Bool.or_eq_true, decide_eq_true_eq]
  exact ⟨⟨productKindCode_le _, multFits⟩, or_iff_not_imp_left.2 fun h => period (productKindCode_period (not_not.1 h))⟩

theorem classBytes_length (x : FareClass) : (classBytes x).length = 14 := by
  simp [classBytes, beBytes_length, padText]

theorem classBytes_fields {x : FareClass} (factor : x.factor ≤ 1024) (named : x.name.length = 12) :
    fieldAt (classBytes x) 0 2 = x.factor ∧ slice (classBytes x) 2 12 = x.name := by
  rw [classBytes, padText_full named]
  refine ⟨fieldAt_head (by omega), ?_⟩
  rw [slice_past (beBytes_length _ _).le, beBytes_length]
  exact List.take_of_length_le named.le

theorem classOf_classBytes {x : FareClass} (factor : x.factor ≤ 1024) (named : x.name.length = 12) :
    classOf (classBytes x) = x := by
  obtain ⟨number, name⟩ := classBytes_fields factor named
  rw [classOf, number, name]

/-- The ranges of a time band (R199). -/
def BandFits (x : Band) : Prop :=
  x.days.toNat < 128 ∧ x.start ≤ 1439 ∧ 1 ≤ x.stop ∧ x.stop ≤ 1440 ∧ x.factor < 65536

theorem bandBytes_length (x : Band) : (bandBytes x).length = 7 := by
  simp [bandBytes, beBytes_length]

theorem bandBytes_fields {x : Band} (fits : BandFits x) :
    fieldAt (bandBytes x) 0 1 = x.days.toNat ∧ fieldAt (bandBytes x) 1 2 = x.start ∧ fieldAt (bandBytes x) 3 2 = x.stop ∧
    fieldAt (bandBytes x) 5 2 = x.factor := by
  obtain ⟨days, start, -, stop, factor⟩ := fits
  have bytes : bandBytes x = beBytes 1 x.days.toNat ++ (beBytes 2 x.start ++ (beBytes 2 x.stop ++ beBytes 2 x.factor)) := by
    simp only [bandBytes, byte_beBytes, List.append_assoc]
  rw [bytes]
  simp only [fieldAt_past, beBytes_length, Nat.reduceLeDiff, Nat.reduceSub, Nat.le_refl]
  exact ⟨fieldAt_head (by omega), fieldAt_head (by omega), fieldAt_head (by omega), fieldAt_last (by omega)⟩

theorem bandOf_bandBytes {x : Band} (fits : BandFits x) : bandOf (bandBytes x) = x := by
  obtain ⟨days, start, stop, factor⟩ := bandBytes_fields fits
  simp only [bandOf, days, start, stop, factor, BitVec.ofNat_toNat, BitVec.setWidth_eq]

theorem bandInRange_bandBytes {x : Band} (fits : BandFits x) : bandInRange (bandBytes x) = true := by
  obtain ⟨days, start, stop, -⟩ := bandBytes_fields fits
  obtain ⟨daysFit, startFits, stopLow, stopHigh, -⟩ := fits
  simp only [bandInRange, days, start, stop, Bool.and_eq_true, decide_eq_true_eq]
  exact ⟨⟨⟨daysFit, startFits⟩, stopLow⟩, stopHigh⟩

/-- The ranges of the card parameters (R199). -/
structure ParamsFit (x : CardParams) : Prop where
  ceiling : x.ceiling ≤ 500000
  topMin : x.topMin ≤ 500000
  topMax : x.topMax ≤ 500000
  topStep : x.topStep ≤ 500000
  daily : x.daily ≤ 500000

theorem paramBytes_length (x : CardParams) : (paramBytes x).length = 20 := by
  simp [paramBytes, beBytes_length]

theorem paramBytes_fields {x : CardParams} (fits : ParamsFit x) :
    fieldAt (paramBytes x) 0 4 = x.ceiling ∧ fieldAt (paramBytes x) 4 4 = x.topMin ∧ fieldAt (paramBytes x) 8 4 = x.topMax ∧
    fieldAt (paramBytes x) 12 4 = x.topStep ∧ fieldAt (paramBytes x) 16 4 = x.daily := by
  obtain ⟨ceiling, topMin, topMax, topStep, daily⟩ := fits
  have bytes : paramBytes x = beBytes 4 x.ceiling ++ (beBytes 4 x.topMin ++ (beBytes 4 x.topMax ++ (beBytes 4 x.topStep ++
      beBytes 4 x.daily))) := by simp only [paramBytes, List.append_assoc]
  rw [bytes]
  simp only [fieldAt_past, beBytes_length, Nat.reduceLeDiff, Nat.reduceSub, Nat.le_refl]
  exact ⟨fieldAt_head (by omega), fieldAt_head (by omega), fieldAt_head (by omega), fieldAt_head (by omega),
    fieldAt_last (by omega)⟩

theorem paramsOf_paramBytes {x : CardParams} (fits : ParamsFit x) : paramsOf (paramBytes x) = x := by
  obtain ⟨ceiling, topMin, topMax, topStep, daily⟩ := paramBytes_fields fits
  rw [paramsOf, ceiling, topMin, topMax, topStep, daily]

theorem paramsInRange_paramBytes {x : CardParams} (fits : ParamsFit x) :
    (List.range 5).all (fun i => decide (fieldAt (paramBytes x) (4 * i) 4 ≤ 500000)) = true := by
  obtain ⟨ceiling, topMin, topMax, topStep, daily⟩ := paramBytes_fields fits
  refine range_all fun i => decide_eq_true ?_
  match i with
  | 0 => exact ceiling.le.trans fits.ceiling
  | 1 => exact topMin.le.trans fits.topMin
  | 2 => exact topMax.le.trans fits.topMax
  | 3 => exact topStep.le.trans fits.topStep
  | 4 => exact daily.le.trans fits.daily

end Entries

/-! ### Templates read back (R131, R132, R199) -/

section Templates

/-- An item as its bytes give it. -/
def rawOf : TItem → RawItem
  | .text t => .text t
  | .mark f => .mark (tfieldCode f)

theorem itemOf_rawOf (x : TItem) : itemOf (rawOf x) = x := by
  cases x with
  | text t => rfl
  | mark f => simp [rawOf, itemOf, tfieldOf_code]

/-- The characters of an item. -/
def itemChars : TItem → Nat
  | .text t => t.length
  | .mark _ => 0

theorem rawItemChars_rawOf (x : TItem) : rawItemChars (rawOf x) = itemChars x := by cases x <;> rfl

/-- The items of a line are read back from their bytes. -/
theorem rawItems_itemBytes {l : List TItem} (short : ∀ t, TItem.text t ∈ l → t.length < 256) {k : Nat}
    (fuel : ((l.map itemBytes).flatten).length ≤ k) : rawItems k (l.map itemBytes).flatten = some (l.map rawOf) := by
  induction l generalizing k with
  | nil => cases k <;> rfl
  | cons x l ih =>
    have rest := fun t ht => short t (List.mem_cons_of_mem x ht)
    rw [List.map_cons, List.flatten_cons, List.length_append] at fuel
    rw [List.map_cons, List.flatten_cons]
    cases k with
    | zero => cases x <;> simp [itemBytes] at fuel
    | succ k =>
      cases x with
      | text t =>
        have length : (BitVec.ofNat 8 t.length).toNat = t.length := beBytes_one_toNat (short t List.mem_cons_self)
        have left : ((l.map itemBytes).flatten).length ≤ k := by
          simp only [itemBytes, beBytes, List.length_cons, List.length_append] at fuel
          omega
        simp [itemBytes, beBytes, rawItems, length, ih rest left, rawOf]
      | mark f =>
        have code : (BitVec.ofNat 8 (tfieldCode f)).toNat = tfieldCode f :=
          beBytes_one_toNat (by have := tfieldCode_range f; omega)
        have left : ((l.map itemBytes).flatten).length ≤ k := by
          simp only [itemBytes, beBytes, List.length_cons] at fuel
          omega
        simp [itemBytes, beBytes, rawItems, code, ih rest left, rawOf]

/-- A line as its bytes give it. -/
def rawLine (l : List TItem) : Nat × List RawItem := (((l.map itemBytes).flatten).length, l.map rawOf)

theorem LineFits.short {l : List TItem} (fits : LineFits l) : ∀ t, TItem.text t ∈ l → t.length < 256 := by
  obtain ⟨-, texts, -⟩ := fits
  intro t ht
  have := texts t ht
  omega

theorem rawLines_lineBytes {ls : List (List TItem)} (fits : ∀ l ∈ ls, LineFits l) :
    rawLines ls.length (ls.map lineBytes).flatten = some (ls.map rawLine) := by
  induction ls with
  | nil => rfl
  | cons l ls ih =>
    obtain ⟨lineFits, restFit⟩ := List.forall_mem_cons.1 fits
    have bytes := lineFits.1
    have count : (BitVec.ofNat 8 ((l.map itemBytes).flatten).length).toNat = ((l.map itemBytes).flatten).length :=
      beBytes_one_toNat (by omega)
    have items := rawItems_itemBytes lineFits.short (Nat.le_refl _)
    rw [List.map_cons, List.flatten_cons, List.length_cons, lineBytes, beBytes, beBytes, pow_zero, Nat.div_one]
    simp only [List.cons_append, List.nil_append, rawLines, count, List.length_append, Nat.le_add_right, if_true,
      List.take_left, List.drop_left, items, ih restFit]
    rfl

theorem rawLineInRange_rawLine {l : List TItem} (fits : LineFits l) : rawLineInRange (rawLine l) = true := by
  obtain ⟨bytes, texts, chars⟩ := fits
  have items : (l.map rawOf).all rawItemInRange = true := by
    refine List.all_eq_true.2 fun y hy => ?_
    obtain ⟨x, hx, rfl⟩ := List.mem_map.1 hy
    cases x with
    | text t => simpa [rawOf, rawItemInRange] using texts t hx
    | mark f => simpa [rawOf, rawItemInRange] using tfieldCode_range f
  have sum : ((l.map rawOf).map rawItemChars).sum ≤ 48 := by
    have same : (l.map rawOf).map rawItemChars = l.map (fun i => match i with | .text x => x.length | .mark _ => 0) := by
      rw [List.map_map]
      refine List.map_congr_left fun x _ => ?_
      cases x <;> rfl
    rwa [same]
  rw [rawLineInRange, rawLine, items, decide_eq_true bytes, decide_eq_true sum]
  rfl

theorem lines_read (ls : List (List TItem)) : (ls.map rawLine).map (fun l => l.2.map itemOf) = ls := by
  have line (l : List TItem) : (rawLine l).2.map itemOf = l := by
    rw [rawLine, List.map_map]
    exact (List.map_congr_left fun x _ => itemOf_rawOf x).trans (List.map_id l)
  rw [List.map_map]
  exact (List.map_congr_left fun l _ => line l).trans (List.map_id ls)

theorem loadTemplate_templateBytes {t : Template} (money : t.money ≤ 3) (few : t.lines.length ≤ 12)
    (fits : ∀ l ∈ t.lines, LineFits l) (i : Fin 8) (c : Bank) :
    loadTemplate i (templateBytes t) c = .ok { c with templates := vset c.templates i t } := by
  have moneyRead : (BitVec.ofNat 8 t.money).toNat = t.money := beBytes_one_toNat (by omega)
  have countRead : (BitVec.ofNat 8 t.lines.length).toNat = t.lines.length := beBytes_one_toNat (by omega)
  have inRange : (t.lines.map rawLine).all rawLineInRange = true := by
    refine List.all_eq_true.2 fun y hy => ?_
    obtain ⟨l, hl, rfl⟩ := List.mem_map.1 hy
    exact rawLineInRange_rawLine (fits l hl)
  rw [templateBytes, beBytes, beBytes, beBytes, beBytes, pow_zero, Nat.div_one, Nat.div_one]
  simp only [List.cons_append, List.nil_append, loadTemplate, moneyRead, countRead, rawLines_lineBytes fits]
  rw [if_pos ⟨money, few, inRange⟩, lines_read]

end Templates

/-! ### The pass table and the event table read back (R181, R199) -/

section Rules

theorem ascending_of_pairwise {xs : List Nat} (h : xs.Pairwise (· < ·)) : ascending xs = true := by
  induction xs with
  | nil => rfl
  | cons x xs ih =>
    cases xs with
    | nil => rfl
    | cons y ys =>
      obtain ⟨first, rest⟩ := List.pairwise_cons.1 h
      rw [ascending, ih rest, decide_eq_true (first y List.mem_cons_self)]
      rfl

/-- The key a rule of a peripheral kind and a code is sorted by. -/
def ruleKey (k : PeriphKind) (code : Byte) : Nat := PeriphKind.code k * 256 + code.toNat

theorem passRuleBytes_length (x : PassRule) : (passRuleBytes x).length = 3 := by
  simp [passRuleBytes, beBytes_length]

theorem passRuleBytes_fields (x : PassRule) : fieldAt (passRuleBytes x) 0 1 = PeriphKind.code x.kind ∧
    fieldAt (passRuleBytes x) 1 1 = x.code.toNat ∧ fieldAt (passRuleBytes x) 2 1 = passVerdictCode x.verdict := by
  have kind := periphKind_code_range x.kind
  have verdict := passVerdictCode_le x.verdict
  have code := x.code.isLt
  have bytes : passRuleBytes x = beBytes 1 (PeriphKind.code x.kind) ++ (beBytes 1 x.code.toNat ++
      beBytes 1 (passVerdictCode x.verdict)) := by simp only [passRuleBytes, byte_beBytes, List.append_assoc]
  rw [bytes]
  simp only [fieldAt_past, beBytes_length, Nat.reduceLeDiff, Nat.reduceSub, Nat.le_refl]
  exact ⟨fieldAt_head (by omega), fieldAt_head (by omega), fieldAt_last (by omega)⟩

theorem passRuleOf_passRuleBytes (x : PassRule) : passRuleOf (passRuleBytes x) = x := by
  obtain ⟨kind, code, verdict⟩ := passRuleBytes_fields x
  simp only [passRuleOf, kind, code, verdict, periphKindOf_code, passVerdictOf_code, BitVec.ofNat_toNat, BitVec.setWidth_eq]

theorem passEntryInRange_passRuleBytes (x : PassRule) : passEntryInRange (passRuleBytes x) = true := by
  obtain ⟨kind, -, verdict⟩ := passRuleBytes_fields x
  obtain ⟨low, high⟩ := periphKind_code_range x.kind
  simp only [passEntryInRange, kind, verdict, Bool.and_eq_true, decide_eq_true_eq]
  exact ⟨⟨low, high⟩, passVerdictCode_le _⟩

theorem entryKey_passRuleBytes (x : PassRule) : entryKey (passRuleBytes x) = ruleKey x.kind x.code := by
  obtain ⟨kind, code, -⟩ := passRuleBytes_fields x
  rw [entryKey, kind, code, ruleKey]

theorem eventRuleBytes_length (x : EventRule) : (eventRuleBytes x).length = 4 := by
  simp [eventRuleBytes, beBytes_length]

theorem eventRuleBytes_fields {x : EventRule} (cls : x.cls ≤ 3) : fieldAt (eventRuleBytes x) 0 1 = PeriphKind.code x.kind ∧
    fieldAt (eventRuleBytes x) 1 1 = x.code.toNat ∧ fieldAt (eventRuleBytes x) 2 1 = dispositionCode x.disp ∧
    fieldAt (eventRuleBytes x) 3 1 = x.cls := by
  have kind := periphKind_code_range x.kind
  have disp := dispositionCode_le x.disp
  have code := x.code.isLt
  have bytes : eventRuleBytes x = beBytes 1 (PeriphKind.code x.kind) ++ (beBytes 1 x.code.toNat ++
      (beBytes 1 (dispositionCode x.disp) ++ beBytes 1 x.cls)) := by
    simp only [eventRuleBytes, byte_beBytes, List.append_assoc]
  rw [bytes]
  simp only [fieldAt_past, beBytes_length, Nat.reduceLeDiff, Nat.reduceSub, Nat.le_refl]
  exact ⟨fieldAt_head (by omega), fieldAt_head (by omega), fieldAt_head (by omega), fieldAt_last (by omega)⟩

theorem eventRuleOf_eventRuleBytes {x : EventRule} (cls : x.cls ≤ 3) : eventRuleOf (eventRuleBytes x) = x := by
  obtain ⟨kind, code, disp, clsRead⟩ := eventRuleBytes_fields cls
  simp only [eventRuleOf, kind, code, disp, clsRead, periphKindOf_code, dispositionOf_code, BitVec.ofNat_toNat,
    BitVec.setWidth_eq]

theorem eventEntryInRange_eventRuleBytes {x : EventRule} (cls : x.cls ≤ 3) : eventEntryInRange (eventRuleBytes x) = true := by
  obtain ⟨kind, -, disp, clsRead⟩ := eventRuleBytes_fields cls
  obtain ⟨low, high⟩ := periphKind_code_range x.kind
  simp only [eventEntryInRange, kind, disp, clsRead, Bool.and_eq_true, decide_eq_true_eq]
  exact ⟨⟨⟨low, high⟩, dispositionCode_le _⟩, cls⟩

theorem entryKey_eventRuleBytes {x : EventRule} (cls : x.cls ≤ 3) : entryKey (eventRuleBytes x) = ruleKey x.kind x.code := by
  obtain ⟨kind, code, -⟩ := eventRuleBytes_fields cls
  rw [entryKey, kind, code, ruleKey]

/-- Entries whose keys ascend pass the order check of a load. -/
theorem entries_ascending {α : Type} {f : α → List Byte} {key : α → Nat} {xs : List α}
    (keys : ∀ x ∈ xs, entryKey (f x) = key x) (sorted : xs.Pairwise (fun x y => key x < key y)) :
    ascending ((xs.map f).map entryKey) = true := by
  rw [List.map_map, show xs.map (entryKey ∘ f) = xs.map key from List.map_congr_left keys]
  exact ascending_of_pairwise (List.pairwise_map.2 sorted)

/-- What is read from entries, entry by entry. -/
theorem entries_read {α : Type} {f : α → List Byte} {g : List Byte → α} {xs : List α} (read : ∀ x ∈ xs, g (f x) = x) :
    (xs.map f).map g = xs := by
  rw [List.map_map]
  exact (List.map_congr_left read).trans (List.map_id xs)

theorem entries_all {α : Type} {f : α → List Byte} {g : List Byte → Bool} {xs : List α} (h : ∀ x ∈ xs, g (f x) = true) :
    (xs.map f).all g = true := by
  refine List.all_eq_true.2 fun y hy => ?_
  obtain ⟨x, hx, rfl⟩ := List.mem_map.1 hy
  exact h x hx

theorem loadPassTable_passTableBytes {rs : List PassRule} (few : rs.length ≤ 64)
    (sorted : rs.Pairwise (fun x y => ruleKey x.kind x.code < ruleKey y.kind y.code)) (c : Bank) :
    loadPassTable (passTableBytes rs) c = .ok { c with pass := rs } := by
  have count : fieldAt (passTableBytes rs) 0 1 = rs.length := fieldAt_head (by omega)
  have length : (passTableBytes rs).length = 1 + 3 * rs.length := by
    rw [passTableBytes, List.length_append, beBytes_length, chunks_length passRuleBytes_length]
  have filled : passTableBytes rs ≠ [] := List.ne_nil_of_length_pos (by omega)
  have entries : entriesOf (passTableBytes rs) 3 = rs.map passRuleBytes :=
    entriesOf_table passRuleBytes_length (by omega)
  have inRange := entries_all (xs := rs) fun x _ => passEntryInRange_passRuleBytes x
  have inOrder := entries_ascending (fun x _ => entryKey_passRuleBytes x) sorted
  unfold loadPassTable
  rw [count, if_neg (by simp [length, filled]), entries]
  dsimp only
  rw [if_neg (by simpa [inRange] using few), if_pos inOrder, entries_read fun x _ => passRuleOf_passRuleBytes x]

theorem loadEventTable_eventTableBytes {rs : List EventRule} (few : rs.length ≤ 64) (classes : ∀ x ∈ rs, x.cls ≤ 3)
    (sorted : rs.Pairwise (fun x y => ruleKey x.kind x.code < ruleKey y.kind y.code)) (c : Bank) :
    loadEventTable (eventTableBytes rs) c = .ok { c with events := rs } := by
  have count : fieldAt (eventTableBytes rs) 0 1 = rs.length := fieldAt_head (by omega)
  have length : (eventTableBytes rs).length = 1 + 4 * rs.length := by
    rw [eventTableBytes, List.length_append, beBytes_length, chunks_length eventRuleBytes_length]
  have filled : eventTableBytes rs ≠ [] := List.ne_nil_of_length_pos (by omega)
  have entries : entriesOf (eventTableBytes rs) 4 = rs.map eventRuleBytes :=
    entriesOf_table eventRuleBytes_length (by omega)
  have inRange := entries_all fun x hx => eventEntryInRange_eventRuleBytes (classes x hx)
  have inOrder := entries_ascending (fun x hx => entryKey_eventRuleBytes (classes x hx)) sorted
  unfold loadEventTable
  rw [count, if_neg (by simp [length, filled]), entries]
  dsimp only
  rw [if_neg (by simpa [inRange] using few), if_pos inOrder,
    entries_read fun x hx => eventRuleOf_eventRuleBytes (classes x hx)]

end Rules

/-! ### The tables of a bank loaded as they are read (R199, R200) -/

section LoadInto
variable (body : List Byte) (c : Bank)

theorem loadInto_matrix : loadInto 1 0 body c =
    if body.length ≠ 512 then .error .badLength
    else .ok { c with matrix := vtab (fun i => fieldAt body (2 * i.val) 2) } := rfl

theorem loadInto_products : loadInto 2 0 body c =
    if body.length ≠ 896 then .error .badLength
    else if (List.range 32).all (fun i => productInRange (slice body (28 * i) 28)) then
      .ok { c with products := vtab (fun i => productOf (slice body (28 * i.val) 28)) }
    else .error .range := rfl

theorem loadInto_classes : loadInto 3 0 body c =
    if body.length ≠ 112 then .error .badLength
    else if (List.range 8).all (fun i => decide (fieldAt body (14 * i) 2 ≤ 1024)) then
      .ok { c with classes := vtab (fun i => classOf (slice body (14 * i.val) 14)) }
    else .error .range := rfl

theorem loadInto_bands : loadInto 4 0 body c =
    if body.length ≠ 56 then .error .badLength
    else if (List.range 8).all (fun i => bandInRange (slice body (7 * i) 7)) then
      .ok { c with bands := vtab (fun i => bandOf (slice body (7 * i.val) 7)) }
    else .error .range := rfl

theorem loadInto_ceiling : loadInto 5 0 body c =
    if body.length ≠ 2 then .error .badLength else .ok { c with ceiling := fieldAt body 0 2 } := rfl

theorem loadInto_params : loadInto 6 0 body c =
    if body.length ≠ 20 then .error .badLength
    else if (List.range 5).all (fun i => decide (fieldAt body (4 * i) 4 ≤ 500000)) then .ok { c with params := paramsOf body }
    else .error .range := rfl

end LoadInto

section Tables
variable {b : Bank} (c : Bank)

theorem matrix_loads (fits : ∀ i, vget b.matrix i < 65536) :
    loadInto 1 0 (matrixBytes b) c = .ok { c with matrix := b.matrix } := by
  have length : (matrixBytes b).length = 512 := vector_length (beBytes_length 2) b.matrix
  have read (i : Fin 256) : fieldAt (matrixBytes b) (2 * i.val) 2 = vget b.matrix i := by
    rw [fieldAt_slice, matrixBytes, slice_entry_all (beBytes_length 2), beNat_beBytes]
    exact Nat.mod_eq_of_lt (fits i)
  rw [loadInto_matrix, if_neg (not_not.2 length), vtab_of_entries read]

theorem products_load (fits : ∀ i, ProductFits (vget b.products i)) :
    loadInto 2 0 (b.products.toList.map productBytes).flatten c = .ok { c with products := b.products } := by
  have length := vector_length productBytes_length b.products
  have entry := slice_entry_all productBytes_length b.products
  have inRange : (List.range 32).all (fun i => productInRange (slice (b.products.toList.map productBytes).flatten (28 * i) 28))
      = true := range_all fun i => by rw [entry, productInRange_productBytes (fits i)]
  have read (i : Fin 32) : productOf (slice (b.products.toList.map productBytes).flatten (28 * i.val) 28) =
      vget b.products i := by rw [entry, productOf_productBytes (fits i)]
  rw [loadInto_products, if_neg (not_not.2 length), if_pos inRange, vtab_of_entries read]

theorem classes_load (fits : ∀ i, (vget b.classes i).factor ≤ 1024 ∧ (vget b.classes i).name.length = 12) :
    loadInto 3 0 (b.classes.toList.map classBytes).flatten c = .ok { c with classes := b.classes } := by
  have length := vector_length classBytes_length b.classes
  have entry := slice_entry_all classBytes_length b.classes
  have factor (i : Fin 8) : fieldAt (b.classes.toList.map classBytes).flatten (14 * i.val) 2 = (vget b.classes i).factor := by
    have number := (classBytes_fields (fits i).1 (fits i).2).1
    rwa [← entry, fieldAt, slice, List.drop_zero, List.take_take, ← fieldAt] at number
  have inRange : (List.range 8).all (fun i => decide (fieldAt (b.classes.toList.map classBytes).flatten (14 * i) 2 ≤ 1024))
      = true := range_all fun i => by rw [factor]; exact decide_eq_true (fits i).1
  have read (i : Fin 8) : classOf (slice (b.classes.toList.map classBytes).flatten (14 * i.val) 14) = vget b.classes i := by
    rw [entry, classOf_classBytes (fits i).1 (fits i).2]
  rw [loadInto_classes, if_neg (not_not.2 length), if_pos inRange, vtab_of_entries read]

theorem bands_load (fits : ∀ i, BandFits (vget b.bands i)) :
    loadInto 4 0 (b.bands.toList.map bandBytes).flatten c = .ok { c with bands := b.bands } := by
  have length := vector_length bandBytes_length b.bands
  have entry := slice_entry_all bandBytes_length b.bands
  have inRange : (List.range 8).all (fun i => bandInRange (slice (b.bands.toList.map bandBytes).flatten (7 * i) 7)) = true :=
    range_all fun i => by rw [entry, bandInRange_bandBytes (fits i)]
  have read (i : Fin 8) : bandOf (slice (b.bands.toList.map bandBytes).flatten (7 * i.val) 7) = vget b.bands i := by
    rw [entry, bandOf_bandBytes (fits i)]
  rw [loadInto_bands, if_neg (not_not.2 length), if_pos inRange, vtab_of_entries read]

theorem ceiling_loads (fits : b.ceiling < 65536) :
    loadInto 5 0 (beBytes 2 b.ceiling) c = .ok { c with ceiling := b.ceiling } := by
  rw [loadInto_ceiling, if_neg (not_not.2 (beBytes_length _ _)), fieldAt_last fits]

theorem params_load (fits : ParamsFit b.params) :
    loadInto 6 0 (paramBytes b.params) c = .ok { c with params := b.params } := by
  rw [loadInto_params, if_neg (not_not.2 (paramBytes_length _)), if_pos (paramsInRange_paramBytes fits), paramsOf_paramBytes fits]

theorem template_loads (i : Fin 8) (money : (vget b.templates i).money ≤ 3) (few : (vget b.templates i).lines.length ≤ 12)
    (fits : ∀ l ∈ (vget b.templates i).lines, LineFits l) :
    ∃ bs, tableBytes b 7 i.val = some bs ∧
      loadInto 7 i.val bs c = .ok { c with templates := vset c.templates i (vget b.templates i) } := by
  have index : toFin? 8 i.val = some i := dif_pos i.isLt
  refine ⟨templateBytes (vget b.templates i), ?_, ?_⟩
  · unfold tableBytes
    rw [if_pos rfl, index, Option.map_some]
  · unfold loadInto
    rw [if_pos rfl, index]
    exact loadTemplate_templateBytes money few fits i c

end Tables

/-! ### The cash tables read back (R207) -/

section Cash

/-- The ranges of a coin type (R207). -/
def CoinTypeFits (x : CoinType) : Prop :=
  x.value ≤ 50000 ∧ x.diaLo ≤ 1023 ∧ x.diaHi ≤ 1023 ∧ x.thickLo ≤ 1023 ∧ x.thickHi ≤ 1023 ∧ x.matLo ≤ 1023 ∧
  x.matHi ≤ 1023 ∧ x.noise ≤ 255

/-- An index, or none, in one byte (section 9.7). -/
def indexCode {n : Nat} : Option (Fin n) → Nat
  | none => 255
  | some i => i.val

theorem indexCode_spec {n : Nat} (small : n ≤ 255) (x : Option (Fin n)) : toFin? n (indexCode x) = x ∧
    (indexCode x < n ∨ indexCode x = 255) := by
  cases x with
  | none => exact ⟨dif_neg (Nat.not_lt.2 small), .inr rfl⟩
  | some i => exact ⟨dif_pos i.isLt, .inl i.isLt⟩

theorem coinTypeBytes_length (x : CoinType) : (coinTypeBytes x).length = 17 := by
  unfold coinTypeBytes
  cases x.route <;> simp [beBytes_length]

/-- The fields of a coin type's bytes, in the order of section 9.7. -/
theorem coinTypeBytes_eq (x : CoinType) : coinTypeBytes x = beBytes 2 x.value ++ (beBytes 2 x.diaLo ++ (beBytes 2 x.diaHi ++
    (beBytes 2 x.thickLo ++ (beBytes 2 x.thickHi ++ (beBytes 2 x.matLo ++ (beBytes 2 x.matHi ++ (beBytes 1 x.noise ++
    (beBytes 1 (if x.strict then 1 else 0) ++ beBytes 1 (indexCode x.route))))))))) := by
  simp only [coinTypeBytes, List.append_assoc]
  cases x.route <;> rfl

structure CoinTypeFields (x : CoinType) (bs : List Byte) : Prop where
  value : fieldAt bs 0 2 = x.value
  diaLo : fieldAt bs 2 2 = x.diaLo
  diaHi : fieldAt bs 4 2 = x.diaHi
  thickLo : fieldAt bs 6 2 = x.thickLo
  thickHi : fieldAt bs 8 2 = x.thickHi
  matLo : fieldAt bs 10 2 = x.matLo
  matHi : fieldAt bs 12 2 = x.matHi
  noise : fieldAt bs 14 1 = x.noise
  strict : fieldAt bs 15 1 = if x.strict then 1 else 0
  route : fieldAt bs 16 1 = indexCode x.route

theorem coinTypeBytes_fields {x : CoinType} (fits : CoinTypeFits x) : CoinTypeFields x (coinTypeBytes x) := by
  obtain ⟨value, diaLo, diaHi, thickLo, thickHi, matLo, matHi, noise⟩ := fits
  obtain ⟨-, route⟩ := indexCode_spec (by decide) x.route
  rw [coinTypeBytes_eq]
  constructor
  case value => exact fieldAt_head (by omega)
  all_goals simp only [fieldAt_past, beBytes_length, Nat.reduceLeDiff, Nat.reduceSub, Nat.le_refl]
  case strict => exact fieldAt_head (by split <;> decide)
  case route => exact fieldAt_last (by omega)
  all_goals exact fieldAt_head (by omega)

theorem coinTypeOf_coinTypeBytes {x : CoinType} (fits : CoinTypeFits x) : coinTypeOf (coinTypeBytes x) = x := by
  obtain ⟨value, diaLo, diaHi, thickLo, thickHi, matLo, matHi, noise, strict, route⟩ := coinTypeBytes_fields fits
  obtain ⟨index, -⟩ := indexCode_spec (by decide) x.route
  have flag : decide ((if x.strict then 1 else 0) = 1) = x.strict := by cases x.strict <;> rfl
  simp only [coinTypeOf, value, diaLo, diaHi, thickLo, thickHi, matLo, matHi, noise, strict, route, index, flag]

theorem coinTypeInRange_coinTypeBytes {x : CoinType} (fits : CoinTypeFits x) : coinTypeInRange (coinTypeBytes x) = true := by
  have fields := coinTypeBytes_fields fits
  obtain ⟨value, diaLo, diaHi, thickLo, thickHi, matLo, matHi, -⟩ := fits
  obtain ⟨-, route⟩ := indexCode_spec (by decide) x.route
  have flag : (if x.strict then 1 else 0) ≤ 1 := by cases x.strict <;> decide
  simp only [coinTypeInRange, fields.value, fields.diaLo, fields.diaHi, fields.thickLo, fields.thickHi, fields.matLo,
    fields.matHi, fields.strict, fields.route, Bool.and_eq_true, Bool.or_eq_true, decide_eq_true_eq]
  exact ⟨⟨⟨⟨⟨⟨⟨⟨value, diaLo⟩, diaHi⟩, thickLo⟩, thickHi⟩, matLo⟩, matHi⟩, flag⟩, route.imp_left Nat.le_of_lt_succ⟩

/-- The ranges of a tube's configuration (R207). -/
def TubeConfigFits (x : TubeConfig) : Prop :=
  10 ≤ x.capacity ∧ x.capacity ≤ 250 ∧ 1 ≤ x.perStep ∧ x.perStep ≤ 8 ∧ x.tolerance ≤ 20

theorem tubeConfigBytes_length (x : TubeConfig) : (tubeConfigBytes x).length = 4 := by
  unfold tubeConfigBytes
  cases x.ctype <;> simp [beBytes_length]

theorem tubeConfigBytes_fields {x : TubeConfig} (fits : TubeConfigFits x) :
    fieldAt (tubeConfigBytes x) 0 1 = indexCode x.ctype ∧ fieldAt (tubeConfigBytes x) 1 1 = x.capacity ∧
    fieldAt (tubeConfigBytes x) 2 1 = x.perStep ∧ fieldAt (tubeConfigBytes x) 3 1 = x.tolerance := by
  obtain ⟨-, capacity, -, perStep, tolerance⟩ := fits
  obtain ⟨-, ctype⟩ := indexCode_spec (by decide) x.ctype
  have bytes : tubeConfigBytes x = beBytes 1 (indexCode x.ctype) ++ (beBytes 1 x.capacity ++ (beBytes 1 x.perStep ++
      beBytes 1 x.tolerance)) := by
    simp only [tubeConfigBytes, List.append_assoc]
    cases x.ctype <;> rfl
  rw [bytes]
  simp only [fieldAt_past, beBytes_length, Nat.reduceLeDiff, Nat.reduceSub, Nat.le_refl]
  exact ⟨fieldAt_head (by omega), fieldAt_head (by omega), fieldAt_head (by omega), fieldAt_last (by omega)⟩

theorem tubeConfigOf_tubeConfigBytes {x : TubeConfig} (fits : TubeConfigFits x) : tubeConfigOf (tubeConfigBytes x) = x := by
  obtain ⟨ctype, capacity, perStep, tolerance⟩ := tubeConfigBytes_fields fits
  obtain ⟨index, -⟩ := indexCode_spec (by decide) x.ctype
  simp only [tubeConfigOf, ctype, capacity, perStep, tolerance, index]

theorem tubeConfigInRange_tubeConfigBytes {x : TubeConfig} (fits : TubeConfigFits x) :
    tubeConfigInRange (tubeConfigBytes x) = true := by
  obtain ⟨ctype, capacity, perStep, tolerance⟩ := tubeConfigBytes_fields fits
  obtain ⟨low, high, few, many, off⟩ := fits
  obtain ⟨-, index⟩ := indexCode_spec (by decide) x.ctype
  simp only [tubeConfigInRange, ctype, capacity, perStep, tolerance, Bool.and_eq_true, Bool.or_eq_true, decide_eq_true_eq]
  exact ⟨⟨⟨⟨⟨index.imp_left Nat.le_of_lt_succ, low⟩, high⟩, few⟩, many⟩, off⟩

variable {t : CashTables}

/-- The eight coin types, the six tubes, the unit and the box limit, in the order of section 9.7. -/
theorem cashBytes_eq (t : CashTables) : cashBytes t = (t.types.toList.map coinTypeBytes).flatten ++
    ((t.tubes.toList.map tubeConfigBytes).flatten ++ (beBytes 1 t.unit ++ beBytes 2 t.limit)) := by
  simp only [cashBytes, List.append_assoc]

theorem cashBytes_length (t : CashTables) : (cashBytes t).length = 163 := by
  simp only [cashBytes_eq, List.length_append, vector_length coinTypeBytes_length, vector_length tubeConfigBytes_length,
    beBytes_length]

theorem cashBytes_type (t : CashTables) (i : Fin 8) : slice (cashBytes t) (17 * i.val) 17 = coinTypeBytes (vget t.types i) := by
  rw [cashBytes_eq, slice_entry coinTypeBytes_length]

theorem cashBytes_tube (t : CashTables) (i : Fin 6) :
    slice (cashBytes t) (136 + 4 * i.val) 4 = tubeConfigBytes (vget t.tubes i) := by
  have types : ((t.types.toList.map coinTypeBytes).flatten).length = 136 := vector_length coinTypeBytes_length t.types
  rw [cashBytes_eq, slice_past (by omega), types, Nat.add_sub_cancel_left, slice_entry tubeConfigBytes_length]

theorem cashBytes_figures (unit : t.unit ≤ 100) (limit : t.limit ≤ 2000) :
    fieldAt (cashBytes t) 160 1 = t.unit ∧ fieldAt (cashBytes t) 161 2 = t.limit := by
  rw [cashBytes_eq]
  simp only [fieldAt_past, vector_length coinTypeBytes_length, vector_length tubeConfigBytes_length, beBytes_length,
    Nat.reduceMul, Nat.reduceLeDiff, Nat.reduceSub, Nat.le_refl]
  exact ⟨fieldAt_head (by omega), fieldAt_last (by omega)⟩

theorem cashOf_cashBytes (fits : CashFits t) : cashOf (cashBytes t) = t := by
  obtain ⟨types, tubes, -, unit, -, limit⟩ := fits
  obtain ⟨unitRead, limitRead⟩ := cashBytes_figures unit limit
  have typesRead : vtab (fun i => coinTypeOf (slice (cashBytes t) (17 * i.val) 17)) = t.types :=
    vtab_of_entries fun i => by rw [cashBytes_type, coinTypeOf_coinTypeBytes (types i)]
  have tubesRead : vtab (fun i => tubeConfigOf (slice (cashBytes t) (136 + 4 * i.val) 4)) = t.tubes :=
    vtab_of_entries fun i => by rw [cashBytes_tube, tubeConfigOf_tubeConfigBytes (tubes i)]
  rw [cashOf, typesRead, tubesRead, unitRead, limitRead]

theorem cashInRange_cashBytes (fits : CashFits t) : cashInRange (cashBytes t) = true := by
  obtain ⟨types, tubes, unitLow, unit, limitLow, limit⟩ := fits
  obtain ⟨unitRead, limitRead⟩ := cashBytes_figures unit limit
  have typesFit : eights.all (fun i => coinTypeInRange (slice (cashBytes t) (17 * i.val) 17)) = true :=
    List.all_eq_true.2 fun i _ => by rw [cashBytes_type, coinTypeInRange_coinTypeBytes (types i)]
  have tubesFit : sixes.all (fun i => tubeConfigInRange (slice (cashBytes t) (136 + 4 * i.val) 4)) = true :=
    List.all_eq_true.2 fun i _ => by rw [cashBytes_tube, tubeConfigInRange_tubeConfigBytes (tubes i)]
  rw [cashInRange, typesFit, tubesFit, unitRead, limitRead, decide_eq_true unitLow, decide_eq_true unit,
    decide_eq_true limitLow, decide_eq_true limit]
  rfl

end Cash
end Sys2Proof.Machine

namespace Sys2Proof.Proofs
open Sys2Proof Sys2Proof.Machine

/-- Settles O24: the nine tables of a bank, entry by entry, and the cash tables. -/
theorem tablesLoadAsRead : Obligations.TablesLoadAsRead := by
  refine ⟨fun b c => ⟨fun fits => ⟨_, rfl, matrix_loads c fits⟩, fun fits => ⟨_, rfl, products_load c fits⟩,
    fun fits => ⟨_, rfl, classes_load c fits⟩, fun fits => ⟨_, rfl, bands_load c fits⟩,
    fun fits => ⟨_, rfl, ceiling_loads c fits⟩,
    fun ceiling topMin topMax topStep daily => ⟨_, rfl, params_load c ⟨ceiling, topMin, topMax, topStep, daily⟩⟩,
    fun i => template_loads c i, fun few sorted => ⟨_, rfl, loadPassTable_passTableBytes few sorted c⟩,
    fun few classes sorted => ⟨_, rfl, loadEventTable_eventTableBytes few classes sorted c⟩⟩, fun t fits => ?_⟩
  exact ⟨cashBytes_length t, cashOf_cashBytes fits, cashInRange_cashBytes fits⟩

end Sys2Proof.Proofs

namespace Sys2Proof.Machine

/-! ### The queue of waiting commands (log 2)

No meaning touches the queue. An update of one block, an answer and a notice keep it by unfolding, so a lemma stands here for each
operation that branches, and for a few that a large proof would otherwise unfold; what the session controllers and the serving of
the link leave alone is known from `Controls` and `unserved`. -/

/-- The queue of waiting commands is as it was. -/
def SameQueue (s t : State) : Prop := t.pending = s.pending

section Queue
variable {s t u : State} {p : Position} {a : Addr} {busy : Bool}

theorem SameQueue.refl (s : State) : SameQueue s s := rfl

theorem SameQueue.controls (h : SameQueue s t) (c : Controls t u) : SameQueue s u := (congrArg State.pending c.aside).trans h

theorem SameQueue.controlled (h : SameQueue s t) (c : Controlled p t u) : SameQueue s u := h.controls c.controls

theorem SameQueue.unserved (h : SameQueue s t) (e : unserved u = unserved t) : SameQueue s u :=
  (congrArg Unserved.pending e).trans h

theorem sameQueue_ite {c : Prop} [Decidable c] (ht : SameQueue s t) (hu : SameQueue s u) :
    SameQueue s (if c then t else u) := by
  split
  · exact ht
  · exact hu

theorem foldl_sameQueue {α : Type} {f : State → α → State} (hf : ∀ {t x}, SameQueue s t → SameQueue s (f t x)) :
    ∀ {xs : List α} {t : State}, SameQueue s t → SameQueue s (xs.foldl f t) := by
  intro xs
  induction xs with
  | nil => exact id
  | cons x xs ih => exact fun h => ih (hf h)

/-! #### The shared operations and the change store -/

theorem finish_sameQueue (h : SameQueue s t) : SameQueue s (finish t) := (finish_pending t).trans h

theorem masks_sameQueue {rise : Option Rise} (h : SameQueue s t) : SameQueue s (masks rise t) := (masks_pending rise t).trans h

theorem arbitrate_sameQueue (h : SameQueue s t) : SameQueue s (arbitrate busy t) := (arbitrate_pending busy t).trans h

theorem notify_sameQueue {ch : Nat} {b : NoticeBody} (h : SameQueue s t) : SameQueue s (notify ch b t) := h

theorem settle_sameQueue (h : SameQueue s t) : SameQueue s (settle busy t) := (settle_pending busy t).trans h

theorem served_sameQueue (h : SameQueue s t) : SameQueue s (served busy t) := settle_sameQueue (masks_sameQueue h)

theorem raiseFault_sameQueue {f : Flag} (h : SameQueue s t) : SameQueue s (raiseFault a f t) := (raiseFault_pending a f t).trans h

theorem append_sameQueue {pos : Option Position} {b : RecordBody} (h : SameQueue s t) : SameQueue s (append pos b t) :=
  (append_pending pos b t).trans h

theorem sortEvent_sameQueue {c : Byte} {d : EventData} {r : PartResult} (h : SameQueue s t) :
    SameQueue s (sortEvent a c d r t) := h.controls (sortEvent_controls a c d r t)

theorem handTickets_sameQueue {r : State × TicketEnds} (h : SameQueue s r.1) : SameQueue s (handTickets r) :=
  h.controls (handTickets_controls r)

theorem activationWatch_sameQueue (h : SameQueue s t) : SameQueue s (activationWatch t) := by
  obtain e | ⟨x, -, late, e⟩ := activationWatch_cases t <;> rw [e]
  · exact h
  · exact append_sameQueue (t := onFare _ t) h

theorem fixChange_sameQueue {n : Nat} (h : SameQueue s t) : SameQueue s (fixChange p n t) := by
  unfold fixChange
  exact sameQueue_ite h (sameQueue_ite h h)

theorem countBox_sameQueue {c : Fin 8} {v : Nat} (h : SameQueue s t) : SameQueue s (countBox c v t) := by
  unfold countBox
  exact sameQueue_ite (raiseFault_sameQueue h) h

theorem countCoin_sameQueue {c : Fin 8} {v : Nat} {d : Dest} (h : SameQueue s t) : SameQueue s (countCoin c v d t) := by
  unfold countCoin
  split
  · exact countBox_sameQueue h
  · exact sameQueue_ite h (countBox_sameQueue h)

theorem payCoins_sameQueue {i : Fin 6} {k : Nat} (h : SameQueue s t) : SameQueue s (payCoins p i k t) := by
  unfold payCoins
  exact sameQueue_ite h h

theorem jam_sameQueue {i : Fin 6} {k : Nat} (h : SameQueue s t) : SameQueue s (jam p i k t) :=
  raiseFault_sameQueue (t := onTube i _ (payCoins p i k t)) (payCoins_sameQueue h)

theorem payoutOn_sameQueue (h : SameQueue s t) : SameQueue s (payoutOn p t) := h.controlled (payoutOn_controlled (.refl p t))

theorem dispenseJam_sameQueue {d : Dispense} (h : SameQueue s t) : SameQueue s (dispenseJam d t) :=
  payoutOn_sameQueue (jam_sameQueue h)

theorem payoutDone_sameQueue {i : Fin 6} {n : Nat} (h : SameQueue s t) : SameQueue s (payoutDone i n t).1 := by
  unfold payoutDone
  split
  · exact raiseFault_sameQueue h
  · split
    · exact payoutOn_sameQueue (jam_sameQueue h)
    · exact payoutOn_sameQueue (sameQueue_ite (raiseFault_sameQueue (payCoins_sameQueue h)) (payCoins_sameQueue h))

theorem payoutJam_sameQueue {i : Fin 6} {k : Nat} (h : SameQueue s t) : SameQueue s (payoutJam i k t).1 := by
  unfold payoutJam
  split
  · exact raiseFault_sameQueue h
  · split
    · exact raiseFault_sameQueue h
    · exact payoutOn_sameQueue (jam_sameQueue h)

theorem writeOff_sameQueue {i : Fin 6} (h : SameQueue s t) : SameQueue s (writeOff i t) := by
  unfold writeOff
  exact sameQueue_ite h h

theorem gauge_sameQueue {i : Fin 6} {g : BitVec 6} {parity : Bool} (h : SameQueue s t) : SameQueue s (gauge i g parity t).1 := by
  unfold gauge
  split
  · exact h
  · split
    · exact raiseFault_sameQueue h
    · split
      · exact h
      · dsimp only
        split
        · exact writeOff_sameQueue (t := onTube i _ t) h
        · exact h

theorem boxState_sameQueue {present : Bool} (h : SameQueue s t) : SameQueue s (boxState present t).1 := by
  unfold boxState
  dsimp only
  split
  · exact h
  · split <;> exact append_sameQueue h

/-! #### The coin classifier -/

theorem coinAtGate_sameQueue {q : Byte} {r : GateReading} (h : SameQueue s t) : SameQueue s (coinAtGate p q r t).1 := by
  have accepted {c : Fin 8} {d : Dest} {plan : Option (Plan × Nat)} : SameQueue s (acceptCoin p q c d plan t) := by
    unfold acceptCoin
    dsimp only
    split <;> exact h
  unfold coinAtGate
  split
  · exact h
  · split
    · exact h
    · split
      · exact h
      · exact accepted

theorem reviewPlan_sameQueue (h : SameQueue s t) : SameQueue s (reviewPlan p t) := by
  unfold reviewPlan
  split
  · exact h
  · split
    · exact h
    · split <;> exact h

theorem dropEntry_sameQueue {e : Outstanding} (h : SameQueue s t) : SameQueue s (dropEntry p e t) := by
  unfold dropEntry
  exact sameQueue_ite (reviewPlan_sameQueue (t := removeEntry p e.seq t) h) h

theorem listMoved_sameQueue (h : SameQueue s t) : SameQueue s (listMoved p t) := h.controlled (listMoved_controlled (.refl p t))

theorem coinReturned_sameQueue {q : Byte} {r : ReturnReason} (h : SameQueue s t) : SameQueue s (coinReturned p q r t).1 := by
  unfold coinReturned
  dsimp only
  split
  · exact h
  · exact listMoved_sameQueue (dropEntry_sameQueue (t := countReturn p r t) h)

/-! #### Writes and issuing -/

theorem settleEntry_sameQueue {e : Fin 4} (h : SameQueue s t) : SameQueue s (settleEntry e t) := by
  unfold settleEntry
  split <;> exact h

theorem handedDone_sameQueue {x : CardImage} {n : Nat} (h : SameQueue s t) : SameQueue s (handedDone p x n t) :=
  h.controls (handedDone_controls p x n t)

theorem handedNotDone_sameQueue {r : WriteFault} (h : SameQueue s t) : SameQueue s (handedNotDone p r t) :=
  h.controlled (handedNotDone_controlled (.refl p t))

theorem notCredited_sameQueue (h : SameQueue s t) : SameQueue s (notCredited p t) :=
  h.controlled (notCredited_controlled (.refl p t))

theorem wantEnd_sameQueue (h : SameQueue s t) : SameQueue s (wantEnd p t) := h.controlled (wantEnd_controlled (.refl p t))

theorem endUnwritten_sameQueue {r : EndReason} (h : SameQueue s t) : SameQueue s (endUnwritten p r t) := by
  unfold endUnwritten
  dsimp only
  split
  · exact SameQueue.controlled (t := setEnd p r (onSess p _ t)) h (enterPayingOut_controlled (.refl p _))
  · exact wantEnd_sameQueue (t := setEnd p r (onSess p _ t)) h

theorem askWrite_sameQueue (h : SameQueue s t) : SameQueue s (askWrite p t) := by
  unfold askWrite
  dsimp only
  split
  · exact sameQueue_ite (handedNotDone_sameQueue h) (sameQueue_ite (handedNotDone_sameQueue h) h)
  · exact handedNotDone_sameQueue h

theorem enterIssuing_sameQueue {r : ChangeReason} (h : SameQueue s t) : SameQueue s (enterIssuing p r t) := by
  have entered {f : Session → Session} : SameQueue s (enter p .issuing r (onSess p f t)) := h
  unfold enterIssuing
  exact sameQueue_ite (askWrite_sameQueue entered) (entered.controls (ticketStep_controls p _))

theorem creditCoin_sameQueue {v : Nat} (h : SameQueue s t) : SameQueue s (creditCoin p v t) := by
  unfold creditCoin
  dsimp only
  split
  · exact h
  · exact enterIssuing_sameQueue (fixChange_sameQueue (t := onSess p _ (onSess p _ t)) h)

theorem coinRouted_sameQueue {q : Byte} {c : Fin 8} {d : Dest} (h : SameQueue s t) : SameQueue s (coinRouted p q c d t).1 := by
  unfold coinRouted
  split
  · exact append_sameQueue (t := addCoinTotals c _ _) (countCoin_sameQueue h)
  · rename_i e _
    have counted := countCoin_sameQueue (c := e.ctype) (v := e.value) (d := e.dest) (t := removeEntry p q t) h
    have covered : SameQueue s (match e.dest with
        | .tube i =>
          if current p e t && tubeTakes i e.ctype (removeEntry p q t) then
            (if decide ((sess p t).state = .collecting)
              then coverCoin p i (countCoin e.ctype e.value e.dest (removeEntry p q t))
              else coverLate p i (countCoin e.ctype e.value e.dest (removeEntry p q t)))
          else countCoin e.ctype e.value e.dest (removeEntry p q t)
        | .box => countCoin e.ctype e.value e.dest (removeEntry p q t)) := by
      split
      · exact sameQueue_ite (sameQueue_ite counted counted) counted
      · exact counted
    simp only [apply_ite Prod.fst]
    refine sameQueue_ite (sameQueue_ite (creditCoin_sameQueue ?_) (listMoved_sameQueue ?_)) (append_sameQueue ?_)
    all_goals exact covered

/-! #### Reads and the results of writes -/

theorem endReading_sameQueue {x : Result} {r : EndReason} (h : SameQueue s t) : SameQueue s (endReading p x r t) :=
  SameQueue.controlled (t := answerQuote p x t) h (endReading_controlled (.refl p _))

theorem blockCard_sameQueue {x : CardImage} (h : SameQueue s t) : SameQueue s (blockCard p x t) := by
  unfold blockCard
  split
  · exact sameQueue_ite (append_sameQueue h) (append_sameQueue h)
  · exact append_sameQueue h

theorem acceptQuote_sameQueue {r : QuoteResult} (h : SameQueue s t) : SameQueue s (acceptQuote p r t) := h

theorem completeRead_sameQueue {x : CardImage} (h : SameQueue s t) : SameQueue s (completeRead p x t) := by
  have read : SameQueue s (onSess p (fun y => { y with cardWait := none, held := some x }) (setRead p .none t)) := h
  unfold completeRead
  split
  · exact h
  · dsimp only
    split
    · exact endReading_sameQueue read
    · split
      · exact endReading_sameQueue (blockCard_sameQueue read)
      · split
        · exact endReading_sameQueue read
        · exact acceptQuote_sameQueue read

theorem recordResolved_sameQueue {e : Fin 4} {o : Resolved} {x : CardImage} {n : Nat} (h : SameQueue s t) :
    SameQueue s (recordResolved p e o x n t) := append_sameQueue h

theorem settleTorn_sameQueue {e : Fin 4} {landed : Bool} {x : CardImage} (h : SameQueue s t) :
    SameQueue s (settleTorn p e landed x t) := by
  have settled {o : Resolved} {n : Nat} : SameQueue s (settleEntry e (recordResolved p e o x n t)) :=
    settleEntry_sameQueue (recordResolved_sameQueue h)
  unfold settleTorn
  refine completeRead_sameQueue ?_
  split
  · exact sameQueue_ite (handedDone_sameQueue settled) (endUnwritten_sameQueue settled)
  · exact settled

theorem takeImage_sameQueue {x : CardImage} (h : SameQueue s t) : SameQueue s (takeImage p x t) := by
  unfold takeImage
  split
  · exact completeRead_sameQueue h
  · split
    · exact sameQueue_ite (settleTorn_sameQueue h) (sameQueue_ite h (settleTorn_sameQueue h))
    · exact h

theorem saleWritten_sameQueue {w : CardWrite} {r : WriteResult} (h : SameQueue s t) : SameQueue s (saleWritten w r t) := by
  unfold saleWritten
  split
  · exact handedDone_sameQueue (settleEntry_sameQueue h)
  · exact handedNotDone_sameQueue (settleEntry_sameQueue h)
  · exact h
  · exact h
  · exact settleEntry_sameQueue h
  · exact settleEntry_sameQueue h

theorem blockWritten_sameQueue {w : CardWrite} {r : WriteResult} (h : SameQueue s t) : SameQueue s (blockWritten w r t) := by
  unfold blockWritten
  split <;> exact h

theorem creditWritten_sameQueue {w : CardWrite} {r : WriteResult} (h : SameQueue s t) : SameQueue s (creditWritten w r t) := by
  unfold creditWritten
  split
  · exact wantEnd_sameQueue (t := onSess _ _ (settleEntry w.entry t)) (settleEntry_sameQueue h)
  · exact notCredited_sameQueue (settleEntry_sameQueue h)
  · exact notCredited_sameQueue (t := onSess _ _ (onEntry w.entry _ t)) h
  · exact h
  · exact settleEntry_sameQueue h
  · exact settleEntry_sameQueue h

theorem completionWritten_sameQueue {w : CardWrite} {r : WriteResult} (h : SameQueue s t) :
    SameQueue s (completionWritten p w r t) := by
  have torn : SameQueue s (if decide (readOf p t = .resolving w.entry) = true
      then setRead p .detecting (tearEntry w.entry t) else tearEntry w.entry t) := sameQueue_ite h h
  have settled := settleEntry_sameQueue (e := w.entry)
    (recordResolved_sameQueue (p := p) (e := w.entry) (o := .completed) (x := w.image) (n := w.excess) h)
  cases r with
  | ok =>
    unfold completionWritten
    dsimp only
    split
    · refine completeRead_sameQueue ?_
      split
      · exact handedDone_sameQueue settled
      · exact settled
    · split
      · exact handedDone_sameQueue settled
      · exact settled
  | failed => exact torn
  | torn => exact torn

theorem writeEnded_sameQueue {w : CardWrite} {r : WriteResult} (h : SameQueue s t) : SameQueue s (writeEnded p w r t) := by
  unfold writeEnded
  refine SameQueue.controls ?_ (wakeReads_controls _ _)
  split
  · exact saleWritten_sameQueue h
  · exact blockWritten_sameQueue h
  · exact creditWritten_sameQueue h
  · exact completionWritten_sameQueue h

theorem creditDetected_sameQueue {x : Option CardId} (h : SameQueue s t) : SameQueue s (creditDetected p x t) := by
  unfold creditDetected
  dsimp only
  split
  · exact h
  · split
    · exact sameQueue_ite (notCredited_sameQueue h) h
    · exact notCredited_sameQueue h

/-! #### The print unit -/

theorem takeStatus_sameQueue {st : PrinterStatus} (h : SameQueue s t) : SameQueue s (takeStatus st t).1 := by
  refine SameQueue.controls (t := statusNoted st t) ?_ (takeStatus_controls st t)
  have raised : SameQueue s ((statusFault st).elim (onPrint (fun u => { u with last := some st, stale := false }) t)
      fun f => raiseFault .printer f (onPrint (fun u => { u with last := some st, stale := false }) t)) := by
    cases statusFault st with
    | none => exact h
    | some f => exact raiseFault_sameQueue (t := onPrint _ t) h
  exact sameQueue_ite (sortEvent_sameQueue raised) raised

theorem handStatus_sameQueue {st : PrinterStatus} (h : SameQueue s t) : SameQueue s (handTickets (takeStatus st t)) :=
  handTickets_sameQueue (takeStatus_sameQueue h)

theorem tryBegin_sameQueue (h : SameQueue s t) : SameQueue s (tryBegin t) := h.unserved (tryBegin_unserved t)

theorem onProgress_sameQueue {f : Progress → Progress} (h : SameQueue s t) : SameQueue s (onProgress f t) :=
  (onProgress_pending f t).trans h

theorem lineTaken_sameQueue {n : Nat} (h : SameQueue s t) : SameQueue s (lineTaken n t) := by
  unfold lineTaken
  split
  · exact sameQueue_ite (onProgress_sameQueue h) h
  · exact h

theorem cutTaken_sameQueue {n : Nat} (h : SameQueue s t) : SameQueue s (cutTaken n t) := by
  unfold cutTaken
  split
  · exact sameQueue_ite (onProgress_sameQueue h) h
  · exact h

theorem printAgain_sameQueue {n age : Nat} (h : SameQueue s t) : SameQueue s (printAgain n age t) := by
  unfold printAgain
  split
  · exact sameQueue_ite (onProgress_sameQueue h) h
  · exact h

theorem printDone_sameQueue {j : Job} {o : JobOutcome} (h : SameQueue s t) : SameQueue s (printDone j o t) :=
  h.controlled (printDone_controlled (.refl .A t))

theorem failActive_sameQueue {always : Bool} (h : SameQueue s t) : SameQueue s (failActive always t).1 :=
  h.controlled (failActive_controlled (.refl .A t))

theorem cutDone_sameQueue {r : State × TicketEnds} (h : SameQueue s t) (ended : cutDone t = some r) : SameQueue s r.1 := by
  unfold cutDone at ended
  split at ended
  · split at ended
    · cases ended
      exact printDone_sameQueue (t := onPrint _ (setSlot _ _ t)) h
    · cases ended
  · split at ended
    · split at ended
      · cases ended
        exact h
      · cases ended
    · cases ended

theorem cutLimitOut_sameQueue (h : SameQueue s t) : SameQueue s (cutLimitOut t).1 := by
  unfold cutLimitOut
  dsimp only
  split
  · exact failActive_sameQueue (raiseFault_sameQueue h)
  · exact raiseFault_sameQueue h

theorem queueText_sameQueue {tag : Byte} {lines : List Text} (h : SameQueue s t) : SameQueue s (queueText tag lines t) := by
  unfold queueText
  dsimp only
  split
  · exact h
  · exact tryBegin_sameQueue (t := setSlot _ _ (bumpQueue t)) h

theorem resumePrint_sameQueue {wasPrinter : Bool} (h : SameQueue s t) : SameQueue s (resumePrint wasPrinter t).1 := by
  unfold resumePrint
  split
  · exact failActive_sameQueue (t := failStub t) h
  · exact tryBegin_sameQueue (onProgress_sameQueue h)

/-! #### The device link -/

theorem countAnswered_sameQueue {f : LinkFrame} (h : SameQueue s t) : SameQueue s (countAnswered f t) :=
  (countAnswered_pending f t).trans h

theorem settleUnanswered_sameQueue {r : ReadyFrame} (h : SameQueue s t) : SameQueue s (settleUnanswered r t) := by
  unfold settleUnanswered
  split
  case h_1 => exact sameQueue_ite h h
  case h_6 => exact sameQueue_ite (creditDetected_sameQueue h) h
  case h_9 => exact printAgain_sameQueue h
  case h_10 => exact printAgain_sameQueue h
  all_goals exact h

theorem unanswered_sameQueue {r : ReadyFrame} (h : SameQueue s t) : SameQueue s (unanswered r t) :=
  settleUnanswered_sameQueue ((countUnanswered_pending r.frame (freeLine t)).trans h)

theorem discardInWindow_sameQueue {r : ReadyFrame} {misfit : Bool} (h : SameQueue s t) :
    SameQueue s (discardInWindow r misfit t) := unanswered_sameQueue (sameQueue_ite (raiseFault_sameQueue h) h)

theorem receive_sameQueue {kind : Nat} {f : ReadyFrame → State → State} (h : SameQueue s t)
    (hf : ∀ {r u}, SameQueue s u → SameQueue s (f r u)) : SameQueue s (receive a kind busy f t) := by
  unfold receive
  split
  · exact h
  · split
    · exact sameQueue_ite (served_sameQueue (hf (countAnswered_sameQueue (t := freeLine t) h)))
        (served_sameQueue (discardInWindow_sameQueue h))
    · exact settle_sameQueue (t := freeLine t) h
    · exact h
    · exact h

theorem passAnswered_sameQueue {q : QueuedPass} {r : DeviceReply} (h : SameQueue s t) : SameQueue s (passAnswered q r t) := by
  obtain ⟨st, -, -, -, e⟩ | e := passAnswered_cases q r t <;> rw [e]
  · exact handStatus_sameQueue (t := passReply q (some r) t) h
  · exact h

theorem forwardOr_sameQueue {reply : DeviceReply} {f : ReadyFrame → State → State} {r : ReadyFrame} (h : SameQueue s t)
    (hf : ∀ {r u}, SameQueue s u → SameQueue s (f r u)) : SameQueue s (forwardOr reply f r t) := by
  unfold forwardOr
  split
  · exact passAnswered_sameQueue h
  · exact hf h

theorem cardMissing_sameQueue (h : SameQueue s t) : SameQueue s (cardMissing p t) := by
  have settled : SameQueue s ((t.link.cardReady.filter (fun c => decide (c.pos = p))).foldl (fun s c =>
      match c.cmd with
      | .write w => writeEnded p w (.failed .error) s
      | .detect n credit => if credit = true ∧ (sess p s).serial = n then creditDetected p none s else s
      | .read _ _ => s)
      (onLink (fun l => { l with cardReady := l.cardReady.filter (fun c => !decide (c.pos = p)) }) t)) := by
    refine foldl_sameQueue (fun hu => ?_) h
    split
    · exact writeEnded_sameQueue hu
    · exact sameQueue_ite (creditDetected_sameQueue hu) hu
    · exact hu
  exact sameQueue_ite (endReading_sameQueue settled) settled

theorem settleMissing_sameQueue (h : SameQueue s t) : SameQueue s (settleMissing a t) := by
  unfold settleMissing
  dsimp only
  split
  · exact h
  · exact h
  · exact cardMissing_sameQueue h
  · exact cardMissing_sameQueue h
  · exact SameQueue.controls (t := dispensesDropped t) h (cutPayouts_controls t)
  · exact handTickets_sameQueue (h.controlled (failAll_controlled (.refl .A t)))

theorem removePass_sameQueue {cond : QueuedPass → Bool} {r : Result} (h : SameQueue s t) : SameQueue s (removePass cond r t) :=
  h.unserved (removePass_unserved cond r t)

theorem becomeMissing_sameQueue (h : SameQueue s t) : SameQueue s (becomeMissing a t) :=
  removePass_sameQueue (settleMissing_sameQueue (raiseFault_sameQueue (t := onPeriph a _ t) h))

theorem validatorEvent_sameQueue {e : ValidatorEvent} (h : SameQueue s t) : SameQueue s (validatorEvent p t e) := by
  unfold validatorEvent
  dsimp only
  split
  · exact masks_sameQueue (sortEvent_sameQueue (coinAtGate_sameQueue h))
  · exact masks_sameQueue (sortEvent_sameQueue (coinRouted_sameQueue h))
  · exact masks_sameQueue (sortEvent_sameQueue (coinReturned_sameQueue h))
  · exact sameQueue_ite
      (masks_sameQueue (sortEvent_sameQueue (h.controlled (cancelCollecting_controlled (.refl p t))))) (sortEvent_sameQueue h)
  · exact sortEvent_sameQueue h

theorem moduleEvent_sameQueue {e : ModuleEvent} (h : SameQueue s t) : SameQueue s (moduleEvent p t e) := by
  unfold moduleEvent
  dsimp only
  split
  · exact sortEvent_sameQueue (raiseFault_sameQueue h)
  · exact sortEvent_sameQueue h

theorem changerEvent_sameQueue {e : ChangerEvent} (h : SameQueue s t) : SameQueue s (changerEvent t e) := by
  unfold changerEvent
  dsimp only
  split
  · exact masks_sameQueue (sortEvent_sameQueue (payoutDone_sameQueue h))
  · exact masks_sameQueue (sortEvent_sameQueue (payoutJam_sameQueue h))
  · exact masks_sameQueue (sortEvent_sameQueue (gauge_sameQueue h))
  · exact masks_sameQueue (sortEvent_sameQueue (boxState_sameQueue h))
  · exact sortEvent_sameQueue h

theorem printerEvent_sameQueue {e : PrinterEvent} (h : SameQueue s t) : SameQueue s (printerEvent t e) := by
  unfold printerEvent
  split
  · split
    · rename_i ended
      exact masks_sameQueue (tryBegin_sameQueue (handTickets_sameQueue (cutDone_sameQueue h ended)))
    · exact sortEvent_sameQueue (raiseFault_sameQueue h)
  · exact sortEvent_sameQueue h

theorem changerBusy_sameQueue {moving : Option (Fin 6)} (h : SameQueue s t) : SameQueue s (changerBusy moving t) := by
  unfold changerBusy
  split
  · exact h
  · split
    · exact h
    · split
      · exact h
      · exact sameQueue_ite (masks_sameQueue (dispenseJam_sameQueue (raiseFault_sameQueue h))) h

theorem handEvents_sameQueue {b : PollBody} (h : SameQueue s t) : SameQueue s (handEvents b t) := by
  unfold handEvents
  split
  · exact foldl_sameQueue validatorEvent_sameQueue h
  · exact foldl_sameQueue moduleEvent_sameQueue h
  · exact changerBusy_sameQueue (foldl_sameQueue changerEvent_sameQueue h)
  · exact foldl_sameQueue printerEvent_sameQueue h

theorem pollStatus_sameQueue {b : PollBody} (h : SameQueue s t) : SameQueue s (pollStatus b t) := by
  unfold pollStatus
  split
  · exact h
  · exact sameQueue_ite (raiseFault_sameQueue h) h
  · exact h
  · exact masks_sameQueue (handStatus_sameQueue h)

theorem takePoll_sameQueue {n : Byte} {b : PollBody} (h : SameQueue s t) : SameQueue s (takePoll n b t) := by
  have seen : SameQueue s (if bodyAddr b = .changer then onChange (fun c => { c with misses := 0 }) t else t) := sameQueue_ite h h
  exact sameQueue_ite (pollStatus_sameQueue (t := onCounters _ _ _) seen)
    (pollStatus_sameQueue (handEvents_sameQueue (t := onPeriph _ _ _) seen))

theorem sendMask_sameQueue {m : BitVec 8} (h : SameQueue s t) : SameQueue s (sendMask p m t) := (sendMask_pending p m t).trans h

theorem announceTaken_sameQueue {k : Announced} {rev : Byte} (h : SameQueue s t) : SameQueue s (announceTaken a k rev t) := by
  have heard {f : Peripheral → Peripheral} : SameQueue s (onPeriph a f t) := h
  refine sortEvent_sameQueue ?_
  split
  · exact masks_sameQueue (boxState_sameQueue heard)
  · exact masks_sameQueue (handStatus_sameQueue heard)
  · split
    · exact sendMask_sameQueue heard
    · exact sendMask_sameQueue heard
    · exact heard
  · exact heard
  · exact heard

theorem reclaim_sameQueue {c : ReclaimCause} (h : SameQueue s t) : SameQueue s (reclaim c t) := by
  unfold reclaim
  split
  · split <;> exact h
  · exact h

theorem endLend_sameQueue {d : Lend} (h : SameQueue s t) : SameQueue s (endLend d t) := by
  have cleared : SameQueue s (lendCleared d t) := removePass_sameQueue (t := onLink _ t) h
  rw [endLend_eq]
  exact (handTickets_sameQueue (resumePrint_sameQueue cleared)).unserved (resendMasks_unserved _)

theorem pollFallsDue_sameQueue (h : SameQueue s t) : SameQueue s (pollFallsDue a t) := sameQueue_ite h h

theorem endWrite_sameQueue {w : CardWrite} {r : WriteResult} (h : SameQueue s t) : SameQueue s (endWrite p w r t) :=
  pollFallsDue_sameQueue (writeEnded_sameQueue (t := writeOver p t) h)

theorem endPassWrite_sameQueue {q : QueuedPass} {r : Option DeviceReply} (h : SameQueue s t) :
    SameQueue s (endPassWrite p q r t) := pollFallsDue_sameQueue (t := passReply q r _) h

/-! #### Starts -/

theorem interrupt_sameQueue (h : SameQueue s t) : SameQueue s (interrupt p t) :=
  sameQueue_ite (append_sameQueue (t := addTotals _ t) h) h

theorem noteQueue_sameQueue (h : SameQueue s t) : SameQueue s (noteQueue t) := by
  have noted {u : State} {j : Job} (hu : SameQueue s u) : SameQueue s (noteJob j u) :=
    hu.controlled (noteJob_controlled (.refl .A u))
  refine foldl_sameQueue (fun hu => ?_) h
  unfold noteSlot
  split
  · exact noted hu
  · exact noted hu
  · exact hu
  · exact hu

theorem warmStart_sameQueue {c : StartCause} {powered : Bool} (h : SameQueue s t) : SameQueue s (warmStart c powered busy t) := by
  have recorded := interrupt_sameQueue (p := .B) (interrupt_sameQueue (p := .A) h)
  have noted := sameQueue_ite (c := powered = true) (noteQueue_sameQueue recorded) recorded
  exact settle_sameQueue (t := onJournal _ (clearUnretained (onCards _ _))) noted

theorem coldStart_sameQueue {c : StartCause} (h : SameQueue s t) : SameQueue s (coldStart c busy t) :=
  settle_sameQueue (t := clearUnretained _) h

theorem requestedStart_sameQueue {c : StartCause} (h : SameQueue s t) : SameQueue s (requestedStart c busy t) := by
  unfold requestedStart
  split
  · exact coldStart_sameQueue h
  · exact warmStart_sameQueue h

end Queue

/-! #### The outcomes of the commands -/

/-- The outcome is a next state with the queue of waiting commands as it was. -/
def KeepsQueue (s : State) (o : Out) : Prop := ∃ t, o = .next t ∧ SameQueue s t

section Outcomes
variable {s t : State} {p : Position} {a : Addr} {tag : Byte} {busy : Bool}

theorem keepsQueue_next (h : SameQueue s t) : KeepsQueue s (.next t) := ⟨t, rfl, h⟩

theorem request_keepsQueue {c : Instr} {f : State → State} (hf : ∀ {t}, SameQueue s t → SameQueue s (f t)) :
    KeepsQueue s (request c f s) := by
  cases h : takes c s with
  | true =>
    rw [request_taken h]
    exact keepsQueue_next (finish_sameQueue (hf (takeFrame_pending s)))
  | false =>
    rw [request_waits h]
    exact keepsQueue_next (.refl s)

theorem expiry_keepsQueue {b : Bool} {f : State → State} (hf : SameQueue s (f s)) : KeepsQueue s (expiry b f busy s) :=
  keepsQueue_next (sameQueue_ite (served_sameQueue hf) (.refl s))

/-! ##### Sale requests -/

theorem saleAnswer_sameQueue {k : Byte} {r : Result} (h : SameQueue s t) : SameQueue s (saleAnswer tag k r t) := h

theorem newSession_sameQueue {q : QuoteReq} (h : SameQueue s t) : SameQueue s (newSession p tag q t) := h

theorem beginRead_sameQueue {n : Nat} (h : SameQueue s t) : SameQueue s (beginRead p n t) := h

theorem startReading_sameQueue {q : QuoteReq} {e : Fin 4} (h : SameQueue s t) : SameQueue s (startReading p tag q e busy t) := by
  have entered {x : PendingEntry} {f : Session → Session} :
      SameQueue s (enter p .reading .quote (onSess p f (onEntry e (fun _ => x) (newSession p tag q t)))) := h
  exact arbitrate_sameQueue (beginRead_sameQueue entered)

theorem quoteTaken_sameQueue {q : QuoteReq} (h : SameQueue s t) : SameQueue s (quoteTaken p tag q busy t) := by
  unfold quoteTaken
  split
  · exact saleAnswer_sameQueue h
  · split
    · split
      · exact saleAnswer_sameQueue h
      · split
        · exact saleAnswer_sameQueue h
        · exact sameQueue_ite (startReading_sameQueue h) (saleAnswer_sameQueue h)
    · split
      · exact saleAnswer_sameQueue h
      · exact acceptQuote_sameQueue (newSession_sameQueue h)

theorem execQuote_keepsQueue {pos : Option Position} {q : QuoteReq} : KeepsQueue s (execQuote tag pos q s busy) :=
  request_keepsQueue fun h => by
    split
    · exact saleAnswer_sameQueue h
    · exact quoteTaken_sameQueue h

theorem reserveSlot_sameQueue (h : SameQueue s t) : SameQueue s (reserveSlot p t) := by
  unfold reserveSlot
  split
  · exact h
  · split <;> exact h

theorem payTaken_sameQueue {pay : Payment} (h : SameQueue s t) : SameQueue s (payTaken p pay t) := by
  have reserved := reserveSlot_sameQueue (p := p)
    (t := onSess p (fun x => { x with quoteLife := none, payment := some pay, due := 0 }) t) h
  exact sameQueue_ite (enterIssuing_sameQueue reserved) reserved

theorem execPay_keepsQueue {pos : Option Position} {pay : Payment} : KeepsQueue s (execPay tag pos pay s busy) :=
  request_keepsQueue fun {t} h => by
    split
    · exact h
    · split
      · exact h
      · exact arbitrate_sameQueue (masks_sameQueue (payTaken_sameQueue (t := saleAnswer tag 2 .ok t) h))

theorem cancelTaken_sameQueue (h : SameQueue s t) : SameQueue s (cancelTaken p tag busy t) := by
  have answered : SameQueue s (saleAnswer tag 3 .ok t) := saleAnswer_sameQueue h
  unfold cancelTaken
  dsimp only
  split
  case h_2 => exact arbitrate_sameQueue (masks_sameQueue (endReading_sameQueue answered))
  case h_3 => exact arbitrate_sameQueue (masks_sameQueue (answered.controlled (release_controlled (.refl _ _))))
  case h_4 => exact arbitrate_sameQueue (masks_sameQueue (answered.controlled (cancelCollecting_controlled (.refl _ _))))
  all_goals exact saleAnswer_sameQueue h

theorem execCancel_keepsQueue {pos : Option Position} : KeepsQueue s (execCancel tag pos s busy) :=
  request_keepsQueue fun h => by
    split
    · exact saleAnswer_sameQueue h
    · exact cancelTaken_sameQueue h

theorem execTouch_keepsQueue {pos : Option Position} : KeepsQueue s (execTouch tag pos s) :=
  request_keepsQueue fun h => by
    split
    · exact h
    · unfold touchTaken
      split <;> exact h

/-! ##### The banks, the cash tables and the tubes -/

theorem execLoadTable_keepsQueue {table index : Nat} {body : List Byte} : KeepsQueue s (execLoadTable tag table index body s) :=
  request_keepsQueue fun h => by
    split
    · exact h
    · split <;> exact h

theorem execClearStaged_keepsQueue : KeepsQueue s (execClearStaged tag s) := request_keepsQueue fun h => sameQueue_ite h h

theorem execStagedCheck_keepsQueue : KeepsQueue s (execStagedCheck tag s) := request_keepsQueue fun h => h

theorem execReadTable_keepsQueue {src : TableSource} {table index : Nat} : KeepsQueue s (execReadTable tag src table index s) :=
  request_keepsQueue fun h => by split <;> exact h

theorem activateTaken_sameQueue {check : BitVec 16} {time : ActTime} (h : SameQueue s t) :
    SameQueue s (activateTaken tag check time t) := by
  have swapped {x : ActTime} {late : Bool} : SameQueue s (swap x late t) := append_sameQueue (t := onFare _ t) h
  unfold activateTaken
  split
  · exact swapped
  · exact sameQueue_ite swapped h

theorem execActivate_keepsQueue {check : BitVec 16} {time : ActTime} : KeepsQueue s (execActivate tag check time s) :=
  request_keepsQueue fun h => by
    split
    · exact h
    · split
      · exact h
      · split
        · exact h
        · exact activateTaken_sameQueue h

theorem execCancelActivation_keepsQueue : KeepsQueue s (execCancelActivation tag s) :=
  request_keepsQueue fun h => sameQueue_ite h h

theorem execCashConfig_keepsQueue {body : List Byte} : KeepsQueue s (execCashConfig tag body s busy) :=
  request_keepsQueue fun {t} h => by
    split
    · exact h
    · split
      · exact h
      · exact arbitrate_sameQueue (masks_sameQueue (t := mgmt tag 7 .ok .empty (applyCash _ t)) h)

theorem execTubeAdjust_keepsQueue {i : Nat} {n : Int} : KeepsQueue s (execTubeAdjust tag i n s busy) :=
  request_keepsQueue fun {t} h => by
    split
    · exact h
    · exact arbitrate_sameQueue (masks_sameQueue (t := mgmt tag 8 .ok _ _) (append_sameQueue (t := onTube _ _ t) h))

theorem execTubeClear_keepsQueue {i : Nat} : KeepsQueue s (execTubeClear tag i s busy) :=
  request_keepsQueue fun {t} h => by
    split
    · exact h
    · split
      · exact h
      · exact sameQueue_ite h (arbitrate_sameQueue (masks_sameQueue (t := mgmt tag 9 .ok .empty (onTube _ _ t)) h))

/-! ##### The deny list, the journal and the totals -/

theorem execDenyAdd_keepsQueue {x : CardId} : KeepsQueue s (execDenyAdd tag x s) :=
  request_keepsQueue fun h => sameQueue_ite h (sameQueue_ite h h)

theorem execDenyRemove_keepsQueue {x : CardId} : KeepsQueue s (execDenyRemove tag x s) :=
  request_keepsQueue fun h => sameQueue_ite h h

theorem execDenyLoad_keepsQueue {chunk : List CardId} : KeepsQueue s (execDenyLoad tag chunk s) :=
  request_keepsQueue fun h => by split <;> exact h

theorem execDenyClear_keepsQueue : KeepsQueue s (execDenyClear tag s) := request_keepsQueue fun h => h

theorem execReadJournal_keepsQueue {n : Nat} : KeepsQueue s (execReadJournal tag n s) :=
  request_keepsQueue fun h => sameQueue_ite h h

theorem execConfirmJournal_keepsQueue {q : BitVec 32} : KeepsQueue s (execConfirmJournal tag q s) :=
  request_keepsQueue fun h => sameQueue_ite h (sameQueue_ite h h)

theorem execReadTotals_keepsQueue : KeepsQueue s (execReadTotals tag s) := request_keepsQueue fun h => h

theorem execAckFaults_keepsQueue {sets : Vector Flags 6} {overrun : Bool} : KeepsQueue s (execAckFaults tag sets overrun s) :=
  request_keepsQueue fun h => h

theorem execCloseShift_keepsQueue : KeepsQueue s (execCloseShift tag s) :=
  request_keepsQueue fun {t} h => sameQueue_ite h (sameQueue_ite h (append_sameQueue (t := onJournal _ t) h))

/-! ##### Lending, settings and starts -/

theorem execLendLink_keepsQueue {addr limit : Nat} : KeepsQueue s (execLendLink tag addr limit s busy) :=
  request_keepsQueue fun {t} h => by
    split
    · exact h
    · exact arbitrate_sameQueue (SameQueue.unserved (t := onLink _ (mgmt tag 19 .ok .empty t)) h (grantLend_unserved _ _ _))

theorem execReturnLink_keepsQueue : KeepsQueue s (execReturnLink tag s busy) :=
  request_keepsQueue fun {t} h => by
    split
    · exact h
    · exact arbitrate_sameQueue (endLend_sameQueue (t := mgmt tag 20 .ok .empty t) h)

theorem execSetTime_keepsQueue {day : BitVec 16} {minute second : Nat} : KeepsQueue s (execSetTime tag day minute second s) :=
  request_keepsQueue fun {t} h => sameQueue_ite h (sameQueue_ite h (activationWatch_sameQueue (t := onFare _ t) h))

theorem execSetTiming_keepsQueue {x : SessTiming} : KeepsQueue s (execSetTiming tag x s) :=
  request_keepsQueue fun h => sameQueue_ite h h

theorem execLinkTiming_keepsQueue {x : LinkTiming} : KeepsQueue s (execLinkTiming tag x s) :=
  request_keepsQueue fun h => sameQueue_ite h h

theorem execSetMode_keepsQueue {x : Option Mode} : KeepsQueue s (execSetMode tag x s) :=
  request_keepsQueue fun h => by
    split
    · exact h
    · split <;> exact h

theorem execReadStatus_keepsQueue : KeepsQueue s (execReadStatus tag s) := request_keepsQueue fun h => h

theorem execRestart_keepsQueue : KeepsQueue s (execRestart tag s) := request_keepsQueue fun h => h

theorem execFactoryClear_keepsQueue : KeepsQueue s (execFactoryClear tag s) :=
  request_keepsQueue fun h => by split <;> exact h

theorem execDiscardPending_keepsQueue {x : CardId} : KeepsQueue s (execDiscardPending tag x s) :=
  request_keepsQueue fun h => by
    split
    · exact h
    · exact append_sameQueue h

theorem execUnknownRequest_keepsQueue {channel kind : Byte} : KeepsQueue s (execUnknownRequest channel tag kind s) :=
  request_keepsQueue fun h => h

/-! ##### Pass frames -/

theorem passTaken_sameQueue {f : PassFrame} (h : SameQueue s t) : SameQueue s (passTaken tag a f t) := by
  have accepted {b : Bool} : SameQueue s (acceptPass tag a f b t) := sameQueue_ite h h
  have merged : SameQueue s (mergeMask tag a f.enable t) := by
    unfold mergeMask
    split <;> exact h
  have text : SameQueue s (freeText tag a f.lines t) := by
    unfold freeText
    split
    · exact h
    · split
      · exact h
      · exact queueText_sameQueue h
  unfold passTaken
  split
  · exact sameQueue_ite accepted h
  · split
    · exact h
    · split
      · exact h
      · exact merged
      · exact text
      · exact accepted

theorem execPassFrame_keepsQueue {f : PassFrame} : KeepsQueue s (execPassFrame tag f s busy) :=
  request_keepsQueue fun h => by
    split
    · exact h
    · split
      · exact h
      · exact arbitrate_sameQueue (masks_sameQueue (passTaken_sameQueue h))

/-! ##### Signals -/

theorem execSaleFrameReceived_keepsQueue {bs : List Byte} : KeepsQueue s (execSaleFrameReceived bs s) := by
  have received : SameQueue s (rxFrame bs s) := by
    unfold rxFrame
    split
    · rfl
    · split
      · rfl
      · rfl
      · split <;> rfl
  exact keepsQueue_next (sameQueue_ite (finish_sameQueue received) (.refl s))

theorem execSaleFrameSent_keepsQueue : KeepsQueue s (execSaleFrameSent s busy) := by
  have sent : SameQueue s (txSent busy s) := by
    unfold txSent
    split
    · rfl
    · split
      · exact requestedStart_sameQueue (.refl s)
      · exact finish_sameQueue (t := onPort _ s) (.refl s)
    · exact finish_sameQueue (t := onPort _ s) (.refl s)
  exact keepsQueue_next (sameQueue_ite sent (.refl s))

theorem doorSession_sameQueue (h : SameQueue s t) : SameQueue s (doorSession p t) := by
  obtain c | c := doorSession_controlled p t
  · exact h.controlled c
  · exact SameQueue.controlled (t := answerQuote p .outOfService t) h c

theorem execDoorOpened_keepsQueue : KeepsQueue s (execDoorOpened s busy) := by
  have lined : SameQueue s (setDoorLine true s) := rfl
  exact keepsQueue_next (sameQueue_ite (served_sameQueue (reclaim_sameQueue (doorSession_sameQueue (doorSession_sameQueue
    (t := setDoor true _) lined)))) lined)

theorem execDoorClosed_keepsQueue : KeepsQueue s (execDoorClosed s busy) := by
  have lined : SameQueue s (setDoorLine false s) := rfl
  exact keepsQueue_next (sameQueue_ite (served_sameQueue (reclaim_sameQueue (t := setDoor false _) lined)) lined)

theorem execResetLineReleased_keepsQueue : KeepsQueue s (execResetLineReleased s busy) := by
  have high : SameQueue s (setReset false s) := rfl
  exact keepsQueue_next (sameQueue_ite (warmStart_sameQueue high) high)

theorem execPowerUp_keepsQueue {lost holds : Bool} : KeepsQueue s (execPowerUp lost holds s busy) :=
  keepsQueue_next (sameQueue_ite (.refl s) (sameQueue_ite (coldStart_sameQueue (.refl s))
    (sameQueue_ite (warmStart_sameQueue (.refl s)) (coldStart_sameQueue (.refl s)))))

theorem execClockSecond_keepsQueue : KeepsQueue s (execClockSecond s) := by
  have second : SameQueue s (ticked s) := rfl
  exact keepsQueue_next (sameQueue_ite (finish_sameQueue (activationWatch_sameQueue second)) second)

/-! ##### Timers -/

theorem execTearWindowExpiry_keepsQueue : KeepsQueue s (execTearWindowExpiry p s busy) := by
  refine expiry_keepsQueue (endUnwritten_sameQueue (t := onSess p _ _) ?_)
  split <;> rfl

theorem execSettleLimitExpiry_keepsQueue {q : Byte} : KeepsQueue s (execSettleLimitExpiry p q s busy) := by
  refine expiry_keepsQueue ?_
  unfold settleLimit
  split
  · exact listMoved_sameQueue (dropEntry_sameQueue (raiseFault_sameQueue (.refl s)))
  · rfl

theorem execCutLimitExpiry_keepsQueue : KeepsQueue s (execCutLimitExpiry s busy) :=
  expiry_keepsQueue (tryBegin_sameQueue (handTickets_sameQueue (cutLimitOut_sameQueue (.refl s))))

theorem execReclaimGraceExpiry_keepsQueue : KeepsQueue s (execReclaimGraceExpiry s busy) := by
  refine expiry_keepsQueue ?_
  unfold graceOver
  split
  · split
    · exact notify_sameQueue (endLend_sameQueue (.refl s))
    · rfl
  · rfl

/-! ##### Device link events -/

theorem execAnswerTimeout_keepsQueue : KeepsQueue s (execAnswerTimeout busy s) := by
  have out : SameQueue s (timedOut busy s) := by
    unfold timedOut
    split
    · exact served_sameQueue (unanswered_sameQueue (.refl s))
    all_goals rfl
  exact keepsQueue_next (sameQueue_ite out (.refl s))

theorem execDispensePollLimit_keepsQueue : KeepsQueue s (execDispensePollLimit s busy) := by
  refine expiry_keepsQueue ?_
  unfold pollLimit
  split
  · exact dispenseJam_sameQueue (t := onChange _ s) (.refl s)
  · rfl

theorem execWriteAnswerTimeout_keepsQueue : KeepsQueue s (execWriteAnswerTimeout p s busy) := by
  refine expiry_keepsQueue ?_
  unfold writeTimedOut
  split
  · exact endWrite_sameQueue (.refl s)
  · exact endPassWrite_sameQueue (.refl s)
  · rfl

theorem otherAnswer_sameQueue {bs : List Byte} {r : ReadyFrame} (h : SameQueue s t) : SameQueue s (otherAnswer bs r busy t) := by
  have freed : SameQueue s (freeLine t) := h
  unfold otherAnswer
  split
  · dsimp only
    split
    · exact h
    · split
      · exact settle_sameQueue (masks_sameQueue (passAnswered_sameQueue (countAnswered_sameQueue freed)))
      · exact settle_sameQueue (masks_sameQueue (discardInWindow_sameQueue h))
  · exact h

theorem execDeviceFrameDiscarded_keepsQueue {bs : List Byte} : KeepsQueue s (execDeviceFrameDiscarded bs busy s) := by
  have gone : SameQueue s (discarded bs busy s) := by
    have unfit {r : ReadyFrame} {misfit : Bool} : SameQueue s (settle busy (masks none (discardInWindow r misfit s))) :=
      settle_sameQueue (masks_sameQueue (discardInWindow_sameQueue (.refl s)))
    unfold discarded
    split
    · exact sameQueue_ite unfit (sameQueue_ite (otherAnswer_sameQueue (.refl s)) unfit)
    · exact settle_sameQueue (t := freeLine s) (.refl s)
    · rfl
    · rfl
  exact keepsQueue_next (sameQueue_ite gone (.refl s))

theorem execAnnounceAnswer_keepsQueue {k : Announced} {rev : Byte} : KeepsQueue s (execAnnounceAnswer a k rev busy s) := by
  refine keepsQueue_next ?_
  split
  · exact served_sameQueue (unanswered_sameQueue (raiseFault_sameQueue (.refl s)))
  · exact receive_sameQueue (.refl s) fun h => forwardOr_sameQueue h announceTaken_sameQueue

theorem acknowledged_sameQueue {set : Option (BitVec 8)} {r : ReadyFrame} (h : SameQueue s t) :
    SameQueue s (acknowledged set r t) := by
  unfold acknowledged
  split
  · refine show SameQueue s (passReply _ _ _) from ?_
    split <;> exact h
  all_goals exact h

theorem cardPresent_sameQueue {x : CardId} {r : ReadyFrame} (h : SameQueue s t) : SameQueue s (cardPresent x r t) := by
  unfold cardPresent
  split
  · exact sameQueue_ite h (sameQueue_ite (creditDetected_sameQueue h) (sameQueue_ite h h))
  · exact h

theorem cardAbsent_sameQueue {r : ReadyFrame} (h : SameQueue s t) : SameQueue s (cardAbsent r t) := by
  unfold cardAbsent
  split
  · exact sameQueue_ite (creditDetected_sameQueue h) h
  · exact h

theorem forwardedFault_sameQueue {b : Bool} {q : QueuedPass} (h : SameQueue s t) : SameQueue s (forwardedFault b q t) :=
  sameQueue_ite (raiseFault_sameQueue h) h

theorem imageReturned_sameQueue {bs : List Byte} {r : ReadyFrame} (h : SameQueue s t) : SameQueue s (imageReturned bs r t) := by
  unfold imageReturned
  split
  · exact forwardedFault_sameQueue h
  · split
    · split
      · exact takeImage_sameQueue h
      · exact raiseFault_sameQueue h
    · exact h
  · exact h

theorem readNotDone_sameQueue {f : ReadFault} {r : ReadyFrame} (h : SameQueue s t) : SameQueue s (readNotDone f r t) := by
  unfold readNotDone
  split
  · exact forwardedFault_sameQueue h
  · exact sameQueue_ite (sameQueue_ite (raiseFault_sameQueue h) h) h
  · exact h

theorem writeUnmatched_sameQueue {x : CardId} (h : SameQueue s t) : SameQueue s (writeUnmatched p x t) :=
  sameQueue_ite h (raiseFault_sameQueue h)

theorem writeAnswer_sameQueue {x : CardId} {r : WriteResult} (h : SameQueue s t) : SameQueue s (writeAnswer p x r t) := by
  have counted : SameQueue s (answered (cardAddr p) t) := h
  unfold writeAnswer
  split
  · exact sameQueue_ite (endWrite_sameQueue (sameQueue_ite (raiseFault_sameQueue counted) counted)) (writeUnmatched_sameQueue h)
  · exact endPassWrite_sameQueue (countAnswered_sameQueue h)
  · exact writeUnmatched_sameQueue h

/-- A WRITE answer of any result (R75, R176). -/
theorem writeAnswered_keepsQueue {x : CardId} {r : WriteResult} :
    KeepsQueue s (.next (if running s then writeAnswered p x r busy s else s)) := by
  have answered : SameQueue s (writeAnswered p x r busy s) := by
    unfold writeAnswered
    split
    · exact served_sameQueue (writeAnswer_sameQueue (.refl s))
    · exact served_sameQueue (writeAnswer_sameQueue (t := freeLine s) (.refl s))
    · exact receive_sameQueue (.refl s) fun h => forwardOr_sameQueue h id
    · rfl
  exact keepsQueue_next (sameQueue_ite answered (.refl s))

theorem statusTaken_sameQueue {st : PrinterStatus} {r : ReadyFrame} (h : SameQueue s t) : SameQueue s (statusTaken st r t) := by
  unfold statusTaken
  split
  · exact handStatus_sameQueue (sameQueue_ite (lineTaken_sameQueue h) h)
  · exact handStatus_sameQueue (sameQueue_ite h (cutTaken_sameQueue h))
  · exact passAnswered_sameQueue h
  · exact h

theorem execDeviceFrameSent_keepsQueue : KeepsQueue s (execDeviceFrameSent busy s) := by
  have sent : SameQueue s (frameSent busy s) := by
    unfold frameSent
    split
    · dsimp only
      split
      · exact settle_sameQueue (t := onLink _ (onCounters _ _ s)) (.refl s)
      · split
        · exact settle_sameQueue (t := onLink _ (onCounters _ _ s)) (.refl s)
        · exact finish_sameQueue (t := onLink _ (onCounters _ _ s)) (.refl s)
      · exact finish_sameQueue (t := onLink _ (onCounters _ _ s)) (.refl s)
    all_goals rfl
  exact keepsQueue_next (sameQueue_ite sent (.refl s))

end Outcomes

/-- Every command has a next state, and keeps the queue of waiting commands. -/
theorem exec_keepsQueue (c : Instr) (s : State) : KeepsQueue s (exec c s) := by
  cases c with
  | quote => exact execQuote_keepsQueue
  | pay => exact execPay_keepsQueue
  | cancel => exact execCancel_keepsQueue
  | touch => exact execTouch_keepsQueue
  | loadTable => exact execLoadTable_keepsQueue
  | clearStaged => exact execClearStaged_keepsQueue
  | readTable => exact execReadTable_keepsQueue
  | activate => exact execActivate_keepsQueue
  | cancelActivation => exact execCancelActivation_keepsQueue
  | cashConfig => exact execCashConfig_keepsQueue
  | tubeAdjust => exact execTubeAdjust_keepsQueue
  | tubeClear => exact execTubeClear_keepsQueue
  | denyAdd => exact execDenyAdd_keepsQueue
  | denyRemove => exact execDenyRemove_keepsQueue
  | denyLoad => exact execDenyLoad_keepsQueue
  | readJournal => exact execReadJournal_keepsQueue
  | confirmJournal => exact execConfirmJournal_keepsQueue
  | closeShift => exact execCloseShift_keepsQueue
  | lendLink => exact execLendLink_keepsQueue
  | returnLink => exact execReturnLink_keepsQueue
  | setTime => exact execSetTime_keepsQueue
  | setTiming => exact execSetTiming_keepsQueue
  | linkTiming => exact execLinkTiming_keepsQueue
  | setMode => exact execSetMode_keepsQueue
  | factoryClear => exact execFactoryClear_keepsQueue
  | discardPending => exact execDiscardPending_keepsQueue
  | passFrame => exact execPassFrame_keepsQueue
  | stagedCheck => exact execStagedCheck_keepsQueue
  | denyClear => exact execDenyClear_keepsQueue
  | readTotals => exact execReadTotals_keepsQueue
  | ackFaults => exact execAckFaults_keepsQueue
  | readStatus => exact execReadStatus_keepsQueue
  | restart => exact execRestart_keepsQueue
  | unknownRequest => exact execUnknownRequest_keepsQueue
  | saleFrameReceived => exact execSaleFrameReceived_keepsQueue
  | saleFrameSent => exact execSaleFrameSent_keepsQueue
  | doorOpened => exact execDoorOpened_keepsQueue
  | doorClosed => exact execDoorClosed_keepsQueue
  | resetLineAsserted | powerLoss => exact keepsQueue_next (.refl s)
  | resetLineReleased => exact execResetLineReleased_keepsQueue
  | powerUp => exact execPowerUp_keepsQueue
  | clockSecond => exact execClockSecond_keepsQueue
  | quoteLifeExpiry p => exact expiry_keepsQueue (SameQueue.controlled (.refl s) (release_controlled (.refl p s)))
  | inactivityExpiry p => exact expiry_keepsQueue (SameQueue.controlled (.refl s) (cancelCollecting_controlled (.refl p s)))
  | cardWaitExpiry => exact expiry_keepsQueue (endReading_sameQueue (.refl s))
  | tearWindowExpiry => exact execTearWindowExpiry_keepsQueue
  | settleLimitExpiry => exact execSettleLimitExpiry_keepsQueue
  | cutLimitExpiry => exact execCutLimitExpiry_keepsQueue
  | lendLimitExpiry => exact expiry_keepsQueue (reclaim_sameQueue (.refl s))
  | reclaimGraceExpiry => exact execReclaimGraceExpiry_keepsQueue
  | pollDue => exact keepsQueue_next (sameQueue_ite (settle_sameQueue (pollFallsDue_sameQueue (.refl s))) (.refl s))
  | answerTimeout => exact execAnswerTimeout_keepsQueue
  | missingThreshold => exact expiry_keepsQueue (becomeMissing_sameQueue (.refl s))
  | dispensePollLimit => exact execDispensePollLimit_keepsQueue
  | writeAnswerTimeout => exact execWriteAnswerTimeout_keepsQueue
  | deviceFrameDiscarded => exact execDeviceFrameDiscarded_keepsQueue
  | pollAnswer =>
    exact keepsQueue_next (receive_sameQueue (.refl s) fun h => forwardOr_sameQueue h takePoll_sameQueue)
  | announceAnswer => exact execAnnounceAnswer_keepsQueue
  | acknowledgement => exact keepsQueue_next (receive_sameQueue (.refl s) acknowledged_sameQueue)
  | present => exact keepsQueue_next (receive_sameQueue (.refl s) fun h => forwardOr_sameQueue h cardPresent_sameQueue)
  | noCard => exact keepsQueue_next (receive_sameQueue (.refl s) fun h => forwardOr_sameQueue h cardAbsent_sameQueue)
  | collision =>
    exact keepsQueue_next (receive_sameQueue (.refl s) fun h => forwardOr_sameQueue (sameQueue_ite h h) cardAbsent_sameQueue)
  | image => exact keepsQueue_next (receive_sameQueue (.refl s) imageReturned_sameQueue)
  | readFailed => exact keepsQueue_next (receive_sameQueue (.refl s) readNotDone_sameQueue)
  | writeOk | writeFailed | writeUncertain => exact writeAnswered_keepsQueue
  | statusAnswer => exact keepsQueue_next (receive_sameQueue (.refl s) statusTaken_sameQueue)
  | deviceFrameSent => exact execDeviceFrameSent_keepsQueue

/-- A command whose request is not taken changes nothing (R189). -/
theorem exec_waits {c : Instr} {s : State} (h : requestHead c ≠ none) (waits : takes c s = false) : exec c s = .next s := by
  cases c with
  | quote | pay | cancel | touch | loadTable | clearStaged | stagedCheck | readTable | activate | cancelActivation | cashConfig
  | tubeAdjust | tubeClear | denyAdd | denyRemove | denyLoad | denyClear | readJournal | confirmJournal | readTotals
  | closeShift | ackFaults | lendLink | returnLink | setTime | setTiming | linkTiming | setMode | readStatus | restart
  | factoryClear | discardPending | passFrame | unknownRequest =>
    simp only [exec, execQuote, execPay, execCancel, execTouch, execLoadTable, execClearStaged, execStagedCheck, execReadTable,
     execActivate, execCancelActivation, execCashConfig, execTubeAdjust, execTubeClear, execDenyAdd, execDenyRemove,
     execDenyLoad, execDenyClear, execReadJournal, execConfirmJournal, execReadTotals, execCloseShift, execAckFaults,
     execLendLink, execReturnLink, execSetTime, execSetTiming, execLinkTiming, execSetMode, execReadStatus, execRestart,
     execFactoryClear, execDiscardPending, execPassFrame, execUnknownRequest, request_waits waits]
  | saleFrameReceived | saleFrameSent | doorOpened | doorClosed | resetLineAsserted | resetLineReleased | powerUp | powerLoss
  | clockSecond | quoteLifeExpiry | inactivityExpiry | cardWaitExpiry | tearWindowExpiry | settleLimitExpiry | cutLimitExpiry
  | lendLimitExpiry | reclaimGraceExpiry | pollDue | answerTimeout | missingThreshold | dispensePollLimit | writeAnswerTimeout
  | deviceFrameDiscarded | pollAnswer | announceAnswer | acknowledgement | present | noCard | collision | image | readFailed
  | writeOk | writeFailed | writeUncertain | statusAnswer | deviceFrameSent => exact absurd rfl h

end Sys2Proof.Machine

namespace Sys2Proof.Proofs
open Sys2Proof Sys2Proof.Machine

/-- Settles O2: every command keeps the queue, and a request that is not taken changes nothing. -/
theorem everyCommandCompletes : Obligations.EveryCommandCompletes := by
  exact ⟨exec_keepsQueue, fun _ _ => exec_waits⟩

end Sys2Proof.Proofs

/-! ### The step and the queue of waiting commands -/

namespace Sys2Proof.Machine

/-- The later of two replacements of the queue is the one that stands. -/
@[simp] theorem setPending_setPending (cs ds : List Instr) (s : State) : setPending cs (setPending ds s) = setPending cs s := rfl

/-- An empty queue idles (log 2). -/
theorem step_of_pending_nil {s : State} (h : s.pending = []) : step s = .next s := by
  rw [step, h]

/-- The front command leaves the queue before it runs (log 2). -/
theorem step_of_pending_cons {c : Instr} {cs : List Instr} {s : State} (h : s.pending = c :: cs) :
    step s = exec c (setPending cs s) := by
  rw [step, h]

end Sys2Proof.Machine

namespace Sys2Proof.Proofs
open Sys2Proof Sys2Proof.Machine

/-- Settles O1: by the two cases of the queue; the rest written back replaces the whole queue, front command included. -/
theorem stepTakesFrontCommand : Obligations.StepTakesFrontCommand := by
  refine ⟨fun c cs s => ?front, fun _ => step_of_pending_nil⟩
  case front =>
    rw [step_of_pending_cons (setPending_pending (c :: cs) s), setPending_setPending]

end Sys2Proof.Proofs
